-- ==== Sys2Proof/Word.lean ====
section
/-! DEFINITION. The words of the CT-830: bytes and multi-byte fields as they cross the link (R168), fixed-length tables
indexed by `Fin`, and the plain types that the operands of the commands use. -/

namespace Sys2Proof

/-- One byte of a link frame or of a face sensor reply (R155, R168). -/
abbrev Byte := BitVec 8

/-- A two-byte field, most significant byte first on the wire (R168). -/
abbrev Half := BitVec 16

/-- A three-byte field: E and the four exposure thresholds (R168). -/
abbrev Triple := BitVec 24

/-- Plant seconds, a 32-bit count (00_scope.md section 4.1, R168). -/
abbrev Seconds := BitVec 32

/-- A table of `n` records, one for each coil, unit, point and so on. -/
abbrev Tab (α : Type) (n : Nat) := Vector α n

/-- The record of index `k`. -/
def Tab.at {α : Type} {n : Nat} (t : Tab α n) (k : Fin n) : α := t[k]

/-- The table with the record of index `k` replaced. -/
def Tab.put {α : Type} {n : Nat} (t : Tab α n) (k : Fin n) (a : α) : Tab α n := t.set k a

/-- The table whose record of index `k` is `f k`. -/
def Tab.build {α : Type} {n : Nat} (f : Fin n → α) : Tab α n := ⟨(List.ofFn f).toArray, by simp⟩

/-- Every record of the table passed through `f`. -/
def Tab.each {α β : Type} {n : Nat} (t : Tab α n) (f : α → β) : Tab β n := Tab.build fun k => f (t.at k)

@[simp] theorem Tab.at_put_self {α : Type} {n : Nat} (t : Tab α n) (k : Fin n) (a : α) : (t.put k a).at k = a := by
  simp [Tab.at, Tab.put]

theorem Tab.at_put_of_ne {α : Type} {n : Nat} (t : Tab α n) {k j : Fin n} (a : α) (h : j ≠ k) :
    (t.put k a).at j = t.at j := by
  simp only [Tab.at, Tab.put, Fin.getElem_fin]
  exact Vector.getElem_set_ne _ _ (fun e => h (Fin.ext e.symm))

theorem Tab.at_put {α : Type} {n : Nat} (t : Tab α n) (k j : Fin n) (a : α) :
    (t.put k a).at j = if j = k then a else t.at j := by
  by_cases h : j = k
  · subst h; simp
  · simp [h, Tab.at_put_of_ne]

@[simp] theorem Tab.at_build {α : Type} {n : Nat} (f : Fin n → α) (k : Fin n) : (Tab.build f).at k = f k := by
  simp [Tab.at, Tab.build]

@[simp] theorem Tab.at_each {α β : Type} {n : Nat} (t : Tab α n) (f : α → β) (k : Fin n) :
    (t.each f).at k = f (t.at k) := by
  simp [Tab.each]

theorem Tab.ext_at {α : Type} {n : Nat} {t u : Tab α n} (h : ∀ k, t.at k = u.at k) : t = u :=
  Vector.ext fun i hi => h ⟨i, hi⟩

/-- The POSTURE strap (R15): FIELD asks the part to protect, BENCH to stay in TEST. -/
inductive Strap where
  | field
  | bench
  deriving DecidableEq, Repr

/-- How a READ-POINT transaction that was not cut off ends (R38): no address acknowledge, or the four reply bytes as
received (R39): temperature high byte, temperature low byte, status byte, check byte. -/
inductive Reply where
  | noAnswer
  | bytes (high low status check : Byte)
  deriving DecidableEq, Repr

/-- What a completion that the store's memory signals belongs to (R20): a phase whose time limit has expired before, or the
phase in flight, with whether a VERIFY's read-back agrees. -/
inductive Completion where
  | late
  | ofPhase (same : Bool)
  deriving DecidableEq, Repr

/-- The fields of a SET-COIL request after the coil number, in the order and at the widths of R171. -/
structure CoilWire where
  present : Byte
  unit : Byte
  quorum : Byte
  theta : Half
  phi : Half
  confirm : Byte
  lambda : Half
  weight : Byte
  a1 : Triple
  a2 : Triple
  trip : Triple
  recover : Triple
  settleFrames : Byte
  staleLimit : Byte
  g1 : Half
  holdDown : Half
  proveLimit : Byte
  lockoutLimit : Byte
  lockoutWindow : Byte
  blindOffset : Half
  blindFloor : Half
  lwt : Byte
  lat : Byte
  deriving DecidableEq, Repr

end Sys2Proof
end

