-- ==== Sys2Proof/Syntax.lean ====
section
/-! DEFINITION. The commands of the CT-830: one constructor for each row of spec/opcode_table.json, in the table's order.
A command of the link carries the request's TAG and its payload fields as the bytes that cross the link (R169, R171,
R172). A command of the part's own blocks names its coil, unit, segment, input, output or channel by an index counted
from 0, so `(0 : Fin 6)` is C1. -/

namespace Sys2Proof

/-- The commands. Requests (unknownRequest to restart) stand for a checked frame of that request reaching the receive
buffer (R157); the other commands are events of the part's blocks. -/
inductive Instr where
  /-- COLD_START (R16): power-on, or assertion of the RESET line. -/
  | coldStart
  /-- WARM_START (R17): the warm start of an accepted RESTART begins. -/
  | warmStart
  /-- START_COMPLETE (R16): the start in progress completes; `strap` is the level it samples at the POSTURE pin. -/
  | startComplete (strap : Strap)
  /-- PLANT_SECOND_TICK (R16): one second has passed. -/
  | plantSecondTick
  /-- RX_BYTE (R156): the receiver delivers one byte. -/
  | rxByte (b : Byte)
  /-- GAP_TIMER_EXPIRY (R156). -/
  | gapTimerExpiry
  /-- TX_ITEM_SENT (R159): the last byte of the head item leaves the transmitter. -/
  | txItemSent
  /-- UNKNOWN_REQUEST (R161): a checked frame whose KIND is not a request kind. -/
  | unknownRequest (kind tag : Byte) (payload : List Byte)
  /-- GET_STATUS (R164). -/
  | getStatus (tag clear : Byte)
  /-- GET_COIL (R165). -/
  | getCoil (tag coil : Byte)
  /-- GET_UNIT (R123). -/
  | getUnit (tag unit : Byte)
  /-- GET_POINTS (R52). -/
  | getPoints (tag segment start clear : Byte)
  /-- GET_CHANNELS (R36). -/
  | getChannels (tag : Byte)
  /-- GET_TRIP (R165). -/
  | getTrip (tag coil : Byte)
  /-- GET_ALERTS (R154). -/
  | getAlerts (tag : Byte)
  /-- PUT_DEMAND (R126): the pairs of output id and value, in the request's order. -/
  | putDemand (tag : Byte) (pairs : List (Byte × Half))
  /-- ACK_SOURCE (R149). -/
  | ackSource (tag source : Byte)
  /-- ACK_TOP (R150). -/
  | ackTop (tag : Byte)
  /-- TRIP_RESET (R99). -/
  | tripReset (tag coil : Byte)
  /-- SET_MODE_ARMED (R14): SET-MODE with mode code 1. -/
  | setModeArmed (tag : Byte)
  /-- SET_MODE_TEST (R13): SET-MODE with mode code 2. -/
  | setModeTest (tag : Byte)
  /-- FORCE_STAGE (R102). -/
  | forceStage (tag coil stage : Byte)
  /-- RELEASE_STAGE (R104). -/
  | releaseStage (tag coil : Byte)
  /-- SET_COIL (R4). -/
  | setCoil (tag coil : Byte) (fields : CoilWire)
  /-- SET_UNIT (R5). -/
  | setUnit (tag unit : Byte) (damperMin strokeLimit : Half) (fanStopLimit : Byte) (holdOff : Half)
  /-- SET_SEGMENT (R5). -/
  | setSegment (tag segment interval : Byte)
  /-- SET_POINT (R6). -/
  | setPoint (tag point enabled segment address coil included : Byte)
  /-- SET_CHANNEL (R7). -/
  | setChannel (tag channel trim : Byte) (low high : Half)
  /-- SET_SCAN (R7). -/
  | setScan (tag : Byte) (channels : List Byte)
  /-- SET_OUTPUT (R9). -/
  | setOutput (tag output lifetime policy : Byte) (value : Half)
  /-- SET_INPUT (R9). -/
  | setInput (tag input polarity debounce : Byte)
  /-- SET_SOURCE (R10). -/
  | setSource (tag source cls mask : Byte)
  /-- SET_RESOLVER (R10). -/
  | setResolver (tag level : Byte)
  /-- SAVE (R19). -/
  | save (tag : Byte)
  /-- RESTART (R17). -/
  | restart (tag : Byte)
  /-- STORE_PHASE_COMPLETE (R20): the memory signals this completion. -/
  | storePhaseComplete (completion : Completion)
  /-- STORE_PHASE_LIMIT_EXPIRY (R20). -/
  | storePhaseLimitExpiry
  /-- CONVERSION_COMPLETE (R25): the conversion in flight completes with this raw code, 0..4095. -/
  | conversionComplete (code : BitVec 12)
  /-- FRAME_TIMER_EXPIRY (R45). -/
  | frameTimerExpiry (segment : Fin 3)
  /-- READ_POINT_COMPLETE (R39): the attempt in flight on the segment ends with this reply. -/
  | readPointComplete (segment : Fin 3) (reply : Reply)
  /-- CLOCK_HOLD_TIMEOUT (R38). -/
  | clockHoldTimeout (segment : Fin 3)
  /-- DATA_HELD_TIMEOUT (R41). -/
  | dataHeldTimeout (segment : Fin 3)
  /-- RECOVERY_COMPLETE (R41): `freed` is whether the pulses freed the data line. -/
  | recoveryComplete (segment : Fin 3) (freed : Bool)
  /-- HOLD_DOWN_EXPIRY (R92). -/
  | holdDownExpiry (coil : Fin 6)
  /-- PROVE_TIMER_EXPIRY (R97). -/
  | proveTimerExpiry (coil : Fin 6)
  /-- STROKE_TIMER_EXPIRY (R114). -/
  | strokeTimerExpiry (unit : Fin 3)
  /-- FAN_TIMER_EXPIRY (R114). -/
  | fanTimerExpiry (unit : Fin 3)
  /-- HOLD_OFF_EXPIRY (R119). -/
  | holdOffExpiry (unit : Fin 3)
  /-- DEMAND_LIFETIME_EXPIRY (R127). -/
  | demandLifetimeExpiry (output : Fin 18)
  /-- INPUT_LEVEL_CHANGE (R137): the pin of the input goes to this level. -/
  | inputLevelChange (input : Fin 15) (high : Bool)
  /-- DEBOUNCE_EXPIRY (R137). -/
  | debounceExpiry (input : Fin 15)
  /-- POWER_LOSS (R22). -/
  | powerLoss
  deriving DecidableEq, Repr

end Sys2Proof
end

