-- ==== Sys2Proof/Decode.lean ====
section
/-! DEFINITION. Reading a command from a word of the opcode table's bits. spec/opcode_table.json gives no row any bits
(every row's "fields" is empty), so no word spells a command. The bytes of the link are decoded in
Sys2Proof/Machine/Link.lean. -/

namespace Sys2Proof

/-- The command that a word of the table's bits spells: none, since the table gives bits to no row. -/
def decodeTableWord (_nbits _w : Nat) : Option Instr := none

end Sys2Proof
end

