-- ==== Sys2Proof/Config.lean ====
section
/-! DEFINITION. What the part fixes (capacities and limits the manual states as numbers) and the free values: constants
without a body for what the manual leaves open. -/

namespace Sys2Proof.Config

/-- Free value (notes/assumptions/1.md): plant seconds after a second has passed at the top of the 32-bit count. The
manual calls plant seconds a 32-bit count and does not say what follows its highest value. -/
opaque plantSecondsAfterTop : Nat → Seconds

/-- Free value (notes/assumptions/2.md): whether, when an item leaves the transmit queue with room for both claimants,
dispatch is taken before the resolver's selection. The table of R160 allows either order. -/
opaque dispatchFirst : Nat → Bool

/-- Capacity of the transmit queue (R159). -/
def txCapacity : Nat := 4

/-- Capacity of the receive buffer (R159). -/
def rxCapacity : Nat := 2

/-- The longest payload a LENGTH byte of at most 242 allows (R155). -/
def maxPayload : Nat := 240

/-- Upper bound of the exposure count E (R71). -/
def maxExposure : Nat := 16777215

/-- Bound of the depth and of the warmth that one frame may use (R74, R75), in tc. -/
def maxDepth : Nat := 640

/-- Bound of a saturating 16-bit count (R25, R37, R158). -/
def maxCount16 : Nat := 65535

/-- Bound of a saturating 8-bit count (R49, R55). -/
def maxCount8 : Nat := 255

/-- Misses in a row that drop a point (R49). -/
def dropLimit : Nat := 3

/-- The format number of the image (R16, R19). -/
def imageFormat : Nat := 1

/-- A fully open valve or damper (00_scope.md section 4.1). -/
def fullOpen : Nat := 1000

end Sys2Proof.Config
end

