-- ==== Sys2Proof/Machine/State.lean ====
section
/-! DEFINITION. The state of the CT-830 as plain data: the configuration tables, the running records of the ten blocks,
the link's buffers, the pins, the nonvolatile regions and the queue of waiting commands; the reasons a command can stop;
and the state right after reset. Indices count from 0: coil `(0 : Fin 6)` is C1. -/

namespace Sys2Proof.Machine

open Sys2Proof

/-! ## Configuration tables (R2, R5, R6, R7, R9, R10) -/

/-- A coil station record (R2). -/
structure CoilCfg where
  present : Bool
  unit : Fin 3
  quorum : Nat
  theta : Int
  phi : Int
  confirm : Nat
  lambda : Int
  weight : Nat
  a1 : Nat
  a2 : Nat
  trip : Nat
  recover : Nat
  settleFrames : Nat
  staleLimit : Nat
  g1 : Nat
  holdDown : Nat
  proveLimit : Nat
  lockoutLimit : Nat
  lockoutWindow : Nat
  blindOffset : Nat
  blindFloor : Int
  lwt : Option (Fin 16)
  lat : Option (Fin 16)
  deriving DecidableEq, Repr

/-- A unit record (R5). -/
structure UnitCfg where
  damperMin : Nat
  strokeLimit : Nat
  fanStopLimit : Nat
  holdOff : Nat
  deriving DecidableEq, Repr

/-- A point record (R6). -/
structure PointCfg where
  enabled : Bool
  segment : Fin 3
  address : Nat
  coil : Option (Fin 6)
  included : Bool
  deriving DecidableEq, Repr

/-- A channel record's configuration (R7). -/
structure ChannelCfg where
  trim : Int
  low : Int
  high : Int
  deriving DecidableEq, Repr

/-- An output's unattended policy (R9); a binary output's fixed value is 0 (off) or 1 (on). -/
inductive Policy where
  | holdLast
  | fixed (value : Nat)
  deriving DecidableEq, Repr

/-- An output record (R9). -/
structure OutputCfg where
  lifetime : Nat
  policy : Policy
  deriving DecidableEq, Repr

/-- An input record (R9); the debounce time counts steps of 100 ms. -/
structure InputCfg where
  activeLow : Bool
  debounce : Nat
  deriving DecidableEq, Repr

/-- An alert source record's configuration (R10); class `c : Fin 8` is severity class `c + 1`. -/
structure SourceCfg where
  cls : Fin 8
  masked : Bool
  deriving DecidableEq, Repr

/-- The active configuration tables, and what the image and a SAVE's snapshot hold (R18). -/
structure Tables where
  coils : Tab CoilCfg 6
  units : Tab UnitCfg 3
  intervals : Tab Nat 3
  points : Tab PointCfg 48
  channels : Tab ChannelCfg 16
  scan : List (Fin 16)
  outputs : Tab OutputCfg 18
  inputs : Tab InputCfg 15
  sources : Tab SourceCfg 65
  autoAck : Nat
  deriving DecidableEq, Repr

/-- The default coil station record (R2). -/
def CoilCfg.default : CoilCfg :=
  { present := false, unit := 0, quorum := 2, theta := 48, phi := 8, confirm := 2, lambda := 80, weight := 4,
    a1 := 11520, a2 := 23040, trip := 46080, recover := 3840, settleFrames := 5, staleLimit := 3, g1 := 400,
    holdDown := 600, proveLimit := 30, lockoutLimit := 3, lockoutWindow := 24, blindOffset := 32, blindFloor := -80,
    lwt := none, lat := none }

/-- The default record of point `p + 1` (R6): segment (p div 16) + 1 at address 8 + (p mod 16). The manual gives the coil field no
default; none is the model's choice (DESIGN CHOICE, notes/assumptions/31.md). -/
def PointCfg.default (p : Fin 48) : PointCfg :=
  { enabled := false, segment := ⟨p.val / 16, by omega⟩, address := 8 + p.val % 16, coil := none, included := true }

/-- The default record of output `o + 1` (R9): valves FIXED 1000, pumps FIXED on, dampers FIXED 0, fans HOLD_LAST. -/
def OutputCfg.default (o : Fin 18) : OutputCfg :=
  { lifetime := 30
    policy := if o.val < 6 then .fixed 1000 else if o.val < 12 then .fixed 1 else if o.val < 15 then .fixed 0 else .holdLast }

/-- The default class number less 1 of the source of function `j` of a coil (R140). -/
def coilClass : Fin 8 → Fin 8
  | 0 => 5 | 1 => 3 | 2 => 1 | 3 => 0 | 4 => 2 | 5 => 6 | 6 => 2 | 7 => 4

/-- The default class number less 1 of the source of function `j` of a unit (R140). -/
def unitClass : Fin 4 → Fin 8
  | 0 => 4 | 1 => 1 | 2 => 2 | 3 => 3

/-- The default class number less 1 of the device sources 60 to 64 (R140). -/
def deviceClass : Nat → Fin 8
  | 0 => 3 | 1 => 1 | 2 => 7 | 3 => 2 | _ => 5

/-- The default class number less 1 of a source (R140). -/
def defaultClass (x : Fin 65) : Fin 8 :=
  if x.val < 48 then coilClass ⟨x.val % 8, by omega⟩
  else if x.val < 60 then unitClass ⟨(x.val - 48) % 4, by omega⟩
  else deviceClass (x.val - 60)

/-- The tables at their defaults (R2, R5, R6, R7, R9, R10). -/
def Tables.default : Tables :=
  { coils := Tab.build fun _ => CoilCfg.default
    units := Tab.build fun _ => { damperMin := 150, strokeLimit := 120, fanStopLimit := 60, holdOff := 120 }
    intervals := Tab.build fun _ => 4
    points := Tab.build PointCfg.default
    channels := Tab.build fun _ => { trim := 0, low := -800, high := 800 }
    scan := List.ofFn fun c => c
    outputs := Tab.build OutputCfg.default
    inputs := Tab.build fun _ => { activeLow := false, debounce := 2 }
    sources := Tab.build fun x => { cls := defaultClass x, masked := false }
    autoAck := 8 }

/-! ## Nonvolatile regions and the store (R18 to R22) -/

/-- The image (R18): its format number, its configuration tables, and its CRC-16 as it stands in the region, whether it
matches them or not. -/
structure Image where
  format : Nat
  tables : Tables
  crc : Half
  deriving DecidableEq, Repr

/-- The lockout area (R18): its six flags, one per coil, and its own CRC-16 as it stands in the region. -/
structure Area where
  flags : Tab Bool 6
  crc : Half
  deriving DecidableEq, Repr

/-- The phases of a store job (R20). An area phase carries the flags that its PROGRAM took when it began. -/
inductive StorePhase where
  | imageErase
  | imageProgram
  | imageVerify
  | areaProgram (flags : Tab Bool 6)
  | areaVerify (flags : Tab Bool 6)
  deriving DecidableEq, Repr

/-- What a job is: a SAVE with the snapshot taken at its acceptance, or a LOCKOUT-WRITE (R19). -/
inductive JobKind where
  | save (snapshot : Tables)
  | lockoutWrite
  deriving DecidableEq, Repr

/-- The job in flight: its kind and its phase in flight, whose time limit runs with it (R20). -/
structure Job where
  kind : JobKind
  phase : StorePhase
  deriving DecidableEq, Repr

/-- The store (R19): the job in flight, the pending SAVE's snapshot, the pending LOCKOUT-WRITE. -/
structure Store where
  job : Option Job
  pendingSave : Option Tables
  pendingLockout : Bool
  deriving DecidableEq, Repr

/-! ## Analog sampler (R23 to R36) -/

/-- Standing of a channel's latest result (section 2.3). -/
inductive ChannelStatus where
  | never
  | ok
  | wire
  | implausible
  | notScanned
  deriving DecidableEq, Repr

/-- A channel record (section 2.3). -/
structure ChannelRec where
  code : Nat
  temperature : Int
  status : ChannelStatus
  conversions : Nat
  deriving DecidableEq, Repr

/-- The scan (R23): the pass list and the entry position of the conversion in flight, counted from 1. No conversion is
in flight where the position names no entry of the list. -/
structure Sampler where
  passList : List (Fin 16)
  position : Nat
  deriving DecidableEq, Repr

/-- A coil's water-cold crossing detector (R31). -/
inductive Detector where
  | ready
  | latched
  deriving DecidableEq, Repr

/-! ## Face sensor bus (R37 to R54) -/

/-- A point's result for a frame: the nine outcomes and miss kinds of section 3.2. -/
inductive PointResult where
  | good (temperature : Int)
  | noAnswer
  | timeout
  | badCheck
  | sensorInvalid
  | implausible
  | stuck
  | notReached
  | segmentFault
  deriving DecidableEq, Repr

/-- What a segment master is doing (R37). -/
inductive MasterState where
  | idle
  | reading
  | recovering
  | faulted
  deriving DecidableEq, Repr

/-- A snapshot entry (R46); `result` is none while the entry is not attempted. -/
structure SnapEntry where
  point : Fin 48
  address : Nat
  coil : Option (Fin 6)
  included : Bool
  result : Option PointResult
  deriving DecidableEq, Repr

/-- A segment master (R37), with its BUS_FAULT condition (R44) and the frame's coil set (R46). -/
structure Master where
  state : MasterState
  frameTimer : Option Nat
  intervalAtOpen : Nat
  snapshot : List SnapEntry
  coilSet : List (Fin 6)
  openPending : Bool
  framesOpened : Nat
  framesCutShort : Nat
  busFault : Bool
  deriving DecidableEq, Repr

/-- How a point has been answering (R49). -/
inductive HealthState where
  | unseen
  | ok
  | suspect
  | dropped
  deriving DecidableEq, Repr

/-- A point's health record (R49). -/
structure Health where
  state : HealthState
  misses : Nat
  lastGood : Option Int
  lastGoodSecond : Option Seconds
  lastOutcome : Option PointResult
  deriving DecidableEq, Repr

/-! ## Face frames (R55 to R70) -/

/-- Standing of a coil's face (R60). -/
inductive FaceState where
  | sighted
  | holding
  | blind
  deriving DecidableEq, Repr

/-- Classification of a coil's latest frame (R57). -/
inductive FrameStatus where
  | none
  | accepted
  | starved
  deriving DecidableEq, Repr

/-- A face record (R55); the point sets are lists in ascending point order. -/
structure Face where
  state : FaceState
  starved : Nat
  held : Option Int
  mean : Option Int
  spread : Option Int
  status : FrameStatus
  cEff : Option Int
  validSet : List (Fin 48)
  missingSet : List (Fin 48)
  excludedSet : List (Fin 48 × PointResult)
  frameSecond : Option Seconds
  raggedMask : Option (List (Fin 48))
  raggedSecond : Option Seconds
  deriving DecidableEq, Repr

/-! ## Exposure engine (R71 to R87) -/

/-- Exposure grade of a coil (R71). -/
inductive Band where
  | clear
  | advise1
  | advise2
  | trip
  deriving DecidableEq, Repr

/-- An exposure record (R71). -/
structure Exposure where
  e : Nat
  band : Band
  confirm : Nat
  deriving DecidableEq, Repr

/-! ## Coil protection sequencer (R88 to R108) -/

/-- Protective state of a coil (R88). -/
inductive CoilStage where
  | idle
  | settle
  | watch
  | guard
  | boost
  | tripped
  | lockout
  deriving DecidableEq, Repr

/-- Standing of a coil pump against its FLOW input (R88, R97). -/
inductive Prove where
  | off
  | proving
  | proven
  | failed
  deriving DecidableEq, Repr

/-- Why a coil tripped (R93). -/
inductive TripCause where
  | exposure
  | hardLimit
  | pump
  deriving DecidableEq, Repr

/-- A trip record (R93). -/
structure TripRecord where
  second : Seconds
  cause : TripCause
  stageLeft : CoilStage
  cEff : Option Int
  held : Option Int
  mean : Option Int
  spread : Option Int
  face : FaceState
  e : Nat
  lwt : Option Int
  lat : Option Int
  validMask : List (Fin 48)
  missingMask : List (Fin 48)
  historyCount : Nat
  deriving DecidableEq, Repr

/-- A coil's sequencer record (R88); timers hold whole seconds remaining, none when stopped. -/
structure CoilSeq where
  stage : CoilStage
  settle : Nat
  holdDown : Option Nat
  prove : Prove
  proveTimer : Option Nat
  lockout : Bool
  forced : Bool
  tripRecord : Option TripRecord
  history : List Seconds
  deriving DecidableEq, Repr

/-! ## Unit shutdown and restart (R109 to R123) -/

/-- Standing of a unit (R109). -/
inductive UnitStage where
  | idle
  | run
  | temper
  | closing
  | secured
  | secureFault
  | restartHold
  deriving DecidableEq, Repr

/-- A unit record (R109); the missing proofs set is its two membership flags. -/
structure UnitRec where
  stage : UnitStage
  temper : Bool
  trip : Bool
  stroke : Option Nat
  fan : Option Nat
  holdOff : Option Nat
  missingDamper : Bool
  missingFan : Bool
  closingSecond : Option Seconds
  deriving DecidableEq, Repr

/-! ## Field outputs, demands and inputs (R124 to R139) -/

/-- A host demand record (R124); a binary output's value is 0 (off) or 1 (on). -/
structure Demand where
  value : Nat
  received : Bool
  fresh : Bool
  timer : Option Nat
  deriving DecidableEq, Repr

/-- The output pins VLV1..6, PMP1..6, DMP1..3 and FAN1..3 (R130). -/
structure Outputs where
  valves : Tab Nat 6
  pumps : Tab Bool 6
  dampers : Tab Nat 3
  fans : Tab Bool 3
  deriving DecidableEq, Repr

/-- An input's debounced state and debounce timer in milliseconds (R136). Its level is read from the pin and the
polarity. -/
structure InputRec where
  debounced : Bool
  timer : Option Nat
  deriving DecidableEq, Repr

/-! ## Alert resolver (R140 to R154) -/

/-- The collection that holds a source (R140). -/
inductive Membership where
  | none
  | pending
  | inService
  | standing
  deriving DecidableEq, Repr

/-- The running part of a source record (R140); class and mask are in the tables. -/
structure SourceRec where
  condition : Bool
  membership : Membership
  deriving DecidableEq, Repr

/-- An in-service entry (R141): the source and the class it entered with, less 1. -/
structure StackEntry where
  source : Fin 65
  cls : Fin 8
  deriving DecidableEq, Repr

/-- The resolver: source records, the in-service stack (top first), the rotation pointers (R141), and the model's own
flag that a selection event of R145 has happened in the event being handled. -/
structure Alerts where
  sources : Tab SourceRec 65
  stack : List StackEntry
  pointers : Tab (Fin 65) 8
  selectionDue : Bool
  deriving DecidableEq, Repr

/-! ## Link port (R155 to R167) -/

/-- A frame's KIND, TAG and payload (R155). -/
structure Frame where
  kind : Byte
  tag : Byte
  payload : List Byte
  deriving DecidableEq, Repr

/-- The fields of a notice filled when it begins to leave the transmitter (R148, R174). -/
structure NoticeLate where
  condition : Bool
  second : Seconds
  owner : Byte
  stage : Byte
  band : Byte
  deriving DecidableEq, Repr

/-- An item of the transmit queue (R159): a response, complete when queued, or a notice. -/
inductive TxItem where
  | response (frame : Frame)
  | notice (source : Fin 65) (cls : Fin 8) (late : Option NoticeLate)
  deriving DecidableEq, Repr

/-- The receiver (R156): IDLE, or IN_FRAME with the bytes kept since START, LENGTH first. The gap timer runs exactly in
IN_FRAME. -/
inductive Receiver where
  | idle
  | inFrame (got : List Byte)
  deriving DecidableEq, Repr

/-- The last error kind (R158). -/
inductive LinkError where
  | none
  | truncated
  | badLength
  | badCheck
  | overrun
  deriving DecidableEq, Repr

/-- The link port (R156 to R162). -/
structure Link where
  receiver : Receiver
  errorCount : Nat
  lastError : LinkError
  rxBuffer : List Frame
  txQueue : List TxItem
  restartAccepted : Bool
  deriving DecidableEq, Repr

/-! ## The whole part -/

/-- The plant mode (R12). -/
inductive PlantMode where
  | armed
  | test
  | fallback
  deriving DecidableEq, Repr

/-- Whether the part is without supply (R22), in a start (R16, R17) or running. -/
inductive Power where
  | off
  | starting (cold : Bool)
  | running
  deriving DecidableEq, Repr

/-- The latest ARMED validation result (R11): failing coil number and reason, 0 and 0 for none. -/
structure Validation where
  coil : Nat
  reason : Nat
  deriving DecidableEq, Repr

/-- The state of the part. `freeUses` is the model's own count of the free values used so far, and `pending` the queue
of commands that wait, first in, first out. -/
structure State where
  power : Power
  mode : PlantMode
  strap : Strap
  validation : Validation
  plantSeconds : Seconds
  tables : Tables
  image : Image
  area : Area
  imageInvalid : Bool
  areaDirty : Bool
  store : Store
  sampler : Sampler
  channels : Tab ChannelRec 16
  detectors : Tab Detector 6
  masters : Tab Master 3
  health : Tab Health 48
  faces : Tab Face 6
  exposures : Tab Exposure 6
  coils : Tab CoilSeq 6
  units : Tab UnitRec 3
  demands : Tab Demand 18
  outputs : Outputs
  pins : Tab Bool 15
  inputs : Tab InputRec 15
  alerts : Alerts
  alertLine : Bool
  link : Link
  freeUses : Nat
  pending : List Instr
  deriving DecidableEq, Repr

/-- Reasons for a fault: none. The manual names no event after which the part stops with a fault (POWER_LOSS is modelled
as a state, `Power.off`, which COLD_START leaves), so no command raises one and the type has no constructor. -/
inductive Fault where
  deriving DecidableEq, Repr

/-- Reasons for a refusal. -/
inductive Refusal where
  /-- Raised by `exec` for a command without a meaning (safe); no arm of this model answers with it. -/
  | notModelled (mnemonic : String)
  /-- Raised by UNKNOWN_REQUEST, PUT_DEMAND and SET_SCAN for a command whose payload is longer than the 240 bytes a
  link frame can carry (R155), so that no sender can give it (safe). -/
  | notAFrame
  deriving DecidableEq, Repr

/-! ## Start values and reset -/

/-- A master as a start leaves it, but for its timer and interval (R37). The manual gives the frame interval at open a value
only at a start's completion; before the first one the model puts the default interval of 4 quarter-seconds
(notes/assumptions/3.md). -/
def Master.start : Master :=
  { state := .idle, frameTimer := none, intervalAtOpen := 4, snapshot := [], coilSet := [], openPending := false,
    framesOpened := 0, framesCutShort := 0, busFault := false }

/-- A health record as a start leaves it (R49). -/
def Health.start : Health :=
  { state := .unseen, misses := 0, lastGood := none, lastGoodSecond := none, lastOutcome := none }

/-- A face record as a start or a presence change leaves it (R55). -/
def Face.start : Face :=
  { state := .blind, starved := 0, held := none, mean := none, spread := none, status := .none, cEff := none,
    validSet := [], missingSet := [], excludedSet := [], frameSecond := none, raggedMask := none, raggedSecond := none }

/-- An exposure record as a start leaves it, but for a coil restored to LOCKOUT (R85). -/
def Exposure.start : Exposure := { e := 0, band := .clear, confirm := 0 }

/-- A sequencer record in IDLE with nothing recorded (R105). -/
def CoilSeq.start : CoilSeq :=
  { stage := .idle, settle := 0, holdDown := none, prove := .off, proveTimer := none, lockout := false,
    forced := false, tripRecord := none, history := [] }

/-- A unit record in IDLE with everything stopped (R120). -/
def UnitRec.start : UnitRec :=
  { stage := .idle, temper := false, trip := false, stroke := none, fan := none, holdOff := none,
    missingDamper := false, missingFan := false, closingSecond := none }

/-- A demand record as a start leaves it (R124). -/
def Demand.start : Demand := { value := 0, received := false, fresh := false, timer := none }

/-- The fallback posture (R12): valves 1000, pumps on, dampers 0, fans off. -/
def Outputs.posture : Outputs :=
  { valves := Tab.build fun _ => 1000, pumps := Tab.build fun _ => true,
    dampers := Tab.build fun _ => 0, fans := Tab.build fun _ => false }

/-- The resolver as the beginning of a start leaves it (R153). -/
def Alerts.start : Alerts :=
  { sources := Tab.build fun _ => { condition := false, membership := .none }, stack := [],
    pointers := Tab.build fun _ => 0, selectionDue := false }

/-- The link port as a start leaves it (R167). -/
def Link.start : Link :=
  { receiver := .idle, errorCount := 0, lastError := .none, rxBuffer := [], txQueue := [], restartAccepted := false }

/-- The store with nothing in flight or pending (R19). -/
def Store.idle : Store := { job := none, pendingSave := none, pendingLockout := false }

/-- A channel record as a start leaves it, with the status it takes (R29). -/
def ChannelRec.start (status : ChannelStatus) : ChannelRec :=
  { code := 0, temperature := 0, status := status, conversions := 0 }

/-- The machine right after reset: power has come on, and the cold start it begins (R16) is in progress. The outputs
hold the fallback posture, the link and the resolver are empty, and the records stand at the values the manual gives
for a start. What the manual gives no value for here (the plant mode and the strap before the first start completes,
the contents of the nonvolatile regions, the input pins, the free-value count) stands at a value named in
notes/assumptions/3.md. -/
def State.reset : State :=
  { power := .starting true
    mode := .fallback
    strap := .field
    validation := { coil := 0, reason := 0 }
    plantSeconds := 0
    tables := Tables.default
    image := { format := 0, tables := Tables.default, crc := 0 }
    area := { flags := Tab.build fun _ => false, crc := 0 }
    imageInvalid := false
    areaDirty := false
    store := Store.idle
    sampler := { passList := [], position := 0 }
    channels := Tab.build fun _ => ChannelRec.start .never
    detectors := Tab.build fun _ => .ready
    masters := Tab.build fun _ => Master.start
    health := Tab.build fun _ => Health.start
    faces := Tab.build fun _ => Face.start
    exposures := Tab.build fun _ => Exposure.start
    coils := Tab.build fun _ => CoilSeq.start
    units := Tab.build fun _ => UnitRec.start
    demands := Tab.build fun _ => Demand.start
    outputs := Outputs.posture
    pins := Tab.build fun _ => false
    inputs := Tab.build fun _ => { debounced := false, timer := none }
    alerts := Alerts.start
    alertLine := false
    link := Link.start
    freeUses := 0
    pending := [] }

end Sys2Proof.Machine
end

