-- ==== Sys2Proof/Machine/Ops.lean ====
section
/-! DEFINITION. The named operations over the state: one update for each table of records, the numbering of outputs,
inputs and alert sources (R8, R140), timers counted in whole seconds, byte strings and the CRC-16 (R155, R168). -/

namespace Sys2Proof.Machine

open Sys2Proof

/-! ## One record replaced -/

/-- The state with coil `k`'s sequencer record replaced. -/
def State.setCoil (s : State) (k : Fin 6) (r : CoilSeq) : State := { s with coils := s.coils.put k r }

/-- The state with coil `k`'s exposure record replaced. -/
def State.setExposure (s : State) (k : Fin 6) (r : Exposure) : State := { s with exposures := s.exposures.put k r }

/-- The state with coil `k`'s face record replaced. -/
def State.setFace (s : State) (k : Fin 6) (r : Face) : State := { s with faces := s.faces.put k r }

/-- The state with coil `k`'s crossing detector replaced. -/
def State.setDetector (s : State) (k : Fin 6) (r : Detector) : State := { s with detectors := s.detectors.put k r }

/-- The state with unit `u`'s record replaced. -/
def State.setUnit (s : State) (u : Fin 3) (r : UnitRec) : State := { s with units := s.units.put u r }

/-- The state with segment `g`'s master replaced. -/
def State.setMaster (s : State) (g : Fin 3) (r : Master) : State := { s with masters := s.masters.put g r }

/-- The state with point `p`'s health record replaced. -/
def State.setHealth (s : State) (p : Fin 48) (r : Health) : State := { s with health := s.health.put p r }

/-- The state with channel `c`'s record replaced. -/
def State.setChannel (s : State) (c : Fin 16) (r : ChannelRec) : State := { s with channels := s.channels.put c r }

/-- The state with output `o`'s demand record replaced. -/
def State.setDemand (s : State) (o : Fin 18) (r : Demand) : State := { s with demands := s.demands.put o r }

/-- The state with input `i`'s record replaced. -/
def State.setInput (s : State) (i : Fin 15) (r : InputRec) : State := { s with inputs := s.inputs.put i r }

/-- The state with input `i`'s pin at a level. -/
def State.setPin (s : State) (i : Fin 15) (high : Bool) : State := { s with pins := s.pins.put i high }

/-- The state with the resolver replaced. -/
def State.setAlerts (s : State) (a : Alerts) : State := { s with alerts := a }

/-- The state with the link port replaced. -/
def State.setLink (s : State) (l : Link) : State := { s with link := l }

/-- The state with the store replaced. -/
def State.setStore (s : State) (t : Store) : State := { s with store := t }

/-- The state with the active tables replaced. -/
def State.setTables (s : State) (t : Tables) : State := { s with tables := t }

/-- The state with the output pins replaced. -/
def State.setOutputs (s : State) (o : Outputs) : State := { s with outputs := o }

/-! ## Numbering (R8, R140) -/

/-- The coils in ascending order. -/
def allCoils : List (Fin 6) := [0, 1, 2, 3, 4, 5]

/-- The units, and the segments that serve them, in ascending order. -/
def allUnits : List (Fin 3) := [0, 1, 2]

/-- The output id of coil `k`'s valve, less 1 (R8). -/
def valveId (k : Fin 6) : Fin 18 := ⟨k.val, by omega⟩

/-- The output id of coil `k`'s pump, less 1 (R8). -/
def pumpId (k : Fin 6) : Fin 18 := ⟨6 + k.val, by omega⟩

/-- The output id of unit `u`'s damper, less 1 (R8). -/
def damperId (u : Fin 3) : Fin 18 := ⟨12 + u.val, by omega⟩

/-- The output id of unit `u`'s fan, less 1 (R8). -/
def fanId (u : Fin 3) : Fin 18 := ⟨15 + u.val, by omega⟩

/-- Whether an output is a position (a valve or a damper) or binary (R8). -/
def isPosition (o : Fin 18) : Bool := o.val < 6 || (12 ≤ o.val && o.val < 15)

/-- The input id of coil `k`'s FLOW, less 1 (R8). -/
def flowInput (k : Fin 6) : Fin 15 := ⟨k.val, by omega⟩

/-- The input id of unit `u`'s DAMPER_CLOSED, less 1 (R8). -/
def damperInput (u : Fin 3) : Fin 15 := ⟨6 + u.val, by omega⟩

/-- The input id of unit `u`'s FAN_PROVEN, less 1 (R8). -/
def fanInput (u : Fin 3) : Fin 15 := ⟨9 + u.val, by omega⟩

/-- The source of function `j` of coil `k + 1`: 8k + j (R140). -/
def coilSource (k : Fin 6) (j : Fin 8) : Fin 65 := ⟨8 * k.val + j.val, by omega⟩

/-- The source of function `j` of unit `u + 1`: 48 + 4u + j (R140). -/
def unitSource (u : Fin 3) (j : Fin 4) : Fin 65 := ⟨48 + 4 * u.val + j.val, by omega⟩

/-- ADVISE1 of a coil (R140). -/
def srcAdvise1 (k : Fin 6) : Fin 65 := coilSource k 0
/-- ADVISE2 of a coil (R140). -/
def srcAdvise2 (k : Fin 6) : Fin 65 := coilSource k 1
/-- TRIP of a coil (R140). -/
def srcTrip (k : Fin 6) : Fin 65 := coilSource k 2
/-- LOCKOUT of a coil (R140). -/
def srcLockout (k : Fin 6) : Fin 65 := coilSource k 3
/-- BLIND of a coil (R140). -/
def srcBlind (k : Fin 6) : Fin 65 := coilSource k 4
/-- RAGGED of a coil (R140). -/
def srcRagged (k : Fin 6) : Fin 65 := coilSource k 5
/-- PUMP_FAIL of a coil (R140). -/
def srcPumpFail (k : Fin 6) : Fin 65 := coilSource k 6
/-- WATER_COLD of a coil (R140). -/
def srcWaterCold (k : Fin 6) : Fin 65 := coilSource k 7
/-- SECURED of a unit (R140). -/
def srcSecured (u : Fin 3) : Fin 65 := unitSource u 0
/-- SECURE_FAULT of a unit (R140). -/
def srcSecureFault (u : Fin 3) : Fin 65 := unitSource u 1
/-- BUS_FAULT of a unit (R140). -/
def srcBusFault (u : Fin 3) : Fin 65 := unitSource u 2
/-- DEMAND_STALE of a unit (R140). -/
def srcDemandStale (u : Fin 3) : Fin 65 := unitSource u 3
/-- ANALOG_FAULT (R140). -/
def srcAnalogFault : Fin 65 := 60
/-- IMAGE_INVALID (R140). -/
def srcImageInvalid : Fin 65 := 61
/-- STORE_DONE (R140). -/
def srcStoreDone : Fin 65 := 62
/-- STORE_FAIL (R140). -/
def srcStoreFail : Fin 65 := 63
/-- MODE_TEST (R140). -/
def srcModeTest : Fin 65 := 64

/-- Whether a source is a level source; the others are edge sources (R140). -/
def isLevel (x : Fin 65) : Bool :=
  if x.val < 48 then x.val % 8 == 2 || x.val % 8 == 3 || x.val % 8 == 4 || x.val % 8 == 6
  else if x.val < 60 then (x.val - 48) % 4 != 0
  else x.val == 60 || x.val == 61 || x.val == 64

/-! ## Reading the records of a coil or unit -/

/-- The active record of coil `k`. -/
def State.cfg (s : State) (k : Fin 6) : CoilCfg := s.tables.coils.at k

/-- Coil `k` is present and its unit field is `u` (R110). -/
def State.coilOf (s : State) (u : Fin 3) (k : Fin 6) : Bool := (s.cfg k).present && decide ((s.cfg k).unit = u)

/-- The debounced FLOW input of coil `k` (R97). -/
def State.flow (s : State) (k : Fin 6) : Bool := (s.inputs.at (flowInput k)).debounced

/-- The damper proof of unit `u` is present: DAMPER_CLOSED is asserted (R109). -/
def State.damperProof (s : State) (u : Fin 3) : Bool := (s.inputs.at (damperInput u)).debounced

/-- The fan proof of unit `u` is present: FAN_PROVEN is deasserted (R109). -/
def State.fanProof (s : State) (u : Fin 3) : Bool := !(s.inputs.at (fanInput u)).debounced

/-- The level of input `i`: its pin taken through its polarity (R136). -/
def State.inputLevel (s : State) (i : Fin 15) : Bool := (s.pins.at i) != (s.tables.inputs.at i).activeLow

/-- A channel's temperature where its reading is valid, that is, while its status is OK (R30). -/
def State.validTemp (s : State) (c : Option (Fin 16)) : Option Int :=
  match c with
  | none => none
  | some c => if (s.channels.at c).status = .ok then some (s.channels.at c).temperature else none

/-- A store job of kind SAVE is in flight or pending (R1, R13, R19). -/
def State.saveBusy (s : State) : Bool :=
  s.store.pendingSave.isSome ||
    match s.store.job with
    | some ⟨.save _, _⟩ => true
    | _ => false

/-- Any store job is in flight or pending (R17). -/
def State.storeBusy (s : State) : Bool :=
  s.store.job.isSome || s.store.pendingSave.isSome || s.store.pendingLockout

/-! ## Timers and counts -/

/-- A count that stops at its bound (00_scope.md section 4.2). -/
def satAdd (bound n : Nat) : Nat := if n < bound then n + 1 else n

/-- A timer after one more second: a running timer keeps at least one second until its expiry is taken, since a running
timer with any time left reads at least 1 (R168; notes/assumptions/4.md). -/
def countDown : Option Nat → Option Nat
  | none => none
  | some n => some (if n ≤ 1 then n else n - 1)

/-! ## Bytes (R155, R168) -/

/-- The low `n` bytes of `v`, most significant byte first (R168). -/
def bytesBE : Nat → Nat → List Byte
  | 0, _ => []
  | n + 1, v => BitVec.ofNat 8 (v / 256 ^ n) :: bytesBE n v

/-- A number of one byte. -/
def u8 (v : Nat) : Byte := BitVec.ofNat 8 v

/-- A signed field of two bytes, in two's complement (R168). -/
def i16 (z : Int) : List Byte := bytesBE 2 (BitVec.ofInt 16 z).toNat

/-- A flag (R168). -/
def flagByte (b : Bool) : Byte := if b then 1 else 0

/-- A byte of flags, the first one in bit 0. -/
def flagBits : List Bool → Nat
  | [] => 0
  | b :: bs => (if b then 1 else 0) + 2 * flagBits bs

/-- Two bytes as a two-byte field, most significant first (R168). -/
def half (h l : Byte) : Half := h ++ l

/-- Three bytes as a three-byte field, most significant first (R168). -/
def triple (h m l : Byte) : Triple := h ++ m ++ l

/-- One byte taken into the CRC-16: polynomial x^16 + x^12 + x^5 + 1, no reflection (R18, R155). -/
def crcBits : Nat → Half → Half
  | 0, c => c
  | n + 1, c => crcBits n (if c.msb then (c <<< 1) ^^^ 0x1021 else c <<< 1)

/-- `f v`, written so that the kernel evaluates `v` before it goes on (`evaluated_eq` of Laws/Regions.lean). -/
def evaluated {α : Type} (v : Half) (f : Half → α) : α :=
  match v.toNat with
  | 0 => f 0
  | n + 1 => f (BitVec.ofNat 16 (n + 1))

/-- Bytes taken into the CRC-16 one after another; each byte meets the high half (R18, R155). -/
def crcBytes : List Byte → Half → Half
  | [], c => c
  | b :: bs, c => evaluated (crcBits 8 (c ^^^ (b ++ (0 : Byte)))) (crcBytes bs)

/-- The CRC-16 with initial value 0xFFFF and no final inversion (R18, R155). -/
def crc16 (bytes : List Byte) : Half := crcBytes bytes 0xFFFF

/-- The bytes that the CRC covers: LENGTH, KIND, TAG and the payload (R155). -/
def Frame.body (f : Frame) : List Byte := u8 (f.payload.length + 2) :: f.kind :: f.tag :: f.payload

/-- A frame as it crosses the line: START, the body, the CRC-16 most significant byte first (R155). -/
def Frame.wire (f : Frame) : List Byte := 0x5A :: (f.body ++ bytesBE 2 (crc16 f.body).toNat)

/-! ## The shape of a command's meaning -/

/-- A command acts on a running part only: during a start the blocks do not run and the receiver ignores every byte
(R16), and after POWER_LOSS the part is stopped (R22). Then the command leaves the state as it stands
(notes/assumptions/5.md). -/
def whileRunning (s : State) (act : State → State) : Host.Outcome State Fault Refusal :=
  match s.power with
  | .running => .next (act s)
  | .starting _ => .next s
  | .off => .next s

end Sys2Proof.Machine
end

