-- ==== Sys2Proof/Machine/Flags.lean ====
section
/-! DEFINITION. The level conditions of the part, each as its owning block defines it (R12, R18, R34, R44, R64, R96, R98,
R116, R129). The blocks hand their changes to the Alert Resolver (R140). -/

namespace Sys2Proof.Machine

open Sys2Proof

/-- TRIP of coil `k` (R96). -/
def State.tripCondition (s : State) (k : Fin 6) : Bool := (s.cfg k).present && (s.coils.at k).stage == .tripped

/-- LOCKOUT of coil `k` (R96). -/
def State.lockoutCondition (s : State) (k : Fin 6) : Bool := (s.cfg k).present && (s.coils.at k).stage == .lockout

/-- PUMP_FAIL of coil `k` (R98). -/
def State.pumpFailCondition (s : State) (k : Fin 6) : Bool := (s.cfg k).present && (s.coils.at k).prove == .failed

/-- BLIND of coil `k` (R64). -/
def State.blindCondition (s : State) (k : Fin 6) : Bool := (s.cfg k).present && (s.faces.at k).state == .blind

/-- SECURE_FAULT of unit `u` (R116). -/
def State.secureFaultCondition (s : State) (u : Fin 3) : Bool := (s.units.at u).stage == .secureFault

/-- BUS_FAULT of unit `u` (R44). -/
def State.busFaultCondition (s : State) (u : Fin 3) : Bool := (s.masters.at u).busFault

/-- DEMAND_STALE of unit `u` (R129). -/
def State.demandStaleCondition (s : State) (u : Fin 3) : Bool :=
  !(s.demands.at (damperId u)).fresh || !(s.demands.at (fanId u)).fresh ||
    allCoils.any fun k => s.coilOf u k && (!(s.demands.at (valveId k)).fresh || !(s.demands.at (pumpId k)).fresh)

/-- A bound channel whose status is not OK (R34). -/
def State.channelBad (s : State) : Option (Fin 16) → Bool
  | none => false
  | some c => (s.channels.at c).status != .ok

/-- ANALOG_FAULT (R34). -/
def State.analogFaultCondition (s : State) : Bool :=
  allCoils.any fun k => (s.cfg k).present && (s.channelBad (s.cfg k).lwt || s.channelBad (s.cfg k).lat)

/-- IMAGE_INVALID (R18). -/
def State.imageInvalidCondition (s : State) : Bool := s.imageInvalid

/-- MODE_TEST (R12). -/
def State.modeTestCondition (s : State) : Bool := s.mode == .test

end Sys2Proof.Machine
end

