-- ==== Sys2Proof/Machine/Operands.lean ====
section
/-! DEFINITION. The operands of the requests: what each byte or field may hold (R168, R170), the configuration records
read from their wire fields with their range and cross-field checks (R1 check 4; R2, R5, R6, R7, R9, R10), the record
written back to its wire fields (R3), and the check of a whole set of tables that a start makes on the image (R16). -/

namespace Sys2Proof.Machine

open Sys2Proof

/-! ## Encoded values of one byte (R168) -/

/-- An index counted from 1 on the wire: coil, unit, segment, point, output or input. -/
def decNumber (n : Nat) (b : Byte) : Option (Fin n) :=
  if h : 1 ≤ b.toNat ∧ b.toNat ≤ n then some ⟨b.toNat - 1, by omega⟩ else none

/-- An index counted from 0 on the wire: channel or source. -/
def decIndex (n : Nat) (b : Byte) : Option (Fin n) :=
  if h : b.toNat < n then some ⟨b.toNat, h⟩ else none

/-- A flag: 0 or 1. -/
def decFlag (b : Byte) : Option Bool :=
  if b = 0 then some false else if b = 1 then some true else none

/-- An optional coil: 0xFF for none. -/
def decOptCoil (b : Byte) : Option (Option (Fin 6)) :=
  if b = 0xFF then some none else (decNumber 6 b).map some

/-- An optional channel: 0xFF for none. -/
def decOptChannel (b : Byte) : Option (Option (Fin 16)) :=
  if b = 0xFF then some none else (decIndex 16 b).map some

/-- The byte of an index counted from 1. -/
def encNumber {n : Nat} (k : Fin n) : Byte := u8 (k.val + 1)

/-- The byte of an optional coil. -/
def encOptCoil : Option (Fin 6) → Byte
  | none => 0xFF
  | some k => encNumber k

/-- The byte of an optional channel. -/
def encOptChannel : Option (Fin 16) → Byte
  | none => 0xFF
  | some c => u8 c.val

/-- A stage that FORCE-STAGE may name: codes 2 to 5 (R102, R170). -/
def decForceStage (b : Byte) : Option CoilStage :=
  match b.toNat with
  | 2 => some .watch
  | 3 => some .guard
  | 4 => some .boost
  | 5 => some .tripped
  | _ => none

/-- `lo ≤ v ≤ hi`. -/
def within (lo hi v : Nat) : Bool := decide (lo ≤ v ∧ v ≤ hi)

/-- `lo ≤ v ≤ hi` for a signed field. -/
def withinInt (lo hi v : Int) : Bool := decide (lo ≤ v ∧ v ≤ hi)

/-! ## Coil station records (R2, R3) -/

/-- The ranges of the fields of R2, and its two cross-field conditions. -/
def CoilCfg.valid (c : CoilCfg) : Bool :=
  within 1 8 c.quorum && withinInt (-160) 160 c.theta && withinInt (-80) 80 c.phi && within 1 4 c.confirm &&
  withinInt 0 160 c.lambda && within 1 16 c.weight && within 1 16777215 c.a1 && within 1 16777215 c.a2 &&
  within 1 16777215 c.trip && within 1 16777215 c.recover && within 1 30 c.settleFrames &&
  within 1 20 c.staleLimit && within 0 1000 c.g1 && within 0 3600 c.holdDown && within 5 120 c.proveLimit &&
  within 2 5 c.lockoutLimit && within 1 48 c.lockoutWindow && within 0 160 c.blindOffset &&
  withinInt (-160) 80 c.blindFloor &&
  decide (0 < c.recover ∧ c.recover < c.a1 ∧ c.a1 < c.a2 ∧ c.a2 < c.trip ∧ c.trip ≤ 16777215) &&
  decide (c.phi < c.theta)

/-- The record that the wire fields of a SET-COIL stand for, or none where check 4 of R1 fails. -/
def coilCfgOf (w : CoilWire) : Option CoilCfg :=
  match decFlag w.present, decNumber 3 w.unit, decOptChannel w.lwt, decOptChannel w.lat with
  | some present, some unit, some lwt, some lat =>
    let c : CoilCfg :=
      { present := present, unit := unit, quorum := w.quorum.toNat, theta := w.theta.toInt, phi := w.phi.toInt,
        confirm := w.confirm.toNat, lambda := w.lambda.toInt, weight := w.weight.toNat, a1 := w.a1.toNat,
        a2 := w.a2.toNat, trip := w.trip.toNat, recover := w.recover.toNat, settleFrames := w.settleFrames.toNat,
        staleLimit := w.staleLimit.toNat, g1 := w.g1.toNat, holdDown := w.holdDown.toNat,
        proveLimit := w.proveLimit.toNat, lockoutLimit := w.lockoutLimit.toNat,
        lockoutWindow := w.lockoutWindow.toNat, blindOffset := w.blindOffset.toNat,
        blindFloor := w.blindFloor.toInt, lwt := lwt, lat := lat }
    if c.valid then some c else none
  | _, _, _, _ => none

/-- The wire fields of an active record: what a host sends back to keep it (R3, R171). -/
def CoilCfg.toWire (c : CoilCfg) : CoilWire :=
  { present := flagByte c.present, unit := encNumber c.unit, quorum := u8 c.quorum, theta := BitVec.ofInt 16 c.theta,
    phi := BitVec.ofInt 16 c.phi, confirm := u8 c.confirm, lambda := BitVec.ofInt 16 c.lambda, weight := u8 c.weight,
    a1 := BitVec.ofNat 24 c.a1, a2 := BitVec.ofNat 24 c.a2, trip := BitVec.ofNat 24 c.trip,
    recover := BitVec.ofNat 24 c.recover, settleFrames := u8 c.settleFrames, staleLimit := u8 c.staleLimit,
    g1 := BitVec.ofNat 16 c.g1, holdDown := BitVec.ofNat 16 c.holdDown, proveLimit := u8 c.proveLimit,
    lockoutLimit := u8 c.lockoutLimit, lockoutWindow := u8 c.lockoutWindow,
    blindOffset := BitVec.ofNat 16 c.blindOffset, blindFloor := BitVec.ofInt 16 c.blindFloor,
    lwt := encOptChannel c.lwt, lat := encOptChannel c.lat }

/-- The structural fields of the table of R2, as their wire bytes: present, unit, Q, lockout limit, LWT and LAT. -/
def structuralBytes (w : CoilWire) : List Byte :=
  [w.present, w.unit, w.quorum, w.lockoutLimit, w.lwt, w.lat]

/-- The 38 bytes of a SET-COIL payload after the coil number (R171). -/
def coilBytes (w : CoilWire) : List Byte :=
  [w.present, w.unit, w.quorum] ++ bytesBE 2 w.theta.toNat ++ bytesBE 2 w.phi.toNat ++ [w.confirm] ++
  bytesBE 2 w.lambda.toNat ++ [w.weight] ++ bytesBE 3 w.a1.toNat ++ bytesBE 3 w.a2.toNat ++ bytesBE 3 w.trip.toNat ++
  bytesBE 3 w.recover.toNat ++ [w.settleFrames, w.staleLimit] ++ bytesBE 2 w.g1.toNat ++ bytesBE 2 w.holdDown.toNat ++
  [w.proveLimit, w.lockoutLimit, w.lockoutWindow] ++ bytesBE 2 w.blindOffset.toNat ++ bytesBE 2 w.blindFloor.toNat ++
  [w.lwt, w.lat]

/-- The wire fields read from the bytes after the coil number; none where their number is not 38 (R161, R171). -/
def parseCoil : List Byte → Option CoilWire
  | present :: unit :: q :: t1 :: t0 :: p1 :: p0 :: cf :: l1 :: l0 :: wt :: a12 :: a11 :: a10 :: a22 :: a21 :: a20 :: tr2 :: tr1 :: tr0 ::
      rc2 :: rc1 :: rc0 :: sf :: sl :: g1 :: g0 :: h1 :: h0 :: pl :: ll :: lw :: bo1 :: bo0 :: bf1 :: bf0 :: lwt :: lat :: [] =>
    some { present := present, unit := unit, quorum := q, theta := half t1 t0, phi := half p1 p0, confirm := cf,
           lambda := half l1 l0, weight := wt, a1 := triple a12 a11 a10, a2 := triple a22 a21 a20,
           trip := triple tr2 tr1 tr0, recover := triple rc2 rc1 rc0, settleFrames := sf, staleLimit := sl,
           g1 := half g1 g0, holdDown := half h1 h0, proveLimit := pl, lockoutLimit := ll, lockoutWindow := lw,
           blindOffset := half bo1 bo0, blindFloor := half bf1 bf0, lwt := lwt, lat := lat }
  | _ => none

/-! ## The other records -/

/-- The ranges of a unit record (R5). -/
def UnitCfg.valid (c : UnitCfg) : Bool :=
  within 0 1000 c.damperMin && within 10 300 c.strokeLimit && within 5 180 c.fanStopLimit && within 0 1800 c.holdOff

/-- The range of a frame interval (R5). -/
def intervalValid (n : Nat) : Bool := within 1 40 n

/-- The RANGE conditions of a point record (R6): its address, and, where it names a coil, that coil's unit equal to the
point's segment, whether or not the coil is present. -/
def PointCfg.valid (coils : Tab CoilCfg 6) (p : PointCfg) : Bool :=
  within 8 119 p.address &&
    match p.coil with
    | none => true
    | some k => decide ((coils.at k).unit = p.segment)

/-- The ranges of a channel record (R7). -/
def ChannelCfg.valid (c : ChannelCfg) : Bool :=
  withinInt (-128) 127 c.trim && withinInt (-800) 800 c.low && withinInt (-800) 800 c.high && decide (c.low < c.high)

/-- The range of a scan list (R7): 1 to 16 entries. -/
def scanValid (l : List (Fin 16)) : Bool := within 1 16 l.length

/-- The range of a policy's fixed value for output `o` (R9). -/
def Policy.valid (o : Fin 18) : Policy → Bool
  | .holdLast => true
  | .fixed v => if isPosition o then within 0 1000 v else within 0 1 v

/-- The ranges of an output record (R9). -/
def OutputCfg.valid (o : Fin 18) (c : OutputCfg) : Bool := within 0 255 c.lifetime && c.policy.valid o

/-- The range of an input record (R9). -/
def InputCfg.valid (c : InputCfg) : Bool := within 0 15 c.debounce

/-- The range of the auto-acknowledge level (R10). -/
def autoAckValid (n : Nat) : Bool := within 1 9 n

/-- No two enabled points of one segment share an address, no coil is named by more than 8 enabled points and no segment
carries more than 16: the CONFLICT conditions of R6 on the tables as they stand. -/
def pointsConsistent (points : Tab PointCfg 48) : Bool :=
  let on := (points.toList.filter (·.enabled))
  decide ((on.map fun p => (p.segment, p.address)).Nodup) &&
    allCoils.all (fun k => decide ((on.countP fun p => decide (p.coil = some k)) ≤ 8)) &&
    allUnits.all (fun g => decide ((on.countP fun p => decide (p.segment = g)) ≤ 16))

/-- Every record passes the range and cross-field checks of its SET request: the check of the image's tables (R16). -/
def Tables.valid (t : Tables) : Bool :=
  t.coils.toList.all CoilCfg.valid && t.units.toList.all UnitCfg.valid && t.intervals.toList.all intervalValid &&
  t.points.toList.all (PointCfg.valid t.coils) && t.channels.toList.all ChannelCfg.valid && scanValid t.scan &&
  (List.finRange 18).all (fun o => (t.outputs.at o).valid o) && t.inputs.toList.all InputCfg.valid && autoAckValid t.autoAck

/-! ## Enumeration codes (R170) -/

/-- Coil stage code. -/
def CoilStage.code : CoilStage → Byte
  | .idle => 0 | .settle => 1 | .watch => 2 | .guard => 3 | .boost => 4 | .tripped => 5 | .lockout => 6

/-- Band code. -/
def Band.code : Band → Byte
  | .clear => 0 | .advise1 => 1 | .advise2 => 2 | .trip => 3

/-- Face state code. -/
def FaceState.code : FaceState → Byte
  | .sighted => 0 | .holding => 1 | .blind => 2

/-- Frame status code. -/
def FrameStatus.code : FrameStatus → Byte
  | .none => 0 | .accepted => 1 | .starved => 2

/-- Pump prove state code. -/
def Prove.code : Prove → Byte
  | .off => 0 | .proving => 1 | .proven => 2 | .failed => 3

/-- Unit stage code. -/
def UnitStage.code : UnitStage → Byte
  | .idle => 0 | .run => 1 | .temper => 2 | .closing => 3 | .secured => 4 | .secureFault => 5 | .restartHold => 6

/-- Plant mode code. -/
def PlantMode.code : PlantMode → Byte
  | .armed => 1 | .test => 2 | .fallback => 3

/-- POSTURE strap code. -/
def strapCode : Strap → Byte
  | .field => 0 | .bench => 1

/-- Trip cause code. -/
def TripCause.code : TripCause → Byte
  | .exposure => 1 | .hardLimit => 2 | .pump => 3

/-- Point result code. -/
def PointResult.code : PointResult → Byte
  | .good _ => 1 | .noAnswer => 2 | .timeout => 3 | .badCheck => 4 | .sensorInvalid => 5 | .implausible => 6
  | .stuck => 7 | .notReached => 8 | .segmentFault => 9

/-- Code of a point result that may be not attempted or NONE. -/
def resultCode : Option PointResult → Byte
  | none => 0
  | some r => r.code

/-- Link error kind code. -/
def LinkError.code : LinkError → Byte
  | .none => 0 | .truncated => 1 | .badLength => 2 | .badCheck => 3 | .overrun => 4

/-- Channel status code. -/
def ChannelStatus.code : ChannelStatus → Byte
  | .never => 0 | .ok => 1 | .wire => 2 | .implausible => 3 | .notScanned => 4

/-- Point health state code. -/
def HealthState.code : HealthState → Byte
  | .unseen => 0 | .ok => 1 | .suspect => 2 | .dropped => 3

/-- Segment master state code. -/
def MasterState.code : MasterState → Byte
  | .idle => 0 | .reading => 1 | .recovering => 2 | .faulted => 3

/-- Store phase code. -/
def StorePhase.code : StorePhase → Byte
  | .imageErase => 1 | .imageProgram => 2 | .imageVerify => 3 | .areaProgram _ => 4 | .areaVerify _ => 5

/-- Source membership code. -/
def Membership.code : Membership → Nat
  | .none => 0 | .pending => 1 | .inService => 2 | .standing => 3

/-! ## Results (R161, R169) -/

/-- The result codes. -/
inductive Result where
  | done
  | busy
  | mode
  | range
  | conflict
  | unknown
  | length
  | locked
  | notReady
  | absent
  deriving DecidableEq, Repr

/-- The byte of a result (R169). -/
def Result.code : Result → Byte
  | .done => 0x00
  | .busy => 0x01
  | .mode => 0x02
  | .range => 0x03
  | .conflict => 0x04
  | .unknown => 0x05
  | .length => 0x06
  | .locked => 0x07
  | .notReady => 0x08
  | .absent => 0x09

/-- What a request's owner gives back: the response payload and the state after its action (R161). -/
structure Answer where
  payload : List Byte
  state : State

/-- A response of the result byte alone; the state is left as given. -/
def answer (r : Result) (s : State) : Answer := ⟨[r.code], s⟩

/-- A DONE response that carries more after the result byte. -/
def answerWith (body : List Byte) (s : State) : Answer := ⟨Result.done.code :: body, s⟩

end Sys2Proof.Machine
end

