-- ==== Sys2Proof/Machine/Alerts.lean ====
section
/-! DEFINITION. The Alert Resolver (R140 to R154): edge events and level changes acting on the three collections,
selection with rotation and automatic acknowledgment, the ALERT line, and the end of an event, at which the resolver
makes the one selection of R145. -/

namespace Sys2Proof.Machine

open Sys2Proof

/-! ## Raising, withdrawing and clearing -/

/-- Source `x` moved to a collection; a change of the collections is a selection event (R145). -/
def Alerts.move (a : Alerts) (x : Fin 65) (m : Membership) : Alerts :=
  { a with sources := a.sources.put x { a.sources.at x with membership := m }, selectionDue := true }

/-- An edge event of source `x` (R142). -/
def Alerts.raiseEdge (a : Alerts) (x : Fin 65) : Alerts :=
  match (a.sources.at x).membership with
  | .none => a.move x .pending
  | .pending => a
  | .inService => a
  | .standing => a

/-- The condition of source `x` recorded. -/
def Alerts.record (a : Alerts) (x : Fin 65) (c : Bool) : Alerts :=
  { a with sources := a.sources.put x { a.sources.at x with condition := c } }

/-- The condition of level source `x` as its owner finds it: a change is recorded and acts by the membership (R143,
R144); no change hands nothing over. -/
def Alerts.handLevel (a : Alerts) (x : Fin 65) (c : Bool) : Alerts :=
  if (a.sources.at x).condition = c then a
  else if c then
    match (a.sources.at x).membership with
    | .none => (a.record x c).move x .pending
    | .pending => a.record x c
    | .inService => a.record x c
    | .standing => a.record x c
  else
    match (a.sources.at x).membership with
    | .none => a.record x c
    | .pending => (a.record x c).move x .none
    | .inService => a.record x c
    | .standing => (a.record x c).move x .none

/-- An owning block hands over an edge event. -/
def State.raiseEdge (s : State) (x : Fin 65) : State := s.setAlerts (s.alerts.raiseEdge x)

/-- An owning block hands over a level condition. -/
def State.handLevel (s : State) (x : Fin 65) (c : Bool) : State := s.setAlerts (s.alerts.handLevel x c)

/-- Something other than the collections makes a selection event: a mask change or room in the queue (R145). -/
def State.noteSelection (s : State) : State := s.setAlerts { s.alerts with selectionDue := true }

/-! ## The transmit queue (R159) -/

/-- An item joins the tail of the transmit queue. -/
def State.queueItem (s : State) (i : TxItem) : State := s.setLink { s.link with txQueue := s.link.txQueue ++ [i] }

/-- The free entries of the transmit queue. -/
def State.txFree (s : State) : Nat := Config.txCapacity - s.link.txQueue.length

/-- The late fields of a notice of source `x`, from the state at the start of its transmission (R148, R174). -/
def State.lateFields (s : State) (x : Fin 65) : NoticeLate :=
  let condition := if isLevel x then (s.alerts.sources.at x).condition else true
  if x.val < 48 then
    let k : Fin 6 := Fin.ofNat 6 (x.val / 8)
    { condition := condition, second := s.plantSeconds, owner := encNumber k,
      stage := (s.coils.at k).stage.code, band := (s.exposures.at k).band.code }
  else if x.val < 60 then
    let u : Fin 3 := Fin.ofNat 3 ((x.val - 48) / 4)
    { condition := condition, second := s.plantSeconds, owner := encNumber u,
      stage := (s.units.at u).stage.code, band := 0xFF }
  else { condition := condition, second := s.plantSeconds, owner := 0, stage := 0xFF, band := 0xFF }

/-- The head item begins to leave the transmitter: a notice's late fields are filled, once (R148, R159). -/
def State.beginHead (s : State) : State :=
  match s.link.txQueue with
  | .notice x c none :: rest => s.setLink { s.link with txQueue := .notice x c (some (s.lateFields x)) :: rest }
  | _ => s

/-- The frame of an item: a response, or an ALERT notice with KIND 0xE0, TAG 0 and the payload of R174. A notice not yet
filled has no frame. -/
def TxItem.frame : TxItem → Option Frame
  | .response f => some f
  | .notice _ _ none => none
  | .notice x c (some l) =>
    some ⟨0xE0, 0, [u8 x.val, u8 (c.val + 1), flagByte l.condition] ++ bytesBE 4 l.second.toNat ++
      [l.owner, l.stage, l.band]⟩

/-- The bytes that TXD carries for the head item (R155, R159); nothing is sent while the queue is empty. -/
def State.txd (s : State) : List Byte :=
  match s.link.txQueue with
  | [] => []
  | i :: _ => match i.frame with
    | some f => f.wire
    | none => []

/-! ## Selection (R145 to R147) -/

/-- The class of source `x`, less 1, from its active record. -/
def State.classOf (s : State) (x : Fin 65) : Fin 8 := (s.tables.sources.at x).cls

/-- Source `x` is eligible (R146). -/
def State.eligible (s : State) (x : Fin 65) : Bool :=
  (s.alerts.sources.at x).membership == .pending && !(s.tables.sources.at x).masked &&
    match s.alerts.stack with
    | [] => true
    | top :: _ => decide (s.classOf x < top.cls)

/-- The source numbers in ascending order from `p`, passing from 64 to 0 (R146). -/
def rotation (p : Fin 65) : List (Fin 65) := (List.range 65).map fun i => Fin.ofNat 65 (p.val + i)

/-- The winner of a selection, if there is one: room for two items, the lowest class among the eligible sources, and the
first of that class from its rotation pointer (R145, R146). -/
def State.winner (s : State) : Option (Fin 65) :=
  if s.txFree < 2 then none
  else
    match (List.finRange 8).find? fun c => (List.finRange 65).any fun x => s.eligible x && s.classOf x == c with
    | none => none
    | some c => (rotation (s.alerts.pointers.at c)).find? fun x => s.eligible x && s.classOf x == c

/-- Severity class number of a class index. -/
def classNumber (c : Fin 8) : Nat := c.val + 1

/-- The resolver after selecting source `x` of class `c` with this auto-acknowledge level: the class's pointer moves
past it (R146), and the source stays in service, or leaves for the standing set or for no collection (R147). -/
def Alerts.select (a : Alerts) (x : Fin 65) (c : Fin 8) (autoAck : Nat) : Alerts :=
  let a' := { a with pointers := a.pointers.put c (Fin.ofNat 65 (x.val + 1)) }
  if classNumber c < autoAck then { (a'.move x .inService) with stack := ⟨x, c⟩ :: a.stack }
  else if isLevel x then a'.move x .standing
  else a'.move x .none

/-- The winner is reported: the resolver moves and an ALERT notice joins the queue (R147). -/
def State.report (s : State) (x : Fin 65) : State :=
  (s.setAlerts (s.alerts.select x (s.classOf x) s.tables.autoAck)).queueItem (.notice x (s.classOf x) none)

/-- Selections are repeated while they find a winner (R145); each one takes an entry of the queue, so its capacity
bounds them. -/
def selectLoop : Nat → State → State
  | 0, s => s
  | n + 1, s =>
    match s.winner with
    | none => s
    | some x => selectLoop n (s.report x)

/-- The selections of one event, where a selection event has happened in it (R145). -/
def State.runSelection (s : State) : State :=
  if s.alerts.selectionDue then
    let t := selectLoop Config.txCapacity s
    t.setAlerts { t.alerts with selectionDue := false }
  else s

/-! ## The ALERT line (R152) and the end of an event -/

/-- The line's level from the collections and masks (R152). -/
def State.alertLineLevel (s : State) : Bool :=
  !s.alerts.stack.isEmpty ||
    (List.finRange 65).any fun x => (s.alerts.sources.at x).membership == .pending && !(s.tables.sources.at x).masked

/-- The line is driven. -/
def State.driveAlertLine (s : State) : State := { s with alertLine := s.alertLineLevel }

/-- The end of an event: the selections it calls for, the start of the head item's transmission and the ALERT line. -/
def State.conclude (s : State) : State := s.runSelection.beginHead.driveAlertLine

/-! ## Acknowledgment (R149, R150) -/

/-- The resolver after source `x` is taken out of the in-service stack: it goes to the standing set if it is a level
source whose condition is true, and otherwise to no collection (R149). -/
def Alerts.acknowledge (a : Alerts) (x : Fin 65) : Alerts :=
  let m : Membership := if isLevel x && (a.sources.at x).condition then .standing else .none
  { (a.move x m) with stack := a.stack.filter fun e => e.source != x }

/-- ACK-SOURCE (R149). -/
def reqAckSource (source : Byte) (s : State) : Answer :=
  match decIndex 65 source with
  | none => answer .range s
  | some x =>
    if s.alerts.stack.any fun e => e.source == x then answer .done (s.setAlerts (s.alerts.acknowledge x))
    else answer .notReady s

/-- ACK-TOP (R150): DONE adds the number of the source removed. -/
def reqAckTop (s : State) : Answer :=
  match s.alerts.stack with
  | [] => answer .notReady s
  | top :: _ => answerWith [u8 top.source.val] (s.setAlerts (s.alerts.acknowledge top.source))

end Sys2Proof.Machine
end

