-- ==== Sys2Proof/Machine/Units.lean ====
section
/-! DEFINITION. The Unit Sequencer (R109 to R122): the temper and trip conditions of a unit, its stages, the two proofs,
and the restart hold-off. Outputs are recomputed by the callers, after the unit has moved (R130). -/

namespace Sys2Proof.Machine

open Sys2Proof

/-- Temper: a present coil of the unit stands in BOOST or SETTLE (R110). -/
def State.temperOf (s : State) (u : Fin 3) : Bool :=
  allCoils.any fun k => s.coilOf u k && ((s.coils.at k).stage == .boost || (s.coils.at k).stage == .settle)

/-- Trip: a present coil of the unit stands in TRIPPED or LOCKOUT (R110). -/
def State.tripOf (s : State) (u : Fin 3) : Bool :=
  allCoils.any fun k => s.coilOf u k && ((s.coils.at k).stage == .tripped || (s.coils.at k).stage == .lockout)

/-- The damper ceiling of a unit stage, none for no ceiling (R111). -/
def UnitStage.ceiling (st : UnitStage) (damperMin : Nat) : Option Nat :=
  match st with
  | .idle => none
  | .run => some 1000
  | .temper => some damperMin
  | .closing => some 0
  | .secured => some 0
  | .secureFault => some 0
  | .restartHold => some damperMin

/-- The fan permission of a unit stage, none where the stage carries no permission (R111). -/
def UnitStage.fanPermitted : UnitStage → Option Bool
  | .idle => none
  | .run => some true
  | .temper => some true
  | .closing => some false
  | .secured => some false
  | .secureFault => some false
  | .restartHold => some false

/-- SECURE_FAULT of unit `u` handed over as its stage gives it (R116). -/
def State.handSecureFault (s : State) (u : Fin 3) : State := s.handLevel (srcSecureFault u) (s.secureFaultCondition u)

/-- The entry to SECURED (R115). -/
def State.enterSecured (s : State) (u : Fin 3) : State :=
  ((s.setUnit u { s.units.at u with
      stage := .secured, stroke := none, fan := none, missingDamper := false, missingFan := false }).handSecureFault u).raiseEdge
    (srcSecured u)

/-- The entry to SECURE_FAULT: the missing proofs are those missing now (R116). -/
def State.enterSecureFault (s : State) (u : Fin 3) : State :=
  (s.setUnit u { s.units.at u with
      stage := .secureFault, stroke := none, fan := none,
      missingDamper := !s.damperProof u, missingFan := !s.fanProof u }).handSecureFault u

/-- The entry to CLOSING, and on at once to SECURED where both proofs are present (R113). -/
def State.enterClosing (s : State) (u : Fin 3) : State :=
  let c := s.tables.units.at u
  let t := (s.setUnit u { s.units.at u with
      stage := .closing, stroke := some c.strokeLimit, fan := some c.fanStopLimit, holdOff := none,
      missingDamper := false, missingFan := false, closingSecond := some s.plantSeconds }).handSecureFault u
  if t.damperProof u && t.fanProof u then t.enterSecured u else t

/-- The hold-off timer expires in RESTART_HOLD (R119). -/
def State.leaveRestartHold (s : State) (u : Fin 3) : State :=
  s.setUnit u { s.units.at u with
    holdOff := none, stage := if (s.units.at u).temper then .temper else .run }

/-- The entry to RESTART_HOLD; a hold-off of 0 s expires as soon as it is started (R118). -/
def State.enterRestartHold (s : State) (u : Fin 3) : State :=
  let d := (s.tables.units.at u).holdOff
  let t := (s.setUnit u { s.units.at u with
      stage := .restartHold, stroke := none, fan := none, holdOff := some d,
      missingDamper := false, missingFan := false }).handSecureFault u
  if d = 0 then t.leaveRestartHold u else t

/-- The unit's stage moved once by its conditions (R112, R118, R119). -/
def State.moveUnit (s : State) (u : Fin 3) : State :=
  let r := s.units.at u
  match r.stage with
  | .idle => s
  | .run =>
    if r.trip then s.enterClosing u
    else if r.temper then s.setUnit u { r with stage := .temper } else s
  | .temper =>
    if r.trip then s.enterClosing u
    else if r.temper then s else s.setUnit u { r with stage := .run }
  | .closing => if r.trip then s else s.enterRestartHold u
  | .secured => if r.trip then s else s.enterRestartHold u
  | .secureFault => if r.trip then s else s.enterRestartHold u
  | .restartHold => if r.trip then s.enterClosing u else s

/-- Both conditions computed as they stand (R110). -/
def State.setConditions (s : State) (u : Fin 3) : State :=
  s.setUnit u { s.units.at u with temper := s.temperOf u, trip := s.tripOf u }

/-- An event of R110 for unit `u`, handled whole. In FALLBACK every unit is IDLE with both conditions false (R120). -/
def State.unitEvent (s : State) (u : Fin 3) : State :=
  match s.mode with
  | .fallback => s
  | .armed => (s.setConditions u).moveUnit u
  | .test => (s.setConditions u).moveUnit u

/-- The damper proof or the fan proof of unit `u` changes (R114, R115, R117, R119): `damper` says which, `present` what it
becomes. The inputs already hold the change. -/
def State.proofEvent (s : State) (u : Fin 3) (damper present : Bool) : State :=
  let r := s.units.at u
  match r.stage with
  | .closing => if s.damperProof u && s.fanProof u then s.enterSecured u else s
  | .secured => if s.damperProof u && s.fanProof u then s else s.enterSecureFault u
  | .secureFault =>
    let r' := if damper then { r with missingDamper := !present } else { r with missingFan := !present }
    let t := s.setUnit u r'
    if r'.missingDamper || r'.missingFan then t else t.enterSecured u
  | .idle => s
  | .run => s
  | .temper => s
  | .restartHold => s

/-- The stroke timer expires in CLOSING (R114). -/
def State.strokeExpires (s : State) (u : Fin 3) : State :=
  if s.damperProof u then s.setUnit u { s.units.at u with stroke := none } else s.enterSecureFault u

/-- The fan timer expires in CLOSING (R114). -/
def State.fanExpires (s : State) (u : Fin 3) : State :=
  if s.fanProof u then s.setUnit u { s.units.at u with fan := none } else s.enterSecureFault u

/-- The unit placed in CLOSING, TEMPER or RUN by its conditions (R120). -/
def State.placeUnit (s : State) (u : Fin 3) : State :=
  let t := s.setConditions u
  let r := t.units.at u
  if r.trip then t.enterClosing u
  else if r.temper then t.setUnit u { r with stage := .temper }
  else t.setUnit u { r with stage := .run }

/-- The stage a unit takes at a start's completion, or where the plant enters TEST from FALLBACK, from the coil stages
that stand then (R120, R121). -/
def State.startUnit (s : State) (u : Fin 3) : State :=
  let t := (s.setUnit u UnitRec.start).handSecureFault u
  match t.mode with
  | .fallback => t
  | .armed => t.placeUnit u
  | .test => t.placeUnit u

end Sys2Proof.Machine
end

