-- ==== Sys2Proof/Machine/Outputs.lean ====
section
/-! DEFINITION. The Output Merge (R124 to R135): host demand records, the host value in force, the effective outputs of
each plant mode, pump proving as the outputs move it (R97), and PUT-DEMAND. -/

namespace Sys2Proof.Machine

open Sys2Proof

/-! ## Stage demands and the host value in force -/

/-- The valve floor of a coil stage, none for no floor (R89). -/
def CoilStage.valveFloor (st : CoilStage) (g1 : Nat) : Option Nat :=
  match st with
  | .idle => none
  | .settle => some 1000
  | .watch => some 0
  | .guard => some g1
  | .boost => some 1000
  | .tripped => some 1000
  | .lockout => some 1000

/-- The pump demand of a coil stage (R89); IDLE carries none. -/
def CoilStage.pumpDemand : CoilStage → Bool
  | .idle => false
  | .settle => true
  | .watch => false
  | .guard => true
  | .boost => true
  | .tripped => true
  | .lockout => true

/-- The host value in force for output `o` (R128). -/
def State.hostValue (s : State) (o : Fin 18) : Nat :=
  let d := s.demands.at o
  if d.fresh then d.value
  else
    match (s.tables.outputs.at o).policy with
    | .fixed v => v
    | .holdLast => if d.received then d.value else 0

/-- The host value in force of a binary output is on. -/
def State.hostOn (s : State) (o : Fin 18) : Bool := s.hostValue o != 0

/-! ## Effective outputs (R131 to R134) -/

/-- Protection applies to unit `u`'s outputs: always in ARMED, in TEST while a present coil of the unit has its forced
flag set (R133), never in FALLBACK. -/
def State.unitProtected (s : State) (u : Fin 3) : Bool :=
  match s.mode with
  | .armed => true
  | .test => allCoils.any fun k => s.coilOf u k && (s.coils.at k).forced
  | .fallback => false

/-- Protection applies to coil `k`'s valve and pump: the coil is present and its unit protected (R131, R133). -/
def State.coilProtected (s : State) (k : Fin 6) : Bool := (s.cfg k).present && s.unitProtected (s.cfg k).unit

/-- The higher of a host value and a floor, where there is one. -/
def raiseTo (host : Nat) : Option Nat → Nat
  | none => host
  | some floor => max host floor

/-- The lower of a host value and a ceiling, where there is one. -/
def lowerTo (host : Nat) : Option Nat → Nat
  | none => host
  | some ceiling => min host ceiling

/-- The valve of coil `k` outside FALLBACK (R131, R133). -/
def State.valveOf (s : State) (k : Fin 6) : Nat :=
  let host := s.hostValue (valveId k)
  if s.coilProtected k then raiseTo host ((s.coils.at k).stage.valveFloor (s.cfg k).g1) else host

/-- The pump of coil `k` outside FALLBACK (R131, R133). -/
def State.pumpOf (s : State) (k : Fin 6) : Bool :=
  s.hostOn (pumpId k) || (s.coilProtected k && (s.coils.at k).stage.pumpDemand)

/-- The damper of unit `u` outside FALLBACK (R132, R133). -/
def State.damperOf (s : State) (u : Fin 3) : Nat :=
  let host := s.hostValue (damperId u)
  if s.unitProtected u then lowerTo host ((s.units.at u).stage.ceiling (s.tables.units.at u).damperMin) else host

/-- The fan of unit `u` outside FALLBACK (R132, R133). -/
def State.fanOf (s : State) (u : Fin 3) : Bool :=
  let host := s.hostOn (fanId u)
  if s.unitProtected u then host && (s.units.at u).stage.fanPermitted.getD true && !s.tripOf u else host

/-- All effective outputs by the rules of the plant mode (R131 to R134). -/
def State.effective (s : State) : Outputs :=
  match s.mode with
  | .fallback => Outputs.posture
  | .armed => ⟨Tab.build s.valveOf, Tab.build s.pumpOf, Tab.build s.damperOf, Tab.build s.fanOf⟩
  | .test => ⟨Tab.build s.valveOf, Tab.build s.pumpOf, Tab.build s.damperOf, Tab.build s.fanOf⟩

/-! ## Pump proving as the outputs move it (R97, R135) -/

/-- PUMP_FAIL of coil `k` handed over (R98). -/
def State.handPumpFail (s : State) (k : Fin 6) : State := s.handLevel (srcPumpFail k) (s.pumpFailCondition k)

/-- The prove state and timer of coil `k` written, and PUMP_FAIL handed over. -/
def State.setProve (s : State) (k : Fin 6) (p : Prove) (timer : Option Nat) : State :=
  (s.setCoil k { s.coils.at k with prove := p, proveTimer := timer }).handPumpFail k

/-- The prove state of coil `k` taken from its pump output and FLOW as they stand (R105, R107). -/
def State.proveFresh (s : State) (k : Fin 6) : State :=
  if (s.cfg k).present then
    if !s.outputs.pumps.at k then s.setProve k .off none
    else if s.flow k then s.setProve k .proven none
    else s.setProve k .proving (some (s.cfg k).proveLimit)
  else s.setProve k .off none

/-- The pump output of coil `k` has turned on or off (R97). An absent coil stays OFF. -/
def State.pumpTurned (s : State) (k : Fin 6) (on : Bool) : State :=
  if (s.cfg k).present then
    match (s.coils.at k).prove, on with
    | .off, true =>
      if s.flow k then s.setProve k .proven none else s.setProve k .proving (some (s.cfg k).proveLimit)
    | .off, false => s
    | .proving, true => s
    | .proven, true => s
    | .failed, true => s
    | .proving, false => s.setProve k .off none
    | .proven, false => s.setProve k .off none
    | .failed, false => s.setProve k .off none
  else s

/-- The change of coil `k`'s pump output from `before`, if there is one, handed to its proving (R135). -/
def handPump (before : Outputs) (s : State) (k : Fin 6) : State :=
  if s.outputs.pumps.at k = before.pumps.at k then s else s.pumpTurned k (s.outputs.pumps.at k)

/-- The effective outputs recomputed in one step, and then the pump changes handed over (R130, R135). Outputs that the
event does not concern keep their values, since nothing they are computed from has changed. -/
def State.recompute (s : State) : State :=
  allCoils.foldl (handPump s.outputs) (s.setOutputs s.effective)

/-! ## DEMAND_STALE (R129) -/

/-- DEMAND_STALE of unit `u` re-evaluated. -/
def State.handDemandStale (s : State) (u : Fin 3) : State :=
  s.handLevel (srcDemandStale u) (s.demandStaleCondition u)

/-- DEMAND_STALE of every unit re-evaluated. -/
def State.handDemandsStale (s : State) : State := allUnits.foldl State.handDemandStale s

/-! ## PUT-DEMAND (R125, R126) and the lifetime's expiry (R127) -/

/-- The value a pair stores (R126, R172): a position clamped to 1000, or on for any value other than 0. -/
def demandValue (o : Fin 18) (v : Half) : Nat :=
  if isPosition o then min v.toNat 1000 else if v = 0 then 0 else 1

/-- The pairs' output ids, or none if one lies outside 1..18 (R125). -/
def demandPairs : List (Byte × Half) → Option (List (Fin 18 × Half))
  | [] => some []
  | (b, v) :: rest =>
    match decNumber 18 b, demandPairs rest with
    | some o, some l => some ((o, v) :: l)
    | _, _ => none

/-- One pair applied: the value replaced and received yes (R126). -/
def State.applyDemand (s : State) (p : Fin 18 × Half) : State :=
  s.setDemand p.1 { s.demands.at p.1 with value := demandValue p.1 p.2, received := true }

/-- The lifetime timer that a refresh starts; a lifetime of 0 leaves it stopped (R126). -/
def lifetimeTimer (lifetime : Nat) : Option Nat := if lifetime = 0 then none else some lifetime

/-- One named output made FRESH with its lifetime started afresh (R126). -/
def State.refreshDemand (s : State) (p : Fin 18 × Half) : State :=
  s.setDemand p.1 { s.demands.at p.1 with fresh := true, timer := lifetimeTimer (s.tables.outputs.at p.1).lifetime }

/-- The demand records after an accepted PUT-DEMAND: every pair in order, then the refreshes (R126). -/
def State.applyDemands (s : State) (l : List (Fin 18 × Half)) : State :=
  l.foldl State.refreshDemand (l.foldl State.applyDemand s)

/-- PUT-DEMAND at the Merge (R125, R126). -/
def reqPutDemand (pairs : List (Byte × Half)) (s : State) : Answer :=
  match demandPairs pairs with
  | none => answer .range s
  | some l => answer .done (s.applyDemands l).recompute.handDemandsStale

/-- The lifetime of output `o` expires (R127): the record becomes STALE, its value and received kept. -/
def State.lifetimeExpires (s : State) (o : Fin 18) : State :=
  let d := s.demands.at o
  match d.timer with
  | none => s
  | some _ => (s.setDemand o { d with timer := none, fresh := false }).recompute.handDemandsStale

/-- DEMAND_LIFETIME_EXPIRY (R127). -/
def execDemandLifetimeExpiry (o : Fin 18) (s : State) : Host.Outcome State Fault Refusal :=
  whileRunning s fun s => (s.lifetimeExpires o).conclude

/-! ## Unit timers (R114, R119) -/

/-- The stroke timer of unit `u` expires, if it runs in CLOSING, and a stage change reaches the outputs (R114, R130). -/
def State.strokeExpired (s : State) (u : Fin 3) : State :=
  match (s.units.at u).stage, (s.units.at u).stroke with
  | .closing, some _ => (s.strokeExpires u).recompute
  | _, _ => s

/-- The fan timer of unit `u` expires, if it runs in CLOSING (R114, R130). -/
def State.fanExpired (s : State) (u : Fin 3) : State :=
  match (s.units.at u).stage, (s.units.at u).fan with
  | .closing, some _ => (s.fanExpires u).recompute
  | _, _ => s

/-- The hold-off timer of unit `u` expires, if it runs in RESTART_HOLD (R119, R130). -/
def State.holdOffExpired (s : State) (u : Fin 3) : State :=
  match (s.units.at u).stage, (s.units.at u).holdOff with
  | .restartHold, some _ => (s.leaveRestartHold u).recompute
  | _, _ => s

/-- STROKE_TIMER_EXPIRY (R114). -/
def execStrokeTimerExpiry (u : Fin 3) (s : State) : Host.Outcome State Fault Refusal :=
  whileRunning s fun s => (s.strokeExpired u).conclude

/-- FAN_TIMER_EXPIRY (R114). -/
def execFanTimerExpiry (u : Fin 3) (s : State) : Host.Outcome State Fault Refusal :=
  whileRunning s fun s => (s.fanExpired u).conclude

/-- HOLD_OFF_EXPIRY (R119). -/
def execHoldOffExpiry (u : Fin 3) (s : State) : Host.Outcome State Fault Refusal :=
  whileRunning s fun s => (s.holdOffExpired u).conclude

end Sys2Proof.Machine
end

