-- ==== Sys2Proof/Machine/Regions.lean ====
section
/-! DEFINITION. The two nonvolatile regions (R18): the bytes that each region's CRC-16 covers, the CRC-16 held with them, and
its check. The manual says what the bytes stand for and gives them no layout: here every record has the fields of its SET request
in their order and encodings (R168 to R171), without its index, in the order of sections 1.1 to 1.7, and the six flags of the
area are a coil set (DESIGN CHOICE, notes/assumptions/12.md). -/

namespace Sys2Proof.Machine

open Sys2Proof

/-! ## The bytes of the tables -/

/-- A unit record (R5). -/
def UnitCfg.bytes (c : UnitCfg) : List Byte :=
  bytesBE 2 c.damperMin ++ bytesBE 2 c.strokeLimit ++ [u8 c.fanStopLimit] ++ bytesBE 2 c.holdOff

/-- A point record (R6). -/
def PointCfg.bytes (c : PointCfg) : List Byte :=
  [flagByte c.enabled, encNumber c.segment, u8 c.address, encOptCoil c.coil, flagByte c.included]

/-- A channel record (R7): its trim in one byte. -/
def ChannelCfg.bytes (c : ChannelCfg) : List Byte := BitVec.ofInt 8 c.trim :: i16 c.low ++ i16 c.high

/-- A policy (R9): its code, and its fixed value, 0 with HOLD_LAST, which keeps none. -/
def Policy.bytes : Policy → List Byte
  | .holdLast => 0 :: bytesBE 2 0
  | .fixed v => 1 :: bytesBE 2 v

/-- An output record (R9). -/
def OutputCfg.bytes (c : OutputCfg) : List Byte := u8 c.lifetime :: c.policy.bytes

/-- An input record (R9). -/
def InputCfg.bytes (c : InputCfg) : List Byte := [flagByte c.activeLow, u8 c.debounce]

/-- A source record (R10). -/
def SourceCfg.bytes (c : SourceCfg) : List Byte := [u8 (c.cls.val + 1), flagByte c.masked]

/-- Every configuration table of sections 1.1 to 1.7 (R18). -/
def Tables.bytes (t : Tables) : List Byte :=
  (t.coils.toList.flatMap fun c => coilBytes c.toWire) ++ t.units.toList.flatMap UnitCfg.bytes ++ t.intervals.toList.map u8 ++
    t.points.toList.flatMap PointCfg.bytes ++ t.channels.toList.flatMap ChannelCfg.bytes ++
    u8 t.scan.length :: (t.scan.map fun c => u8 c.val) ++ t.outputs.toList.flatMap OutputCfg.bytes ++
    t.inputs.toList.flatMap InputCfg.bytes ++ t.sources.toList.flatMap SourceCfg.bytes ++ [u8 t.autoAck]

/-! ## The image -/

/-- The CRC-16 over a format number and the tables (R18). -/
def imageCrc (format : Nat) (t : Tables) : Half := crc16 (u8 format :: t.bytes)

/-- The image's CRC-16 matches its format number and its tables (R16 step 2, R18). -/
def Image.crcMatches (i : Image) : Bool := i.crc == imageCrc i.format i.tables

/-- The image that a completed PROGRAM has written from a snapshot: format number 1, the tables and their CRC-16 (R18, R19, R20). -/
def Image.written (t : Tables) : Image :=
  { format := Config.imageFormat, tables := t, crc := imageCrc Config.imageFormat t }

/-- The image failing its check. What its bytes are is not given: its contents stand and its CRC-16 is the complement of the
one that would match (notes/assumptions/12.md). -/
def Image.spoiled (i : Image) : Image := { i with crc := ~~~ imageCrc i.format i.tables }

/-! ## The lockout area -/

/-- The CRC-16 over the six lockout flags (R18). -/
def areaCrc (flags : Tab Bool 6) : Half := crc16 [u8 (flagBits flags.toList)]

/-- The area's CRC-16 matches its flags (R16 step 3, R18). -/
def Area.crcMatches (a : Area) : Bool := a.crc == areaCrc a.flags

/-- The area that a completed PROGRAM has written: the flags it took and their CRC-16 (R20). -/
def Area.written (flags : Tab Bool 6) : Area := { flags := flags, crc := areaCrc flags }

/-- The area failing its check, as `Image.spoiled` (notes/assumptions/12.md). -/
def Area.spoiled (a : Area) : Area := { a with crc := ~~~ areaCrc a.flags }

end Sys2Proof.Machine
end

