-- ==== Sys2Proof/Machine/Store.lean ====
section
/-! DEFINITION. The Configuration Store (R18 to R22): jobs and their phases, lockout changes, the two nonvolatile regions,
and what an abandoned phase leaves. -/

namespace Sys2Proof.Machine

open Sys2Proof

/-- The time limit of a phase in milliseconds (R20). -/
def StorePhase.limitMs : StorePhase → Nat
  | .imageErase => 60
  | .imageProgram => 150
  | .imageVerify => 20
  | .areaProgram _ => 150
  | .areaVerify _ => 20

/-- The six lockout flags in working memory. -/
def State.lockoutFlags (s : State) : Tab Bool 6 := s.coils.each (·.lockout)

/-- A LOCKOUT-WRITE started now: its area PROGRAM takes the flags as they stand (R20). -/
def State.lockoutJob (s : State) : Job := ⟨.lockoutWrite, .areaProgram s.lockoutFlags⟩

/-- A lockout change: a LOCKOUT-WRITE starts, or becomes or stays pending (R19). -/
def State.lockoutChange (s : State) : State :=
  match s.store.job with
  | none => s.setStore { s.store with job := some s.lockoutJob }
  | some _ => s.setStore { s.store with pendingLockout := true }

/-- A job has ended: the pending LOCKOUT-WRITE starts if there is one, otherwise the pending SAVE (R19). -/
def State.nextJob (s : State) : State :=
  if s.store.pendingLockout then
    s.setStore { s.store with job := some s.lockoutJob, pendingLockout := false }
  else
    match s.store.pendingSave with
    | some t => s.setStore { s.store with job := some ⟨.save t, .imageErase⟩, pendingSave := none }
    | none => s.setStore { s.store with job := none }

/-- The job in flight goes on to a phase. -/
def State.startPhase (s : State) (j : Job) (p : StorePhase) : State :=
  s.setStore { s.store with job := some { j with phase := p } }

/-- The image-invalid flag written, and IMAGE_INVALID handed over (R18). -/
def State.setImageInvalid (s : State) (v : Bool) : State :=
  ({ s with imageInvalid := v } : State).handLevel srcImageInvalid v

/-- The image left failing its check (R21, R22). -/
def State.spoilImage (s : State) : State := { s with image := s.image.spoiled }

/-- The lockout area left failing its check (R21, R22). -/
def State.spoilArea (s : State) : State := { s with area := s.area.spoiled }

/-- A SAVE's image phase fails: the image fails its check, IMAGE_INVALID stands, STORE_FAIL, and the job ends (R21). -/
def State.imageFails (s : State) : State :=
  ((s.spoilImage.setImageInvalid true).raiseEdge srcStoreFail).nextJob

/-- A write of the area fails: the area is dirty, STORE_FAIL, and the job ends (R21). -/
def State.areaFails (s : State) : State :=
  (({ s with areaDirty := true } : State).raiseEdge srcStoreFail).nextJob

/-- A SAVE's image VERIFY passes: IMAGE_INVALID is cleared, STORE_DONE, and the area pair follows if the area is dirty
(R20, R21). -/
def State.imagePasses (s : State) (j : Job) : State :=
  let t := (s.setImageInvalid false).raiseEdge srcStoreDone
  if t.areaDirty then t.startPhase j (.areaProgram t.lockoutFlags) else t.nextJob

/-- The phase in flight completes (R20, R21). -/
def State.phaseCompletes (s : State) (same : Bool) : State :=
  match s.store.job with
  | none => s
  | some j =>
    match j.phase with
    | .imageErase => s.spoilImage.startPhase j .imageProgram
    | .imageProgram =>
      match j.kind with
      | .save t =>
        ({ s with image := Image.written t } : State).startPhase j .imageVerify
      | .lockoutWrite => s
    | .imageVerify => if same then s.imagePasses j else s.imageFails
    | .areaProgram flags =>
      ({ s with area := Area.written flags } : State).startPhase j (.areaVerify flags)
    | .areaVerify _ => if same then ({ s with areaDirty := false } : State).nextJob else s.spoilArea.areaFails

/-- The time limit of the phase in flight expires before its completion (R20, R21). A VERIFY of the area that fails on its
limit leaves the area as its PROGRAM wrote it. -/
def State.phaseExpires (s : State) : State :=
  match s.store.job with
  | none => s
  | some j =>
    match j.phase with
    | .imageErase => s.imageFails
    | .imageProgram => s.imageFails
    | .imageVerify => s.imageFails
    | .areaProgram _ => s.spoilArea.areaFails
    | .areaVerify _ => s.areaFails

/-- The job in flight is abandoned and the pending jobs are lost (R22): an abandoned ERASE or PROGRAM leaves its region
failing its check, an abandoned VERIFY leaves it as its PROGRAM wrote it. -/
def State.abandonJob (s : State) : State :=
  let t :=
    match s.store.job with
    | none => s
    | some j =>
      match j.phase with
      | .imageErase => s.spoilImage
      | .imageProgram => s.spoilImage
      | .imageVerify => s
      | .areaProgram _ => s.spoilArea
      | .areaVerify _ => s
  t.setStore Store.idle

/-- SAVE is accepted: it starts with a snapshot of the tables, or becomes pending behind a LOCKOUT-WRITE (R19). -/
def State.startSave (s : State) : State :=
  match s.store.job with
  | none => s.setStore { s.store with job := some ⟨.save s.tables, .imageErase⟩ }
  | some _ => s.setStore { s.store with pendingSave := some s.tables }

/-- SAVE (R19). -/
def reqSave (s : State) : Answer := if s.saveBusy then answer .busy s else answer .done s.startSave

/-- STORE_PHASE_COMPLETE (R20, R21). The completion that follows its phase's expiry is disregarded, whatever job has started
since (R20; notes/assumptions/30.md). -/
def execStorePhaseComplete (completion : Completion) (s : State) : Host.Outcome State Fault Refusal :=
  whileRunning s fun s =>
    match completion with
    | .late => s
    | .ofPhase same => (s.phaseCompletes same).conclude

/-- STORE_PHASE_LIMIT_EXPIRY (R20, R21). -/
def execStorePhaseLimitExpiry (s : State) : Host.Outcome State Fault Refusal :=
  whileRunning s fun s => s.phaseExpires.conclude

end Sys2Proof.Machine
end

