-- ==== Sys2Proof/Machine/Coils.lean ====
section
/-! DEFINITION. The Coil Sequencer (R88 to R107): stage changes and what follows from one, SETTLE, promotion, hold-down and
demotion, trip entry, pump escalation, resets, forced stages. -/

namespace Sys2Proof.Machine

open Sys2Proof

/-! ## A stage change -/

/-- The record on its entry to a stage: settle remaining is loaded in SETTLE and 0 elsewhere, and the hold-down timer is
stopped on entry to SETTLE, TRIPPED, LOCKOUT and IDLE (R88). -/
def CoilSeq.enter (r : CoilSeq) (st : CoilStage) (settleFrames : Nat) : CoilSeq :=
  match st with
  | .idle => { r with stage := .idle, settle := 0, holdDown := none }
  | .settle => { r with stage := .settle, settle := settleFrames, holdDown := none }
  | .watch => { r with stage := .watch, settle := 0 }
  | .guard => { r with stage := .guard, settle := 0 }
  | .boost => { r with stage := .boost, settle := 0 }
  | .tripped => { r with stage := .tripped, settle := 0, holdDown := none }
  | .lockout => { r with stage := .lockout, settle := 0, holdDown := none }

/-- TRIP, LOCKOUT and PUMP_FAIL of coil `k` handed over as they stand (R96, R98). -/
def State.handCoil (s : State) (k : Fin 6) : State :=
  let t := s.handLevel (srcTrip k) (s.tripCondition k)
  let t := t.handLevel (srcLockout k) (t.lockoutCondition k)
  t.handPumpFail k

/-- Coil `k`'s record replaced, and its level conditions handed over. -/
def State.writeCoil (s : State) (k : Fin 6) (r : CoilSeq) : State := (s.setCoil k r).handCoil k

/-- A change of coil `k`'s record reaches the other blocks: the Unit Sequencer first, then the Output Merge (R89, R110,
R130). -/
def State.coilMoved (s : State) (k : Fin 6) : State := (s.unitEvent (s.cfg k).unit).recompute

/-- Coil `k` enters a stage, with everything that follows from the stage change. -/
def State.enterStage (s : State) (k : Fin 6) (st : CoilStage) : State :=
  (s.writeCoil k ((s.coils.at k).enter st (s.cfg k).settleFrames)).coilMoved k

/-! ## Hold-down and demotion (R91, R92) -/

/-- The stage that matches a band (R90, R92); a band of TRIP matches TRIPPED. -/
def Band.stage : Band → CoilStage
  | .clear => .watch
  | .advise1 => .guard
  | .advise2 => .boost
  | .trip => .tripped

/-- The band stands below the stage: CLEAR in GUARD or BOOST, or ADVISE1 in BOOST (R91, R92). -/
def belowStage : CoilStage → Band → Bool
  | .guard, .clear => true
  | .boost, .clear => true
  | .boost, .advise1 => true
  | _, _ => false

/-- The demotion of R92: an unforced coil whose band is below its stage and whose hold-down timer is stopped goes to the
stage that matches its band. -/
def State.demote (s : State) (k : Fin 6) : State :=
  let r := s.coils.at k
  let band := (s.exposures.at k).band
  if !r.forced && r.holdDown.isNone && belowStage r.stage band then s.enterStage k band.stage else s

/-- Coil `k` enters GUARD or BOOST and its hold-down timer restarts (R91, R92). A hold-down of 0 s expires as soon as it is
started, and the demotion is tested then. -/
def State.promote (s : State) (k : Fin 6) (st : CoilStage) : State :=
  let d := (s.cfg k).holdDown
  let r := (s.coils.at k).enter st (s.cfg k).settleFrames
  if d = 0 then ((s.writeCoil k { r with holdDown := none }).coilMoved k).demote k
  else (s.writeCoil k { r with holdDown := some d }).coilMoved k

/-! ## Trip entry (R93 to R95) -/

/-- The band and confirm count of coil `k` written by the sequencer (R81). -/
def State.setBand (s : State) (k : Fin 6) (b : Band) : State :=
  s.setExposure k { s.exposures.at k with band := b }

/-- The age of a history entry in seconds at plant second `now` (R94). -/
def ageOf (now entry : Seconds) : Int := (now.toNat : Int) - (entry.toNat : Int)

/-- The trip history after a trip at `now` (R94): entries older than the window dropped, the oldest dropped if the limit
is still reached, the new entry appended. Where a start has loaded a lower limit than the entries held, one entry is dropped all
the same (notes/assumptions/28.md). -/
def tripHistory (history : List Seconds) (now : Seconds) (windowHours limit : Nat) : List Seconds :=
  let kept := history.filter fun e => decide (ageOf now e ≤ (windowHours : Int) * 3600)
  let kept := if limit ≤ kept.length then kept.drop 1 else kept
  kept ++ [now]

/-- The trip record of coil `k` for a cause, from the state as it stands (R93). -/
def State.tripRecordOf (s : State) (k : Fin 6) (cause : TripCause) (historyCount : Nat) : TripRecord :=
  let f := s.faces.at k
  { second := s.plantSeconds, cause := cause, stageLeft := (s.coils.at k).stage, cEff := f.cEff, held := f.held,
    mean := f.mean, spread := f.spread, face := f.state, e := (s.exposures.at k).e, lwt := s.validTemp (s.cfg k).lwt,
    lat := s.validTemp (s.cfg k).lat, validMask := f.validSet, missingMask := f.missingSet,
    historyCount := historyCount }

/-- Trip entry (R93 to R95): the record and the history, the band TRIP, and TRIPPED, or LOCKOUT with its flag set and a
lockout change where the count reaches the limit. -/
def State.tripEntry (s : State) (k : Fin 6) (cause : TripCause) : State :=
  let c := s.cfg k
  let r := s.coils.at k
  let h := tripHistory r.history s.plantSeconds c.lockoutWindow c.lockoutLimit
  let r := { r with tripRecord := some (s.tripRecordOf k cause h.length), history := h }
  let s := s.setBand k .trip
  if h.length < c.lockoutLimit then (s.writeCoil k (r.enter .tripped c.settleFrames)).coilMoved k
  else (((s.writeCoil k ({ r with lockout := true }.enter .lockout c.settleFrames)).lockoutChange)).coilMoved k

/-! ## Update outcomes (R90, R91) -/

/-- A working stage against the band (R91, R92). -/
def State.workingOutcome (s : State) (k : Fin 6) (cause : TripCause) : State :=
  match (s.coils.at k).stage, (s.exposures.at k).band with
  | _, .trip => s.tripEntry k cause
  | .watch, .advise2 => s.promote k .boost
  | .guard, .advise2 => s.promote k .boost
  | .watch, .advise1 => s.promote k .guard
  | _, _ => s.demote k

/-- SETTLE at an update outcome (R90). -/
def State.settleOutcome (s : State) (k : Fin 6) (accepted : Bool) (cause : TripCause) : State :=
  let r := s.coils.at k
  let band := (s.exposures.at k).band
  if band = .trip then s.tripEntry k cause
  else
    let n := if accepted then r.settle - 1 else r.settle
    let s := s.setCoil k { r with settle := n }
    if n = 0 then
      if band = .clear then s.enterStage k .watch else s.promote k band.stage
    else s

/-- An update outcome of coil `k` (R80, R90, R91, R103). The cause is that of a band that entered TRIP in the update; the
manual brings no unforced coil in a working stage or SETTLE to an outcome with a band of TRIP from before, and EXPOSURE
would stand in its record (notes/assumptions/6.md). -/
def State.updateOutcome (s : State) (k : Fin 6) (accepted : Bool) (cause : Option TripCause) : State :=
  let r := s.coils.at k
  let why := cause.getD .exposure
  if r.forced then s
  else
    match r.stage with
    | .settle => s.settleOutcome k accepted why
    | .watch => s.workingOutcome k why
    | .guard => s.workingOutcome k why
    | .boost => s.workingOutcome k why
    | .tripped => s
    | .lockout => s
    | .idle => s

/-! ## Pump proving and escalation (R97, R98) -/

/-- The escalation at an entry to FAILED (R98); a forced coil is not escalated. -/
def State.escalate (s : State) (k : Fin 6) : State :=
  let r := s.coils.at k
  if r.forced then s
  else
    match r.stage with
    | .guard => s.promote k .boost
    | .boost => s.tripEntry k .pump
    | .settle => s.tripEntry k .pump
    | .watch => s
    | .tripped => s
    | .lockout => s
    | .idle => s

/-- The pump of coil `k` fails: FAILED, PUMP_FAIL, and the one escalation (R97, R98). -/
def State.pumpFails (s : State) (k : Fin 6) : State := (s.setProve k .failed none).escalate k

/-- A debounced FLOW change of coil `k` (R97). -/
def State.flowEvent (s : State) (k : Fin 6) (asserted : Bool) : State :=
  if (s.cfg k).present then
    match (s.coils.at k).prove, asserted with
    | .proving, true => s.setProve k .proven none
    | .proven, false => s.pumpFails k
    | .failed, true => s.setProve k .proven none
    | .off, _ => s
    | .proving, false => s
    | .proven, true => s
    | .failed, false => s
  else s

/-- The prove timer of coil `k` expires (R97). -/
def State.proveExpires (s : State) (k : Fin 6) : State :=
  match (s.coils.at k).prove, (s.coils.at k).proveTimer with
  | .proving, some _ => s.pumpFails k
  | _, _ => s

/-- The hold-down timer of coil `k` expires: it stops, and the demotion is tested (R92). -/
def State.holdDownExpires (s : State) (k : Fin 6) : State :=
  let r := s.coils.at k
  match r.holdDown with
  | none => s
  | some _ => (s.setCoil k { r with holdDown := none }).demote k

/-! ## Resets (R99 to R101) -/

/-- The first of checks 6 to 8 of R99 that fails, as its reason byte: 1 for E above RECOVER, 2 for a BLIND face, 3 for a
held cold spot that is absent or not above Φ + 16 tc; none where all pass. -/
def State.resetReason (s : State) (k : Fin 6) : Option Byte :=
  let c := s.cfg k
  let f := s.faces.at k
  if c.recover < (s.exposures.at k).e then some 1
  else if f.state = .blind then some 2
  else
    match f.held with
    | none => some 3
    | some held => if c.phi + 16 < held then none else some 3

/-- The effect of an accepted reset (R100): band CLEAR, confirm count 0, E kept, GUARD with the hold-down restarted. -/
def State.resetCoil (s : State) (k : Fin 6) : State :=
  (s.setExposure k { s.exposures.at k with band := .clear, confirm := 0 }).promote k .guard

/-- TRIP-RESET (R99, R100): every response carries the reason byte. -/
def reqTripReset (coil : Byte) (s : State) : Answer :=
  match decNumber 6 coil with
  | none => ⟨[Result.range.code, 0], s⟩
  | some k =>
    let r := s.coils.at k
    if !(s.cfg k).present then ⟨[Result.absent.code, 0], s⟩
    else if r.stage = .lockout then ⟨[Result.locked.code, 0], s⟩
    else if r.forced then ⟨[Result.notReady.code, 4], s⟩
    else if r.stage ≠ .tripped then ⟨[Result.notReady.code, 0], s⟩
    else
      match s.resetReason k with
      | some reason => ⟨[Result.notReady.code, reason], s⟩
      | none => ⟨[Result.done.code, 0], s.resetCoil k⟩

/-- Coil `k` meets the conditions of a local reset at unit `u` (R101). -/
def State.localResetActs (s : State) (u : Fin 3) (k : Fin 6) : Bool :=
  let r := s.coils.at k
  s.coilOf u k && !r.forced && (r.stage == .tripped || r.stage == .lockout) && (s.resetReason k).isNone

/-- The local reset at unit `u` acting on coil `k` (R101): the history emptied, a set lockout flag cleared with a lockout
change, and the coil returned to GUARD as by a reset. -/
def State.localResetCoil (u : Fin 3) (s : State) (k : Fin 6) : State :=
  if s.localResetActs u k then
    let r := s.coils.at k
    let t := s.setCoil k { r with history := [], lockout := false }
    (if r.lockout then t.lockoutChange else t).resetCoil k
  else s

/-- A debounced assertion edge of LOCAL_RESET at unit `u`: its coils one after another (R101, R110). The manual gives no order
among them; the model takes them in ascending number (notes/assumptions/29.md). -/
def State.localReset (s : State) (u : Fin 3) : State := allCoils.foldl (State.localResetCoil u) s

/-! ## Forced stages (R102 to R104) -/

/-- FORCE-STAGE (R102). -/
def reqForceStage (coil stage : Byte) (s : State) : Answer :=
  match decNumber 6 coil, decForceStage stage with
  | some k, some st =>
    let r := s.coils.at k
    if s.mode ≠ .test then answer .mode s
    else if !(s.cfg k).present then answer .absent s
    else if r.stage = .lockout then answer .locked s
    else answer .done ((s.writeCoil k { r with stage := st, forced := true, holdDown := none, settle := 0 }).coilMoved k)
  | _, _ => answer .range s

/-- The record of a forced coil once released, by its band: TRIPPED for TRIP, SETTLE for any other (R104, R14). -/
def CoilSeq.release (r : CoilSeq) (b : Band) (settleFrames : Nat) : CoilSeq :=
  { r with forced := false }.enter (if b = Band.trip then CoilStage.tripped else CoilStage.settle) settleFrames

/-- RELEASE-STAGE (R104). -/
def reqReleaseStage (coil : Byte) (s : State) : Answer :=
  match decNumber 6 coil with
  | none => answer .range s
  | some k =>
    let r := s.coils.at k
    if s.mode ≠ .test then answer .mode s
    else if !(s.cfg k).present then answer .absent s
    else if !r.forced then answer .notReady s
    else answer .done ((s.writeCoil k (r.release (s.exposures.at k).band (s.cfg k).settleFrames)).coilMoved k)

/-! ## The coil's timers -/

/-- HOLD_DOWN_EXPIRY (R92). -/
def execHoldDownExpiry (k : Fin 6) (s : State) : Host.Outcome State Fault Refusal :=
  whileRunning s fun s => (s.holdDownExpires k).conclude

/-- PROVE_TIMER_EXPIRY (R97, R98). -/
def execProveTimerExpiry (k : Fin 6) (s : State) : Host.Outcome State Fault Refusal :=
  whileRunning s fun s => (s.proveExpires k).conclude

end Sys2Proof.Machine
end

