-- ==== Sys2Proof/Machine/Exposure.lean ====
section
/-! DEFINITION. The Exposure Engine (R71 to R86): the water multiplier, gain and loss, the hard limit, the band ladder and
the frame update that joins them. -/

namespace Sys2Proof.Machine

open Sys2Proof

/-- A frame report (R65). `accepted` is the frame status and the fresh indication in one, since a frame is fresh exactly where
it is ACCEPTED; C, M and S are absent for a STARVED frame. -/
structure FrameReport where
  accepted : Bool
  face : FaceState
  cEff : Int
  cold : Option Int
  mean : Option Int
  spread : Option Int
  interval : Nat
  second : Seconds
  deriving DecidableEq, Repr

/-- The water multiplier m (R73). -/
def State.waterMultiplier (s : State) (k : Fin 6) : Nat :=
  match s.validTemp (s.cfg k).lwt with
  | none => 1
  | some t => if t < (s.cfg k).lambda then 2 else 1

/-- E after a gain (R74). -/
def gainE (e : Nat) (theta cEff : Int) (n m : Nat) : Nat :=
  min (e + min (theta - cEff).toNat Config.maxDepth * n * m) Config.maxExposure

/-- E after a loss (R75). -/
def lossE (e : Nat) (theta cEff : Int) (n weight : Nat) : Nat :=
  e - max n (min (cEff - theta).toNat Config.maxDepth * n * weight / 4)

/-- Steps 1 and 2 of R72: E by R74 where C_eff is below Θ, and by R75 where it is not. -/
def State.stepE (s : State) (k : Fin 6) (r : FrameReport) : Nat :=
  let c := s.cfg k
  let e := (s.exposures.at k).e
  if r.cEff < c.theta then gainE e c.theta r.cEff r.interval (s.waterMultiplier k)
  else lossE e c.theta r.cEff r.interval c.weight

/-- The confirm count after a report (R76). -/
def stepConfirm (count : Nat) (phi : Int) (r : FrameReport) : Nat :=
  match r.accepted, r.cold with
  | true, some cold => if cold ≤ phi then min (count + 1) 4 else 0
  | true, none => count
  | false, _ => count

/-- The hard limit is met by this report (R77): an ACCEPTED frame brings the count to the setting. A STARVED frame does
not move the count, and nothing is compared (notes/assumptions/7.md). -/
def hardLimitMet (count setting : Nat) (r : FrameReport) : Bool := r.accepted && decide (setting ≤ count)

/-- The band ladder (R78), from the band after step 3. -/
def ladder (c : CoilCfg) (b : Band) (e : Nat) : Band :=
  if b = .trip then .trip
  else if c.trip ≤ e then .trip
  else if c.a2 ≤ e then .advise2
  else if c.a1 ≤ e ∧ b = .clear then .advise1
  else if b = .advise2 ∧ e ≤ c.recover then .clear
  else if b = .advise2 ∧ e ≤ c.a1 then .advise1
  else if b = .advise1 ∧ e ≤ c.recover then .clear
  else b

/-- The exposure record after a frame update, and the cause where the band entered TRIP in it (R72, R77, R78). -/
def State.stepExposure (s : State) (k : Fin 6) (r : FrameReport) : Exposure × Option TripCause :=
  let c := s.cfg k
  let x := s.exposures.at k
  let e := s.stepE k r
  let count := stepConfirm x.confirm c.phi r
  if x.band = .trip then (⟨e, .trip, count⟩, none)
  else if hardLimitMet count c.confirm r then (⟨e, .trip, count⟩, some .hardLimit)
  else
    let b := ladder c x.band e
    (⟨e, b, count⟩, if b = .trip then some .exposure else none)

/-- The band-entry edge of a change from `b` to `b'` (R79). -/
def State.raiseBandEdge (s : State) (k : Fin 6) (b b' : Band) : State :=
  match b, b' with
  | .clear, .advise1 => s.raiseEdge (srcAdvise1 k)
  | .clear, .advise2 => s.raiseEdge (srcAdvise2 k)
  | .advise1, .advise2 => s.raiseEdge (srcAdvise2 k)
  | _, _ => s

/-- The frame update in ARMED or TEST and the hand-off of its outcome to the Coil Sequencer (R72, R79, R80). -/
def State.updateExposure (s : State) (k : Fin 6) (r : FrameReport) : State :=
  let before := (s.exposures.at k).band
  let x := s.stepExposure k r
  ((s.setExposure k x.1).raiseBandEdge k before x.1.band).updateOutcome k r.accepted x.2

/-- A frame report reaches the engine (R72, R84): in FALLBACK nothing changes. -/
def State.frameUpdate (s : State) (k : Fin 6) (r : FrameReport) : State :=
  match s.mode with
  | .fallback => s
  | .armed => s.updateExposure k r
  | .test => s.updateExposure k r

end Sys2Proof.Machine
end

