-- ==== Sys2Proof/Machine/Faces.lean ====
section
/-! DEFINITION. The Frame Assembler (R55 to R70): a frame's close for one coil, from the snapshot entries that name it to
the frame report. -/

namespace Sys2Proof.Machine

open Sys2Proof

/-- The temperature of a GOOD result. -/
def PointResult.temp : PointResult → Option Int
  | .good t => some t
  | .noAnswer => none
  | .timeout => none
  | .badCheck => none
  | .sensorInvalid => none
  | .implausible => none
  | .stuck => none
  | .notReached => none
  | .segmentFault => none

/-- The temperature of an entry whose result is GOOD. -/
def SnapEntry.temp (e : SnapEntry) : Option Int := e.result.bind PointResult.temp

/-- The temperatures of the valid included set (R56). -/
def validTemps (entries : List SnapEntry) : List Int :=
  (entries.filter (·.included)).filterMap SnapEntry.temp

/-- The points of the valid included set (R56). -/
def validPoints (entries : List SnapEntry) : List (Fin 48) :=
  (entries.filter fun e => e.included && e.temp.isSome).map (·.point)

/-- The points of the missing set (R56). -/
def missingPoints (entries : List SnapEntry) : List (Fin 48) :=
  (entries.filter fun e => e.included && e.temp.isNone).map (·.point)

/-- The excluded set, each point with its result (R56). -/
def excludedPoints (entries : List SnapEntry) : List (Fin 48 × PointResult) :=
  (entries.filter fun e => !e.included).filterMap fun e => e.result.map fun r => (e.point, r)

/-- The cold spot C: the lowest of the temperatures (R58). -/
def coldSpot : List Int → Int
  | [] => 0
  | t :: ts => ts.foldl min t

/-- The highest of the temperatures (R58). -/
def hotSpot : List Int → Int
  | [] => 0
  | t :: ts => ts.foldl max t

/-- The mean M: the sum divided by the number, taken as a floor (R58). -/
def meanOf (ts : List Int) : Int := ts.sum / (ts.length : Int)

/-- The face state after a frame (R60). -/
def nextFace (f : FaceState) (accepted : Bool) (starved staleLimit : Nat) : FaceState :=
  if accepted then .sighted
  else
    match f with
    | .blind => .blind
    | .sighted => if starved < staleLimit then .holding else .blind
    | .holding => if starved < staleLimit then .holding else .blind

/-- The blind fallback of coil `k` (R63): the LAT temperature less the blind offset while LAT reads OK, otherwise the
blind floor. -/
def State.blindFallback (s : State) (k : Fin 6) : Int :=
  match s.validTemp (s.cfg k).lat with
  | some t => t - ((s.cfg k).blindOffset : Int)
  | none => (s.cfg k).blindFloor

/-- C_eff of a frame from the face state after the close (R62). -/
def State.cEffOf (s : State) (k : Fin 6) (f : FaceState) (cold : Int) (held : Option Int) : Int :=
  match f, held with
  | .sighted, _ => cold
  | .holding, some h => h
  | .holding, none => s.blindFallback k
  | .blind, _ => s.blindFallback k

/-- The face record of coil `k` after a frame with these entries (R56 to R62). -/
def State.closeFace (s : State) (k : Fin 6) (entries : List SnapEntry) : Face :=
  let c := s.cfg k
  let f := s.faces.at k
  let ts := validTemps entries
  let missing := missingPoints entries
  let accepted := decide (c.quorum ≤ ts.length)
  let cold := coldSpot ts
  let starved := if accepted then 0 else satAdd Config.maxCount8 f.starved
  let state := nextFace f.state accepted starved c.staleLimit
  let held := if accepted then some cold else f.held
  let ragged := accepted && !missing.isEmpty
  { state := state
    starved := starved
    held := held
    mean := if accepted then some (meanOf ts) else f.mean
    spread := if accepted then some (hotSpot ts - cold) else f.spread
    status := if accepted then .accepted else .starved
    cEff := some (s.cEffOf k state cold held)
    validSet := validPoints entries
    missingSet := missing
    excludedSet := excludedPoints entries
    frameSecond := some s.plantSeconds
    raggedMask := if ragged then some missing else f.raggedMask
    raggedSecond := if ragged then some s.plantSeconds else f.raggedSecond }

/-- The frame is ragged: ACCEPTED with a missing set that is not empty (R59). -/
def Face.ragged (f : Face) : Bool := f.status == .accepted && !f.missingSet.isEmpty

/-- A field of the last accepted frame as this frame's report carries it: absent for a STARVED frame (R65). -/
def Face.fresh (f : Face) (v : Option Int) : Option Int := if f.status = .accepted then v else none

/-- The frame report of the record that a close has brought up to date, with the frame interval at open and the plant second of
the close (R65). -/
def Face.report (f : Face) (interval : Nat) (second : Seconds) : FrameReport :=
  { accepted := f.status == .accepted, face := f.state, cEff := f.cEff.getD 0, cold := f.fresh f.held,
    mean := f.fresh f.mean, spread := f.fresh f.spread, interval := interval, second := second }

/-- BLIND of coil `k` handed over (R64). -/
def State.handBlind (s : State) (k : Fin 6) : State := s.handLevel (srcBlind k) (s.blindCondition k)

/-- RAGGED of coil `k` handed over for a ragged frame (R59). -/
def State.handRagged (s : State) (k : Fin 6) : State :=
  if (s.faces.at k).ragged then s.raiseEdge (srcRagged k) else s

/-- A frame result of coil `k` handled whole: the face record, its alerts, and the report to the engine (R55 to R65). -/
def State.closeCoilFrame (s : State) (k : Fin 6) (entries : List SnapEntry) (interval : Nat) : State :=
  let f := s.closeFace k entries
  (((s.setFace k f).handRagged k).handBlind k).frameUpdate k (f.report interval s.plantSeconds)

end Sys2Proof.Machine
end

