-- ==== Sys2Proof/Machine/Bus.lean ====
section
/-! DEFINITION. The Face Bus Masters (R37 to R54): classification of a reply, point health, frames from open to close,
stuck-bus recovery and the BUS_FAULT condition. -/

namespace Sys2Proof.Machine

open Sys2Proof

/-- The address byte of a READ-POINT transaction: the bus address in the upper seven bits and the read flag (R175). -/
def addressByte (address : Nat) : Byte := u8 (2 * address + 1)

/-- The classification of the four reply bytes, in the order of R39: the check sum, the valid flag in bit 7 of the status
byte, and the plausibility window (R39, R175). -/
def classify (high low status check : Byte) : PointResult :=
  if high + low + status + check ≠ 0 then .badCheck
  else if !status.msb then .sensorInvalid
  else if withinInt (-800) 960 (half high low).toInt then .good (half high low).toInt
  else .implausible

/-- The result of an attempt that was not cut off (R38, R39). -/
def replyResult : Reply → PointResult
  | .noAnswer => .noAnswer
  | .bytes h l st ck => classify h l st ck

/-! ## Point health (R49, R50) -/

/-- A miss (R49): the count goes up, saturating, and the state moves by the drop rule. -/
def Health.miss (h : Health) (r : PointResult) : Health :=
  let n := satAdd Config.maxCount8 h.misses
  let st : HealthState :=
    match h.state with
    | .unseen => if n < Config.dropLimit then .unseen else .dropped
    | .ok => .suspect
    | .suspect => if n < Config.dropLimit then .suspect else .dropped
    | .dropped => .dropped
  { h with state := st, misses := n, lastOutcome := some r }

/-- A GOOD result at a plant second (R50). -/
def Health.hit (h : Health) (t : Int) (now : Seconds) : Health :=
  let st : HealthState :=
    match h.state with
    | .unseen => .ok
    | .ok => .ok
    | .suspect => .ok
    | .dropped => if h.misses = 0 then .ok else .dropped
  { state := st, misses := 0, lastGood := some t, lastGoodSecond := some now, lastOutcome := some (.good t) }

/-- A health record given a result (R49, R50). -/
def Health.give (h : Health) (r : PointResult) (now : Seconds) : Health :=
  match r with
  | .good t => h.hit t now
  | .noAnswer => h.miss .noAnswer
  | .timeout => h.miss .timeout
  | .badCheck => h.miss .badCheck
  | .sensorInvalid => h.miss .sensorInvalid
  | .implausible => h.miss .implausible
  | .stuck => h.miss .stuck
  | .notReached => h.miss .notReached
  | .segmentFault => h.miss .segmentFault

/-! ## Snapshot entries and their results -/

/-- The entry is not attempted. -/
def SnapEntry.untried (e : SnapEntry) : Bool := e.result.isNone

/-- The frame position: while READING, the first entry not attempted, whose attempt is in flight (R37, R47). -/
def Master.position (m : Master) : Option SnapEntry :=
  match m.state with
  | .reading => m.snapshot.find? SnapEntry.untried
  | .idle => none
  | .recovering => none
  | .faulted => none

/-- The address byte that the attempt in flight sends on its segment once the bus is free (R38 step 3, R175). -/
def Master.addressSent (m : Master) : Option Byte := m.position.map fun e => addressByte e.address

/-- The snapshot with a result recorded for the entry of point `p` that is not attempted. -/
def markEntry (p : Fin 48) (r : PointResult) (l : List SnapEntry) : List SnapEntry :=
  l.map fun e => if e.point = p ∧ e.untried = true then { e with result := some r } else e

/-- Point `p` of segment `g`'s snapshot is given a result, and its health record is updated (R47, R49). -/
def State.giveResult (g : Fin 3) (r : PointResult) (s : State) (p : Fin 48) : State :=
  let m := s.masters.at g
  (s.setMaster g { m with snapshot := markEntry p r m.snapshot }).setHealth p ((s.health.at p).give r s.plantSeconds)

/-- The points of segment `g`'s snapshot that are not attempted, in ascending order. -/
def State.openPoints (s : State) (g : Fin 3) : List (Fin 48) :=
  ((s.masters.at g).snapshot.filter SnapEntry.untried).map (·.point)

/-- Every entry not attempted is given a miss kind (R42, R45). -/
def State.giveRest (s : State) (g : Fin 3) (r : PointResult) : State := (s.openPoints g).foldl (State.giveResult g r) s

/-! ## Frames (R45 to R47) -/

/-- The snapshot of segment `g` (R46): an entry for each enabled point that names it, in ascending point number. -/
def State.takeSnapshot (s : State) (g : Fin 3) : List SnapEntry :=
  (List.finRange 48).filterMap fun p =>
    let c := s.tables.points.at p
    if c.enabled ∧ c.segment = g then
      some { point := p, address := c.address, coil := c.coil, included := c.included, result := none }
    else none

/-- The coil set that a snapshot of segment `g` fixes (R46): the present coils of unit `g` that some entry names. -/
def State.coilSetOf (s : State) (g : Fin 3) (l : List SnapEntry) : List (Fin 6) :=
  allCoils.filter fun k => s.coilOf g k && l.any fun e => e.coil == some k

/-- The frame result of coil `k` handed to the Frame Assembler at a close, unless the coil has become absent or has moved
to another unit (R47, R51). -/
def State.handFrame (g : Fin 3) (snapshot : List SnapEntry) (n : Nat) (s : State) (k : Fin 6) : State :=
  if s.coilOf g k then s.closeCoilFrame k (snapshot.filter fun e => e.coil == some k) n else s

/-- The frame of segment `g` closes: its coils' results are handed over in ascending coil number (R47, R51). -/
def State.closeFrame (s : State) (g : Fin 3) : State :=
  let m := s.masters.at g
  m.coilSet.foldl (State.handFrame g m.snapshot m.intervalAtOpen) s

/-- The master of segment `g` goes to a state. -/
def State.setMasterState (s : State) (g : Fin 3) (st : MasterState) : State :=
  s.setMaster g { s.masters.at g with state := st }

/-- A frame opens on segment `g` (R43, R45, R46): on a FAULTED master the recovery runs first; otherwise the first attempt
begins, and a frame with no entries closes at once. -/
def State.openFrame (s : State) (g : Fin 3) : State :=
  let m := s.masters.at g
  let n := s.tables.intervals.at g
  let l := s.takeSnapshot g
  let st : MasterState :=
    match m.state with
    | .faulted => .recovering
    | .idle => if l.isEmpty then .idle else .reading
    | .reading => if l.isEmpty then .idle else .reading
    | .recovering => if l.isEmpty then .idle else .reading
  s.setMaster g { m with
    state := st, frameTimer := some n, intervalAtOpen := n, snapshot := l, coilSet := s.coilSetOf g l,
    openPending := false, framesOpened := satAdd Config.maxCount16 m.framesOpened }

/-- The frames-cut-short count of segment `g` goes up where some entry is about to be given NOT_REACHED (R45). -/
def State.countCut (s : State) (g : Fin 3) : State :=
  let m := s.masters.at g
  if (s.openPoints g).isEmpty then s
  else s.setMaster g { m with framesCutShort := satAdd Config.maxCount16 m.framesCutShort }

/-- An attempt of segment `g` has completed, or a recovery has freed its line, with the master READING (R45, R47): a frame
whose timer has expired closes with the rest NOT_REACHED and the next opens; a frame with every entry attempted closes;
otherwise the next attempt begins. -/
def State.goOn (s : State) (g : Fin 3) : State :=
  if (s.masters.at g).openPending then
    ((((s.countCut g).giveRest g .notReached).setMasterState g .idle).closeFrame g).openFrame g
  else if (s.openPoints g).isEmpty then (s.setMasterState g .idle).closeFrame g
  else s

/-- The attempt in flight on segment `g` completes with a result (R38, R47). -/
def State.attemptEnds (s : State) (g : Fin 3) (r : PointResult) : State :=
  match (s.masters.at g).position with
  | none => s
  | some e => (s.giveResult g r e.point).goOn g

/-- The free-bus check finds the data line held: STUCK, and the recovery begins (R41). -/
def State.attemptStuck (s : State) (g : Fin 3) : State :=
  match (s.masters.at g).position with
  | none => s
  | some e => (s.giveResult g .stuck e.point).setMasterState g .recovering

/-- BUS_FAULT of unit `g` written and handed over (R44). -/
def State.setBusFault (s : State) (g : Fin 3) (v : Bool) : State :=
  let t := s.setMaster g { s.masters.at g with busFault := v }
  t.handLevel (srcBusFault g) (t.busFaultCondition g)

/-- A recovery frees the line: READING again (R41, R43, R44). -/
def State.recoveryFrees (s : State) (g : Fin 3) : State := ((s.setMasterState g .reading).setBusFault g false).goOn g

/-- A recovery fails: FAULTED, the rest SEGMENT_FAULT, the frame closes, and a waiting frame opens (R42, R43, R45). -/
def State.recoveryFails (s : State) (g : Fin 3) : State :=
  let waiting := (s.masters.at g).openPending
  let t := (((s.setMasterState g .faulted).setBusFault g true).giveRest g .segmentFault).closeFrame g
  if waiting then t.openFrame g else t

/-- The recovery of segment `g` completes (R41 to R45). -/
def State.recoveryEnds (s : State) (g : Fin 3) (freed : Bool) : State :=
  match (s.masters.at g).state with
  | .recovering => if freed then s.recoveryFrees g else s.recoveryFails g
  | .idle => s
  | .reading => s
  | .faulted => s

/-- The frame timer of segment `g` expires, if it runs (R45). -/
def State.frameTimerExpires (s : State) (g : Fin 3) : State :=
  let m := s.masters.at g
  match m.frameTimer with
  | none => s
  | some _ =>
    let t := s.setMaster g { m with frameTimer := none }
    match m.state with
    | .idle => t.openFrame g
    | .faulted => t.openFrame g
    | .reading => t.setMaster g { m with frameTimer := none, openPending := true }
    | .recovering => t.setMaster g { m with frameTimer := none, openPending := true }

/-! ## The segment's events -/

/-- FRAME_TIMER_EXPIRY (R45). -/
def execFrameTimerExpiry (g : Fin 3) (s : State) : Host.Outcome State Fault Refusal :=
  whileRunning s fun s => (s.frameTimerExpires g).conclude

/-- READ_POINT_COMPLETE (R38, R39). -/
def execReadPointComplete (g : Fin 3) (reply : Reply) (s : State) : Host.Outcome State Fault Refusal :=
  whileRunning s fun s => (s.attemptEnds g (replyResult reply)).conclude

/-- CLOCK_HOLD_TIMEOUT (R38, R40): the attempt ends TIMEOUT. -/
def execClockHoldTimeout (g : Fin 3) (s : State) : Host.Outcome State Fault Refusal :=
  whileRunning s fun s => (s.attemptEnds g .timeout).conclude

/-- DATA_HELD_TIMEOUT (R41). -/
def execDataHeldTimeout (g : Fin 3) (s : State) : Host.Outcome State Fault Refusal :=
  whileRunning s fun s => (s.attemptStuck g).conclude

/-- RECOVERY_COMPLETE (R41, R42, R43). -/
def execRecoveryComplete (g : Fin 3) (freed : Bool) (s : State) : Host.Outcome State Fault Refusal :=
  whileRunning s fun s => (s.recoveryEnds g freed).conclude

end Sys2Proof.Machine
end

