-- ==== Sys2Proof/Machine/Inputs.lean ====
section
/-! DEFINITION. The Input Conditioner (R136 to R138): levels, debounce, and the delivery of debounced changes. -/

namespace Sys2Proof.Machine

open Sys2Proof

/-- A debounced change of an input delivered to the block that uses it (R138). DAMPER_CLOSED asserted is a damper proof
present; FAN_PROVEN asserted is a fan proof missing; only the assertion of LOCAL_RESET acts. -/
def State.deliver (s : State) (i : Fin 15) : State :=
  let asserted := (s.inputs.at i).debounced
  if h : i.val < 6 then s.flowEvent ⟨i.val, h⟩ asserted
  else if h : i.val < 9 then (s.proofEvent ⟨i.val - 6, by omega⟩ true asserted).recompute
  else if h : i.val < 12 then (s.proofEvent ⟨i.val - 9, by omega⟩ false (!asserted)).recompute
  else if asserted then s.localReset ⟨i.val - 12, by omega⟩
  else s

/-- The debounced state of an input takes its level, and the change is delivered (R137). -/
def State.adoptLevel (s : State) (i : Fin 15) : State :=
  (s.setInput i { debounced := s.inputLevel i, timer := none }).deliver i

/-- The level of an input has changed (R137): a debounce period starts, the debounced state follows at once with a debounce
time of 0, or a period ends because the level has reverted. -/
def State.levelChanged (s : State) (i : Fin 15) : State :=
  let r := s.inputs.at i
  let steps := (s.tables.inputs.at i).debounce
  if s.inputLevel i = r.debounced then s.setInput i { r with timer := none }
  else if steps = 0 then s.adoptLevel i
  else s.setInput i { r with timer := some (100 * steps) }

/-- The debounce timer of an input expires, if it runs (R137): the debounced state takes the level, and a change of it is
delivered. -/
def State.debounceExpires (s : State) (i : Fin 15) : State :=
  let r := s.inputs.at i
  match r.timer with
  | none => s
  | some _ => if s.inputLevel i = r.debounced then s.setInput i { r with timer := none } else s.adoptLevel i

/-- INPUT_LEVEL_CHANGE (R136, R137). The pin is the plant's, so it moves during a start and without supply too; the
Input Conditioner then takes it at the start's completion. -/
def execInputLevelChange (i : Fin 15) (high : Bool) (s : State) : Host.Outcome State Fault Refusal :=
  if s.pins.at i = high then .next s
  else whileRunning (s.setPin i high) fun s => (s.levelChanged i).conclude

/-- DEBOUNCE_EXPIRY (R137). -/
def execDebounceExpiry (i : Fin 15) (s : State) : Host.Outcome State Fault Refusal :=
  whileRunning s fun s => (s.debounceExpires i).conclude

end Sys2Proof.Machine
end

