-- ==== Sys2Proof/Machine/Sampler.lean ====
section
/-! DEFINITION. The Analog Sampler (R23 to R35): a conversion's result, passes of the scan list, the water-cold crossing
detectors and ANALOG_FAULT. -/

namespace Sys2Proof.Machine

open Sys2Proof

/-- The channel in conversion (R23). -/
def Sampler.channel (p : Sampler) : Option (Fin 16) := if p.position = 0 then none else p.passList[p.position - 1]?

/-- A code that is a wiring fault (R26). -/
def wiringFault (code : Nat) : Bool := decide (code < 20 ∨ 4075 < code)

/-- The temperature of a code of 20..4075 with a trim (R27). -/
def codeTemp (code : Nat) (trim : Int) : Int :=
  max (-800) (min 800 (((code * 1600 / 4095 : Nat) : Int) - 800 + trim))

/-- A channel record after a conversion (R25 to R28). -/
def ChannelRec.convert (r : ChannelRec) (c : ChannelCfg) (code : Nat) : ChannelRec :=
  let n := satAdd Config.maxCount16 r.conversions
  if wiringFault code then { r with code := code, status := .wire, conversions := n }
  else
    let t := codeTemp code c.trim
    { code := code, temperature := t, status := if t < c.low ∨ c.high < t then .implausible else .ok, conversions := n }

/-- Coil `k`'s detector after an OK completion of its LWT channel at temperature `t` (R32). -/
def State.stepDetector (t : Int) (s : State) (k : Fin 6) : State :=
  let lambda := (s.cfg k).lambda
  match s.detectors.at k with
  | .ready => if t < lambda then (s.setDetector k .latched).raiseEdge (srcWaterCold k) else s
  | .latched => if lambda + 8 ≤ t then s.setDetector k .ready else s

/-- The detectors evaluated after channel `c`'s record is written (R32). -/
def State.stepDetectors (s : State) (c : Fin 16) : State :=
  match s.validTemp (some c) with
  | none => s
  | some t => (allCoils.filter fun k => (s.cfg k).present && (s.cfg k).lwt == some c).foldl (State.stepDetector t) s

/-- ANALOG_FAULT re-evaluated and handed over (R34, R35). -/
def State.handAnalogFault (s : State) : State := s.handLevel srcAnalogFault s.analogFaultCondition

/-- A channel that the new pass drops takes NOT_SCANNED (R24). -/
def State.dropChannel (s : State) (c : Fin 16) : State :=
  s.setChannel c { s.channels.at c with status := .notScanned }

/-- A pass begins: the active list is copied, and the channels it drops are marked (R23, R24). -/
def State.beginPass (s : State) : State :=
  let dropped := s.sampler.passList.filter fun c => !s.tables.scan.contains c
  (dropped.foldl State.dropChannel { s with sampler := { passList := s.tables.scan, position := 1 } }).handAnalogFault

/-- The next conversion starts: the next entry's, or the first of the next pass (R23). -/
def State.nextConversion (s : State) : State :=
  if s.sampler.position < s.sampler.passList.length then
    { s with sampler := { s.sampler with position := s.sampler.position + 1 } }
  else s.beginPass

/-- The conversion in flight completes with a raw code (R25 to R28, R32, R35). -/
def State.conversionEnds (s : State) (code : Nat) : State :=
  match s.sampler.channel with
  | none => s
  | some c =>
    let t := s.setChannel c ((s.channels.at c).convert (s.tables.channels.at c) code)
    (t.stepDetectors c).handAnalogFault.nextConversion

/-- CONVERSION_COMPLETE (R25). -/
def execConversionComplete (code : BitVec 12) (s : State) : Host.Outcome State Fault Refusal :=
  whileRunning s fun s => (s.conversionEnds code.toNat).conclude

end Sys2Proof.Machine
end

