-- ==== Sys2Proof/Machine/Settings.lean ====
section
/-! DEFINITION. The configuration requests (R1 to R10): the order of their checks, and what an accepted write does to the
running blocks (R4, R5, R9, R10, R31, R67, R86, R107, R122, R129). -/

namespace Sys2Proof.Machine

open Sys2Proof

/-! ## SET-COIL (R2 to R4) -/

/-- The coil enters IDLE because it is made absent: everything but the trip record, the history and the lockout flag is
cleared (R4, R86, R107). -/
def State.removeCoil (s : State) (k : Fin 6) : State :=
  let r := s.coils.at k
  (s.setExposure k Exposure.start).writeCoil k
    { r with stage := .idle, settle := 0, holdDown := none, prove := .off, proveTimer := none, forced := false }

/-- The band and stage that a coil takes where it is made present, at a start's completion, or where the plant enters TEST
from FALLBACK: LOCKOUT with band TRIP if its lockout flag is set, otherwise SETTLE, with E 0 and confirm count 0 (R13, R85,
R86, R105, R107). The level conditions are handed over by the caller. -/
def State.placeCoil (s : State) (k : Fin 6) : State :=
  let r := s.coils.at k
  let frames := (s.cfg k).settleFrames
  if r.lockout then
    (s.setExposure k { Exposure.start with band := .trip }).setCoil k { r.enter .lockout frames with forced := false }
  else (s.setExposure k Exposure.start).setCoil k { r.enter .settle frames with forced := false }

/-- The trip history cut to its newest entries, down to the lockout limit (R4). -/
def trimHistory (h : List Seconds) (limit : Nat) : List Seconds := h.drop (h.length - limit)

/-- The active tables with coil `k`'s record replaced. -/
def State.writeCoilCfg (s : State) (k : Fin 6) (c : CoilCfg) : State :=
  s.setTables { s.tables with coils := s.tables.coils.put k c }

/-- The crossing detector is set READY by a change of the LWT field or by a coil made present (R31). -/
def State.readyDetector (s : State) (k : Fin 6) (old new : CoilCfg) : State :=
  if old.lwt ≠ new.lwt ∨ (!old.present && new.present) = true then s.setDetector k .ready else s

/-- What a presence change does to coil `k`'s face, exposure and sequencer records (R4, R67, R86, R107). -/
def State.presenceChange (s : State) (k : Fin 6) (old new : CoilCfg) : State :=
  if !old.present && new.present then (s.setFace k Face.start).placeCoil k
  else if old.present && !new.present then s.removeCoil k
  else s

/-- A coil made absent, or moved to another unit, leaves the coil set of the open frame for good: back again, it receives its
first close from the next frame of its unit's segment (R47, R48, R67). -/
def State.leaveFrames (s : State) (k : Fin 6) (old new : CoilCfg) : State :=
  if old.present && (!new.present || new.unit != old.unit) then
    { s with masters := s.masters.each fun m => { m with coilSet := m.coilSet.filter fun j => j != k } }
  else s

/-- The units whose conditions a SET-COIL re-evaluates where it changes presence or unit: the old one and the new one
(R110, R122). -/
def State.unitsConcerned (s : State) (old new : CoilCfg) : State :=
  if old.present = new.present ∧ old.unit = new.unit then s
  else if old.unit = new.unit then s.unitEvent new.unit
  else (s.unitEvent old.unit).unitEvent new.unit

/-- An accepted SET-COIL (R4): the record replaced, and its effects field by field. -/
def State.applyCoil (s : State) (k : Fin 6) (new : CoilCfg) : State :=
  let old := s.cfg k
  let s := (s.writeCoilCfg k new).readyDetector k old new
  let r := s.coils.at k
  let s := s.setCoil k { r with history := trimHistory r.history new.lockoutLimit }
  let s := (s.presenceChange k old new).leaveFrames k old new
  let s := ((s.handCoil k).handBlind k).unitsConcerned old new
  let s := s.recompute
  let s := if !old.present && new.present then s.proveFresh k else s
  s.handDemandsStale.handAnalogFault

/-- Check 3 of R1 for SET-COIL (R3): in ARMED and FALLBACK every structural field of the request must equal the active
record's. -/
def State.coilModeAdmits (s : State) (k : Fin 6) (w : CoilWire) : Bool :=
  s.mode == .test || structuralBytes w == structuralBytes (s.cfg k).toWire

/-- SET-COIL (R1, R2, R3, R4). -/
def reqSetCoil (coil : Byte) (w : CoilWire) (s : State) : Answer :=
  if s.saveBusy then answer .busy s
  else
    match decNumber 6 coil with
    | none => answer .range s
    | some k =>
      if !s.coilModeAdmits k w then answer .mode s
      else
        match coilCfgOf w with
        | none => answer .range s
        | some c =>
          if (s.cfg k).present && !c.present && (s.coils.at k).lockout then answer .locked s
          else answer .done (s.applyCoil k c)

/-! ## Unit, segment, point and channel records, and the scan list (R5 to R7) -/

/-- SET-UNIT (R1, R5): a new damper minimum reaches the outputs at once. -/
def reqSetUnit (unit : Byte) (damperMin strokeLimit : Half) (fanStopLimit : Byte) (holdOff : Half) (s : State) : Answer :=
  if s.saveBusy then answer .busy s
  else
    match decNumber 3 unit with
    | none => answer .range s
    | some u =>
      let c : UnitCfg := { damperMin := damperMin.toNat, strokeLimit := strokeLimit.toNat,
                           fanStopLimit := fanStopLimit.toNat, holdOff := holdOff.toNat }
      if c.valid then answer .done (s.setTables { s.tables with units := s.tables.units.put u c }).recompute
      else answer .range s

/-- SET-SEGMENT (R1, R5). -/
def reqSetSegment (segment interval : Byte) (s : State) : Answer :=
  if s.saveBusy then answer .busy s
  else
    match decNumber 3 segment with
    | none => answer .range s
    | some g =>
      if intervalValid interval.toNat then
        answer .done (s.setTables { s.tables with intervals := s.tables.intervals.put g interval.toNat })
      else answer .range s

/-- The point record that the fields of a SET-POINT stand for, or none where one holds no value of its encoding. -/
def pointOf (enabled segment address coil included : Byte) : Option PointCfg :=
  match decFlag enabled, decNumber 3 segment, decOptCoil coil, decFlag included with
  | some enabled, some segment, some coil, some included =>
    some { enabled := enabled, segment := segment, address := address.toNat, coil := coil, included := included }
  | _, _, _, _ => none

/-- SET-POINT (R1, R6). -/
def reqSetPoint (point enabled segment address coil included : Byte) (s : State) : Answer :=
  if s.saveBusy then answer .busy s
  else
    match decNumber 48 point with
    | none => answer .range s
    | some p =>
      if s.mode ≠ .test then answer .mode s
      else
        match pointOf enabled segment address coil included with
        | none => answer .range s
        | some c =>
          let points := s.tables.points.put p c
          if !c.valid s.tables.coils then answer .range s
          else if !pointsConsistent points then answer .conflict s
          else answer .done (s.setTables { s.tables with points := points })

/-- SET-CHANNEL (R1, R7). -/
def reqSetChannel (channel trim : Byte) (low high : Half) (s : State) : Answer :=
  if s.saveBusy then answer .busy s
  else
    match decIndex 16 channel with
    | none => answer .range s
    | some c =>
      let r : ChannelCfg := { trim := trim.toInt, low := low.toInt, high := high.toInt }
      if r.valid then answer .done (s.setTables { s.tables with channels := s.tables.channels.put c r })
      else answer .range s

/-- The channels of a SET-SCAN, or none where one lies above 15 (R7). -/
def scanOf : List Byte → Option (List (Fin 16))
  | [] => some []
  | b :: rest =>
    match decIndex 16 b, scanOf rest with
    | some c, some l => some (c :: l)
    | _, _ => none

/-- SET-SCAN (R1, R7). -/
def reqSetScan (channels : List Byte) (s : State) : Answer :=
  if s.saveBusy then answer .busy s
  else if s.mode ≠ .test then answer .mode s
  else
    match scanOf channels with
    | none => answer .range s
    | some l =>
      if !scanValid l then answer .range s
      else if !decide l.Nodup then answer .conflict s
      else answer .done (s.setTables { s.tables with scan := l })

/-! ## Output and input records (R9) -/

/-- The policy of a SET-OUTPUT: with HOLD_LAST the fixed value is neither checked nor kept (R9). -/
def policyOf (code : Byte) (value : Half) : Option Policy :=
  if code = 0 then some .holdLast else if code = 1 then some (.fixed value.toNat) else none

/-- SET-OUTPUT (R1, R9): a new policy reaches a STALE output at once. -/
def reqSetOutput (output lifetime policy : Byte) (value : Half) (s : State) : Answer :=
  if s.saveBusy then answer .busy s
  else
    match decNumber 18 output with
    | none => answer .range s
    | some o =>
      match policyOf policy value with
      | none => answer .range s
      | some p =>
        let c : OutputCfg := { lifetime := lifetime.toNat, policy := p }
        if c.valid o then answer .done (s.setTables { s.tables with outputs := s.tables.outputs.put o c }).recompute
        else answer .range s

/-- SET-INPUT (R1, R9): a polarity change is a change of the input's level, debounced like any other. -/
def reqSetInput (input polarity debounce : Byte) (s : State) : Answer :=
  if s.saveBusy then answer .busy s
  else
    match decNumber 15 input, decFlag polarity with
    | some i, some low =>
      let c : InputCfg := { activeLow := low, debounce := debounce.toNat }
      if c.valid then
        let t := s.setTables { s.tables with inputs := s.tables.inputs.put i c }
        answer .done (if (s.tables.inputs.at i).activeLow = low then t else t.levelChanged i)
      else answer .range s
    | _, _ => answer .range s

/-! ## Source and resolver records (R10) -/

/-- SET-SOURCE (R1, R10): a mask change is a selection event. -/
def reqSetSource (source cls mask : Byte) (s : State) : Answer :=
  if s.saveBusy then answer .busy s
  else
    match decIndex 65 source, decNumber 8 cls, decFlag mask with
    | some x, some c, some m =>
      let t := s.setTables { s.tables with sources := s.tables.sources.put x { cls := c, masked := m } }
      answer .done (if (s.tables.sources.at x).masked = m then t else t.noteSelection)
    | _, _, _ => answer .range s

/-- SET-RESOLVER (R1, R10). -/
def reqSetResolver (level : Byte) (s : State) : Answer :=
  if s.saveBusy then answer .busy s
  else if autoAckValid level.toNat then answer .done (s.setTables { s.tables with autoAck := level.toNat })
  else answer .range s

end Sys2Proof.Machine
end

