-- ==== Sys2Proof/Machine/Modes.lean ====
section
/-! DEFINITION. Mode Control (R11 to R17, R22): ARMED validation, SET-MODE, cold and warm starts from their beginning to
their completion, RESTART, plant seconds and the loss of power. -/

namespace Sys2Proof.Machine

open Sys2Proof

/-! ## ARMED validation (R11) -/

/-- The enabled points that name coil `k`. -/
def Tables.pointsOf (t : Tables) (k : Fin 6) : List PointCfg :=
  t.points.toList.filter fun p => p.enabled && p.coil == some k

/-- A channel binding that is none or is in the scan list. -/
def Tables.listed (t : Tables) : Option (Fin 16) → Bool
  | none => true
  | some c => t.scan.contains c

/-- The lowest reason for which coil `k` fails, or none (R11). -/
def Tables.failure (t : Tables) (k : Fin 6) : Option Nat :=
  let c := t.coils.at k
  if (t.pointsOf k).countP (·.included) < c.quorum then some 1
  else if (t.pointsOf k).any fun p => p.segment != c.unit then some 2
  else if t.listed c.lwt && t.listed c.lat then none
  else some 3

/-- The result of ARMED validation (R11): the first present coil that fails and its reason, or 0 and 0. -/
def Tables.validate (t : Tables) : Validation :=
  (allCoils.findSome? fun k =>
    if (t.coils.at k).present then (t.failure k).map fun r => ({ coil := k.val + 1, reason := r } : Validation)
    else none).getD { coil := 0, reason := 0 }

/-! ## SET-MODE (R13, R14, R106, R121) -/

/-- MODE_TEST handed over (R12). -/
def State.handModeTest (s : State) : State := s.handLevel srcModeTest s.modeTestCondition

/-- What arming does to coil `k` (R14): a forced coil is released, an unforced one in TRIPPED or LOCKOUT stays, and every
other present coil enters SETTLE. Each change is handed to the coil's unit as an event of its own (R89, R110, R121). -/
def State.armCoil (s : State) (k : Fin 6) : State :=
  if (s.cfg k).present then
    let r := s.coils.at k
    let frames := (s.cfg k).settleFrames
    if r.forced then (s.writeCoil k (r.release (s.exposures.at k).band frames)).unitEvent (s.cfg k).unit
    else if r.stage == .tripped || r.stage == .lockout then s
    else (s.writeCoil k (r.enter .settle frames)).unitEvent (s.cfg k).unit
  else s

/-- The plant becomes ARMED from TEST (R14, R121): the coils one after another, each with its unit's event, and then the
outputs on the new stages (notes/assumptions/10.md). -/
def State.arm (s : State) : State := (allCoils.foldl State.armCoil { s with mode := .armed }).handModeTest.recompute

/-- SET-MODE ARMED past the BUSY check (R13). -/
def State.requestArmed (s : State) : Answer :=
  match s.mode with
  | .fallback => answer .mode s
  | .armed => answer .done s
  | .test =>
    let v := s.tables.validate
    let t : State := { s with validation := v }
    if v.reason = 0 then answer .done t.arm else ⟨[Result.notReady.code, u8 v.coil, u8 v.reason], t⟩

/-- A present coil placed as the plant leaves FALLBACK for TEST (R13, R85, R106). -/
def State.releaseCoil (s : State) (k : Fin 6) : State :=
  if (s.cfg k).present then (s.placeCoil k).handCoil k else s

/-- The plant enters TEST (R13): from ARMED everything stands as it is; from FALLBACK the coils and units leave IDLE. -/
def State.enterTest (s : State) : State :=
  match s.mode with
  | .test => s
  | .armed => ({ s with mode := .test } : State).handModeTest.recompute
  | .fallback =>
    let t := allCoils.foldl State.releaseCoil { s with mode := .test }
    ((allUnits.foldl State.startUnit t).handModeTest).recompute

/-- SET-MODE (R13, R170). -/
def reqSetMode (code : Byte) (s : State) : Answer :=
  if s.saveBusy then answer .busy s
  else if code = 1 then s.requestArmed
  else if code = 2 then answer .done s.enterTest
  else answer .range s

/-! ## The beginning of a start (R16, R17, R22, R37, R120, R153, R167) -/

/-- A start begins: work in flight is abandoned, the outputs take the fallback posture, the receiver and the queues are
emptied, the resolver is emptied and the ALERT line is deasserted. -/
def State.beginStart (s : State) (cold : Bool) : State :=
  { s.abandonJob with
    power := .starting cold
    outputs := Outputs.posture
    sampler := { passList := [], position := 0 }
    masters := s.masters.each fun m => { m with state := .idle, frameTimer := none, openPending := false }
    units := s.units.each fun r => { r with stroke := none, fan := none, holdOff := none }
    alerts := Alerts.start
    alertLine := false
    link := Link.start }

/-- RESTART has been accepted and its DONE response has left the transmitter (R17, R162): no response of KIND 0xC1 with
result DONE is in the transmit queue. -/
def State.restartSent (s : State) : Bool :=
  s.link.restartAccepted && !s.link.txQueue.any fun i =>
    match i with
    | .response f => f.kind == 0xC1 && f.payload == [Result.done.code]
    | .notice _ _ _ => false

/-- The warm start of an accepted RESTART can begin (R17). -/
def State.warmStartDue (s : State) : Bool := s.restartSent && !s.storeBusy

/-- RESTART (R17, R162). -/
def reqRestart (s : State) : Answer :=
  if s.storeBusy then answer .busy s else answer .done (s.setLink { s.link with restartAccepted := true })

/-! ## The completion of a start (R16) -/

/-- The image passes its check (R16 step 2): its format number is 1, its CRC-16 matches, and every record passes its checks. -/
def Image.passes (i : Image) : Bool := i.format == Config.imageFormat && i.crcMatches && i.tables.valid

/-- The mode and the validation result of a start (R16 step 8). -/
def startMode (strap : Strap) (imageOk : Bool) (t : Tables) : PlantMode × Validation :=
  match strap, imageOk with
  | .field, true => (if t.validate.reason = 0 then .armed else .fallback, t.validate)
  | .field, false => (.fallback, { coil := 0, reason := 0 })
  | .bench, _ => (.test, { coil := 0, reason := 0 })

/-- The sequencer record of coil `k` before the mode places the coil (R16 steps 5 and 6, R105). A warm start keeps the history
whole, also where the loaded lockout limit is lower (notes/assumptions/28.md). -/
def State.startSeq (s : State) (cold : Bool) (k : Fin 6) : CoilSeq :=
  let r := s.coils.at k
  { CoilSeq.start with
    lockout := s.area.crcMatches && s.area.flags.at k
    tripRecord := if cold then none else r.tripRecord
    history := if cold then [] else r.history }

/-- Steps 1 to 8 of R16: the strap, the tables, the clock, the lockout flags, the two store flags and the mode. -/
def State.loadStart (s : State) (cold : Bool) (strap : Strap) : State :=
  let imageOk := s.image.passes
  let tables := if imageOk then s.image.tables else Tables.default
  let choice := startMode strap imageOk tables
  { s with
    power := .running
    strap := strap
    tables := tables
    plantSeconds := if cold then 0 else s.plantSeconds
    coils := Tab.build (s.startSeq cold)
    areaDirty := !s.area.crcMatches
    imageInvalid := !(imageOk && s.area.crcMatches)
    mode := choice.1
    validation := choice.2 }

/-- The start values of the sampler's channels, the detectors, the masters, the point health, the faces, the exposure
records, the demands, the inputs and the link port (R29, R31, R37, R49, R55, R85, R124, R136, R167). -/
def State.startBlocks (s : State) : State :=
  { s with
    channels := Tab.build fun c => ChannelRec.start (if s.tables.scan.contains c then .never else .notScanned)
    sampler := { passList := [], position := 0 }
    detectors := Tab.build fun _ => .ready
    masters := Tab.build fun g =>
      { Master.start with frameTimer := some (s.tables.intervals.at g), intervalAtOpen := s.tables.intervals.at g }
    health := Tab.build fun _ => Health.start
    faces := Tab.build fun _ => Face.start
    exposures := Tab.build fun _ => Exposure.start
    demands := Tab.build fun _ => Demand.start
    inputs := Tab.build fun i => { debounced := s.inputLevel i, timer := none }
    link := Link.start }

/-- A present coil placed by a start in ARMED or TEST; in FALLBACK every coil stays IDLE (R16, R85, R105). -/
def State.startCoil (s : State) (k : Fin 6) : State :=
  match s.mode with
  | .fallback => s
  | .armed => if (s.cfg k).present then s.placeCoil k else s
  | .test => if (s.cfg k).present then s.placeCoil k else s

/-- The level conditions of coil `k` after a start (R153). -/
def State.handCoilLevels (s : State) (k : Fin 6) : State := (s.handCoil k).handBlind k

/-- The level conditions that hold after a start handed over (R153). -/
def State.handStartLevels (s : State) : State :=
  let t := (s.handLevel srcImageInvalid s.imageInvalidCondition).handModeTest
  (allCoils.foldl State.handCoilLevels t).handDemandsStale.handAnalogFault

/-- The start completes: R16, and the start values of every block. -/
def State.completeStart (s : State) (cold : Bool) (strap : Strap) : State :=
  let t := (s.loadStart cold strap).startBlocks
  let t := allCoils.foldl State.startCoil t
  let t := allUnits.foldl State.startUnit t
  let t := allCoils.foldl State.proveFresh (t.setOutputs t.effective)
  let t := t.beginPass
  let t := if t.areaDirty then t.lockoutChange else t
  t.handStartLevels.noteSelection

/-! ## Plant seconds (R16) -/

/-- Plant seconds one second on; what follows the top of the 32-bit count is a free value (notes/assumptions/1.md). -/
def State.advanceSeconds (s : State) : State :=
  if s.plantSeconds = BitVec.allOnes 32 then
    { s with plantSeconds := Config.plantSecondsAfterTop s.freeUses, freeUses := s.freeUses + 1 }
  else { s with plantSeconds := s.plantSeconds + 1 }

/-- The timers counted in seconds, one second on (notes/assumptions/4.md). -/
def State.countTimers (s : State) : State :=
  { s with
    coils := s.coils.each fun r => { r with holdDown := countDown r.holdDown, proveTimer := countDown r.proveTimer }
    units := s.units.each fun r =>
      { r with stroke := countDown r.stroke, fan := countDown r.fan, holdOff := countDown r.holdOff }
    demands := s.demands.each fun r => { r with timer := countDown r.timer } }

/-! ## Mode Control's own commands -/

/-- COLD_START (R16): from any state, a start in progress and the loss of power included. -/
def execColdStart (s : State) : Host.Outcome State Fault Refusal := .next (s.beginStart true)

/-- WARM_START (R17): it begins only where an accepted RESTART calls for it (notes/assumptions/13.md). -/
def execWarmStart (s : State) : Host.Outcome State Fault Refusal :=
  whileRunning s fun s => if s.warmStartDue then s.beginStart false else s

/-- START_COMPLETE (R16): only a start in progress completes. -/
def execStartComplete (strap : Strap) (s : State) : Host.Outcome State Fault Refusal :=
  match s.power with
  | .starting cold => .next (s.completeStart cold strap).conclude
  | .running => .next s
  | .off => .next s

/-- PLANT_SECOND_TICK (R16). -/
def execPlantSecondTick (s : State) : Host.Outcome State Fault Refusal :=
  whileRunning s fun s => s.advanceSeconds.countTimers

/-- POWER_LOSS (R22). -/
def execPowerLoss (s : State) : Host.Outcome State Fault Refusal := .next { s.abandonJob with power := .off }

end Sys2Proof.Machine
end

