-- ==== Sys2Proof/Machine/Reports.lean ====
section
/-! DEFINITION. The reports (R36, R52, R53, R108, R123, R139, R154, R163 to R165) and their byte layouts (R173, R176 to
R180), with the requests that return them. -/

namespace Sys2Proof.Machine

open Sys2Proof

/-! ## Field encodings of a report (R168) -/

/-- A temperature, 0x8000 where it is absent. -/
def tempBytes : Option Int → List Byte
  | none => [0x80, 0x00]
  | some t => i16 t

/-- A plant second, 0xFFFFFFFF where it is absent. -/
def secondBytes : Option Seconds → List Byte
  | none => [0xFF, 0xFF, 0xFF, 0xFF]
  | some t => bytesBE 4 t.toNat

/-- A timer's remaining seconds: at least 1 while it runs, 0xFFFF while it is stopped. -/
def timerBytes : Option Nat → List Byte
  | none => [0xFF, 0xFF]
  | some n => bytesBE 2 (max 1 n)

/-- A point set: bit p − 1 for point Pp. -/
def pointSetBytes (l : List (Fin 48)) : List Byte := bytesBE 6 (flagBits ((List.finRange 48).map fun p => l.contains p))

/-- A coil set: bit k − 1 for coil Ck. -/
def coilSetByte (f : Fin 6 → Bool) : Byte := u8 (flagBits (allCoils.map f))

/-- A source set: bit s for source s. -/
def sourceSetBytes (f : Fin 65 → Bool) : List Byte := bytesBE 9 (flagBits ((List.finRange 65).map f))

/-- A field of `n` bytes of which the list fills the first ones; the rest are 0. -/
def padTo (n : Nat) (l : List Byte) : List Byte := (l ++ List.replicate n 0).take n

/-! ## Coil and trip reports (R165, R173) -/

/-- One excluded entry: point, result code, and the temperature of a GOOD result. -/
def excludedBytes (e : Fin 48 × PointResult) : List Byte := [encNumber e.1, e.2.code] ++ tempBytes e.2.temp

/-- The Coil Sequencer fields of the coil report (R108). -/
def State.coilSeqBytes (s : State) (k : Fin 6) : List Byte :=
  let r := s.coils.at k
  [r.stage.code, u8 r.settle] ++ timerBytes r.holdDown ++
    [r.prove.code, u8 (flagBits [r.lockout, r.forced, s.detectors.at k == .ready]), u8 r.history.length] ++
    padTo 20 (r.history.flatMap fun t => bytesBE 4 t.toNat)

/-- The face record fields of the coil report (R70). -/
def State.faceBytes (s : State) (k : Fin 6) : List Byte :=
  let f := s.faces.at k
  [f.state.code, u8 f.starved] ++ tempBytes f.held ++ tempBytes f.mean ++ tempBytes f.spread ++ [f.status.code] ++
    tempBytes f.cEff ++ pointSetBytes f.validSet ++ pointSetBytes f.missingSet ++ [u8 f.excludedSet.length] ++
    padTo 32 (f.excludedSet.flatMap excludedBytes) ++ pointSetBytes (f.raggedMask.getD []) ++
    secondBytes f.raggedSecond ++ secondBytes f.frameSecond

/-- The coil report: 105 bytes (R165, R173). -/
def State.coilReport (s : State) (k : Fin 6) : List Byte :=
  let x := s.exposures.at k
  [encNumber k, flagByte (s.cfg k).present, encNumber (s.cfg k).unit] ++ s.coilSeqBytes k ++ bytesBE 3 x.e ++
    [x.band.code, u8 x.confirm] ++ s.faceBytes k

/-- A trip record's fields (R93, R173). -/
def TripRecord.bytes (t : TripRecord) : List Byte :=
  bytesBE 4 t.second.toNat ++ [t.cause.code, t.stageLeft.code] ++ tempBytes t.cEff ++ tempBytes t.held ++
    tempBytes t.mean ++ tempBytes t.spread ++ [t.face.code] ++ bytesBE 3 t.e ++ tempBytes t.lwt ++ tempBytes t.lat ++
    pointSetBytes t.validMask ++ pointSetBytes t.missingMask ++ [u8 t.historyCount]

/-- The trip report: 2 bytes with NONE, 37 with a record (R165, R173). -/
def State.tripReport (s : State) (k : Fin 6) : List Byte :=
  match (s.coils.at k).tripRecord with
  | none => [encNumber k, 0]
  | some t => [encNumber k, 1] ++ t.bytes

/-! ## Unit report (R123, R177) -/

/-- The unit report: 20 bytes (R177). -/
def State.unitReport (s : State) (u : Fin 3) : List Byte :=
  let r := s.units.at u
  [encNumber u, r.stage.code,
   u8 (flagBits [r.temper, r.trip, s.damperProof u, s.fanProof u, r.missingDamper, r.missingFan])] ++
    timerBytes r.stroke ++ timerBytes r.fan ++ timerBytes r.holdOff ++ secondBytes r.closingSecond ++
    [coilSetByte (s.coilOf u)] ++
    allCoils.map fun k => if s.coilOf u k then (s.coils.at k).stage.code else 0

/-! ## Point report (R52, R53, R178) -/

/-- The points whose records name segment `g`, at or above `start`, in ascending order. -/
def State.pointsFrom (s : State) (g : Fin 3) (start : Fin 48) : List (Fin 48) :=
  (List.finRange 48).filter fun p => decide ((s.tables.points.at p).segment = g ∧ start ≤ p)

/-- The point's result in the latest frame of segment `g`, none where it is not attempted. -/
def State.frameResult (s : State) (g : Fin 3) (p : Fin 48) : Option PointResult :=
  ((s.masters.at g).snapshot.find? fun e => e.point == p).bind SnapEntry.result

/-- One point entry: 14 bytes (R178). -/
def State.pointEntry (s : State) (g : Fin 3) (p : Fin 48) : List Byte :=
  let c := s.tables.points.at p
  let h := s.health.at p
  [encNumber p, u8 (flagBits [c.enabled, c.included]), u8 c.address, encOptCoil c.coil, h.state.code, u8 h.misses] ++
    tempBytes h.lastGood ++ secondBytes h.lastGoodSecond ++ [resultCode h.lastOutcome, resultCode (s.frameResult g p)]

/-- The number of a point, 0xFF for none. -/
def pointNumber : Option (Fin 48) → Byte
  | none => 0xFF
  | some p => encNumber p

/-- The point report: 11 + 14N bytes (R178). -/
def State.pointReport (s : State) (g : Fin 3) (start : Fin 48) : List Byte :=
  let m := s.masters.at g
  let l := s.pointsFrom g start
  [encNumber g, m.state.code, u8 m.intervalAtOpen, pointNumber (m.position.map (·.point))] ++
    bytesBE 2 m.framesOpened ++ bytesBE 2 m.framesCutShort ++
    [flagByte m.busFault, pointNumber (l.drop 16).head?, u8 (l.take 16).length] ++
    (l.take 16).flatMap (s.pointEntry g)

/-- The two frame counts of segment `g` set to 0 (R53). -/
def State.clearFrameCounts (s : State) (g : Fin 3) : State :=
  s.setMaster g { s.masters.at g with framesOpened := 0, framesCutShort := 0 }

/-! ## Channel report (R36, R179) -/

/-- One channel's fields: 7 bytes. -/
def ChannelRec.bytes (r : ChannelRec) : List Byte :=
  bytesBE 2 r.code ++ i16 r.temperature ++ [r.status.code] ++ bytesBE 2 r.conversions

/-- The channel report: 131 bytes (R179). -/
def State.channelReport (s : State) : List Byte :=
  ((List.finRange 16).flatMap fun c => (s.channels.at c).bytes) ++ [u8 s.sampler.passList.length] ++
    padTo 16 (s.sampler.passList.map fun c => u8 c.val) ++
    [u8 s.sampler.position, flagByte (s.tables.scan != s.sampler.passList)]

/-! ## Alert report (R154, R180) -/

/-- One source's byte (R180). -/
def State.sourceByte (s : State) (x : Fin 65) : Byte :=
  let r := s.alerts.sources.at x
  let c := s.tables.sources.at x
  u8 (c.cls.val + 8 * (if c.masked then 1 else 0) + 16 * r.membership.code + 64 * (if isLevel x then 1 else 0) +
    128 * (if isLevel x && r.condition then 1 else 0))

/-- The sources of a collection. -/
def State.memberOf (s : State) (m : Membership) (x : Fin 65) : Bool := (s.alerts.sources.at x).membership == m

/-- The alert report: 110 bytes (R180). -/
def State.alertReport (s : State) : List Byte :=
  [u8 s.alerts.stack.length] ++
    padTo 16 (s.alerts.stack.reverse.flatMap fun e => [u8 e.source.val, u8 (classNumber e.cls)]) ++
    sourceSetBytes (s.memberOf .pending) ++ sourceSetBytes (s.memberOf .standing) ++
    (List.finRange 65).map s.sourceByte ++ ((List.finRange 8).map fun c => u8 (s.alerts.pointers.at c).val) ++
    [u8 s.tables.autoAck, flagByte s.alertLine]

/-! ## Status report (R139, R164, R176) -/

/-- The store state code: IDLE, SAVING or LOCKOUT_WRITING (R19, R170). -/
def Store.code (t : Store) : Byte :=
  match t.job with
  | none => 0
  | some ⟨.save _, _⟩ => 1
  | some ⟨.lockoutWrite, _⟩ => 2

/-- The code of the phase in flight, 0 for none (R170). -/
def Store.phaseCode (t : Store) : Byte :=
  match t.job with
  | none => 0
  | some j => j.phase.code

/-- The effective value of output `o`; a pump or fan is 0 for off and 1 for on (R176). -/
def Outputs.value (r : Outputs) (o : Fin 18) : Nat :=
  if h : o.val < 6 then r.valves.at ⟨o.val, h⟩
  else if h : o.val < 12 then (if r.pumps.at ⟨o.val - 6, by omega⟩ then 1 else 0)
  else if h : o.val < 15 then r.dampers.at ⟨o.val - 12, by omega⟩
  else if r.fans.at ⟨o.val - 15, by omega⟩ then 1 else 0

/-- One output's fields: 9 bytes (R139, R176). -/
def State.outputEntry (s : State) (o : Fin 18) : List Byte :=
  let d := s.demands.at o
  bytesBE 2 (s.outputs.value o) ++ bytesBE 2 (s.hostValue o) ++ bytesBE 2 d.value ++
    [u8 (flagBits [d.received, d.fresh])] ++ timerBytes d.timer

/-- One coil's unit field, 0 when the coil is absent, and its stage (R176). -/
def State.coilEntry (s : State) (k : Fin 6) : List Byte :=
  [if (s.cfg k).present then encNumber (s.cfg k).unit else 0, (s.coils.at k).stage.code]

/-- One input's level and debounced state (R176). -/
def State.inputEntry (s : State) (i : Fin 15) : Byte := u8 (flagBits [s.inputLevel i, (s.inputs.at i).debounced])

/-- The status report: 210 bytes (R164, R176). -/
def State.statusReport (s : State) : List Byte :=
  [s.mode.code, strapCode s.strap, u8 s.validation.coil, u8 s.validation.reason, s.store.code, s.store.phaseCode,
   u8 (flagBits [s.store.pendingSave.isSome, s.store.pendingLockout]), u8 (flagBits [s.imageInvalid, s.areaDirty]),
   coilSetByte fun k => (s.coils.at k).lockout] ++
    bytesBE 4 s.plantSeconds.toNat ++ bytesBE 2 s.link.errorCount ++
    [s.link.lastError.code, u8 s.link.rxBuffer.length, u8 s.txFree] ++
    (allUnits.map fun u => (s.units.at u).stage.code) ++ allCoils.flatMap s.coilEntry ++
    (List.finRange 18).flatMap s.outputEntry ++ (List.finRange 15).map s.inputEntry

/-- The link error count and last error kind set to 0 and NONE (R158, R164). -/
def State.clearLinkErrors (s : State) : State := s.setLink { s.link with errorCount := 0, lastError := .none }

/-! ## The report requests (R163) -/

/-- GET-STATUS (R164): with the clear indication the error fields are reported first and then cleared. -/
def reqGetStatus (clear : Byte) (s : State) : Answer :=
  match decFlag clear with
  | none => answer .range s
  | some c => answerWith s.statusReport (if c then s.clearLinkErrors else s)

/-- GET-COIL (R165). -/
def reqGetCoil (coil : Byte) (s : State) : Answer :=
  match decNumber 6 coil with
  | none => answer .range s
  | some k => answerWith (s.coilReport k) s

/-- GET-UNIT (R123). -/
def reqGetUnit (unit : Byte) (s : State) : Answer :=
  match decNumber 3 unit with
  | none => answer .range s
  | some u => answerWith (s.unitReport u) s

/-- GET-POINTS (R52, R53): with the clear indication the frame counts are reported first and then cleared. -/
def reqGetPoints (segment start clear : Byte) (s : State) : Answer :=
  match decNumber 3 segment, decNumber 48 start, decFlag clear with
  | some g, some p, some c => answerWith (s.pointReport g p) (if c then s.clearFrameCounts g else s)
  | _, _, _ => answer .range s

/-- GET-CHANNELS (R36). -/
def reqGetChannels (s : State) : Answer := answerWith s.channelReport s

/-- GET-TRIP (R165). -/
def reqGetTrip (coil : Byte) (s : State) : Answer :=
  match decNumber 6 coil with
  | none => answer .range s
  | some k => answerWith (s.tripReport k) s

/-- GET-ALERTS (R154). -/
def reqGetAlerts (s : State) : Answer := answerWith s.alertReport s

end Sys2Proof.Machine
end

