-- ==== Sys2Proof/Machine/Link.lean ====
section
/-! DEFINITION. The Link Port (R155 to R162, R167, R169): the receiver, link errors, dispatch of requests to their owners,
and the transmit queue as items leave it. -/

namespace Sys2Proof.Machine

open Sys2Proof

/-! ## From a request frame to its owner (R161, R169) -/

/-- The pairs of a PUT-DEMAND payload after its count (R172). -/
def pairsOf : List Byte → List (Byte × Half)
  | b :: h :: l :: rest => (b, half h l) :: pairsOf rest
  | _ => []

/-- A payload of a length that the kind does not allow (R161). -/
def wrongLength (s : State) : Answer := answer .length s

/-- A request without payload. -/
def take0 (req : State → Answer) (payload : List Byte) (s : State) : Answer :=
  match payload with
  | [] => req s
  | _ => wrongLength s

/-- A request of one byte. -/
def take1 (req : Byte → State → Answer) (payload : List Byte) (s : State) : Answer :=
  match payload with
  | [a] => req a s
  | _ => wrongLength s

/-- A request of two bytes. -/
def take2 (req : Byte → Byte → State → Answer) (payload : List Byte) (s : State) : Answer :=
  match payload with
  | [a, b] => req a b s
  | _ => wrongLength s

/-- A request of three bytes. -/
def take3 (req : Byte → Byte → Byte → State → Answer) (payload : List Byte) (s : State) : Answer :=
  match payload with
  | [a, b, c] => req a b c s
  | _ => wrongLength s

/-- A PUT-DEMAND whose count lies within 1..18 and agrees with its length (R125, R161). -/
def handlePutDemand (payload : List Byte) (s : State) : Answer :=
  match payload with
  | [] => wrongLength s
  | count :: rest =>
    if within 1 18 count.toNat && rest.length == 3 * count.toNat then reqPutDemand (pairsOf rest) s else wrongLength s

/-- TRIP-RESET: a LENGTH answer carries a reason byte of 0 (R169). -/
def handleTripReset (payload : List Byte) (s : State) : Answer :=
  match payload with
  | [coil] => reqTripReset coil s
  | _ => ⟨[Result.length.code, 0], s⟩

/-- A SET-COIL of 39 bytes (R171). -/
def handleSetCoil (payload : List Byte) (s : State) : Answer :=
  match payload with
  | [] => wrongLength s
  | coil :: rest =>
    match parseCoil rest with
    | some w => reqSetCoil coil w s
    | none => wrongLength s

/-- A SET-UNIT of 8 bytes. -/
def handleSetUnit (payload : List Byte) (s : State) : Answer :=
  match payload with
  | [unit, d1, d0, s1, s0, fan, h1, h0] => reqSetUnit unit (half d1 d0) (half s1 s0) fan (half h1 h0) s
  | _ => wrongLength s

/-- A SET-POINT of 6 bytes. -/
def handleSetPoint (payload : List Byte) (s : State) : Answer :=
  match payload with
  | [point, enabled, segment, address, coil, included] => reqSetPoint point enabled segment address coil included s
  | _ => wrongLength s

/-- A SET-CHANNEL of 6 bytes. -/
def handleSetChannel (payload : List Byte) (s : State) : Answer :=
  match payload with
  | [channel, trim, l1, l0, h1, h0] => reqSetChannel channel trim (half l1 l0) (half h1 h0) s
  | _ => wrongLength s

/-- A SET-SCAN whose count lies within 0..16 and agrees with its length (R161). -/
def handleSetScan (payload : List Byte) (s : State) : Answer :=
  match payload with
  | [] => wrongLength s
  | count :: rest =>
    if within 0 16 count.toNat && rest.length == count.toNat then reqSetScan rest s else wrongLength s

/-- A SET-OUTPUT of 5 bytes. -/
def handleSetOutput (payload : List Byte) (s : State) : Answer :=
  match payload with
  | [output, lifetime, policy, v1, v0] => reqSetOutput output lifetime policy (half v1 v0) s
  | _ => wrongLength s

/-- A dispatched frame handed to its owner by its KIND, after the two checks of the Link Port (R161, R169). -/
def handleRequest (f : Frame) (s : State) : Answer :=
  match f.kind.toNat with
  | 0x01 => take1 reqGetStatus f.payload s
  | 0x02 => take1 reqGetCoil f.payload s
  | 0x03 => take1 reqGetUnit f.payload s
  | 0x04 => take3 reqGetPoints f.payload s
  | 0x05 => take0 reqGetChannels f.payload s
  | 0x06 => take1 reqGetTrip f.payload s
  | 0x07 => take0 reqGetAlerts f.payload s
  | 0x10 => handlePutDemand f.payload s
  | 0x18 => take1 reqAckSource f.payload s
  | 0x19 => take0 reqAckTop f.payload s
  | 0x20 => handleTripReset f.payload s
  | 0x21 => take1 reqSetMode f.payload s
  | 0x22 => take2 reqForceStage f.payload s
  | 0x23 => take1 reqReleaseStage f.payload s
  | 0x30 => handleSetCoil f.payload s
  | 0x31 => handleSetUnit f.payload s
  | 0x32 => take2 reqSetSegment f.payload s
  | 0x33 => handleSetPoint f.payload s
  | 0x34 => handleSetChannel f.payload s
  | 0x35 => handleSetScan f.payload s
  | 0x36 => handleSetOutput f.payload s
  | 0x37 => take3 reqSetInput f.payload s
  | 0x38 => take3 reqSetSource f.payload s
  | 0x39 => take1 reqSetResolver f.payload s
  | 0x40 => take0 reqSave f.payload s
  | 0x41 => take0 reqRestart f.payload s
  | _ => answer .unknown s

/-! ## Dispatch (R160, R161) -/

/-- The response to a request: its KIND plus 0x80 modulo 256 and its TAG (R161, R169). -/
def responseTo (f : Frame) (payload : List Byte) : Frame := ⟨f.kind + 0x80, f.tag, payload⟩

/-- The owner acts and the response is queued, as one step (R161). -/
def State.respond (s : State) (f : Frame) : State :=
  let a := handleRequest f s
  a.state.queueItem (.response (responseTo f a.payload))

/-- A dispatch of a waiting frame succeeds (R160): the queue has a free entry, and no RESTART has been accepted. -/
def State.canDispatch (s : State) : Bool := decide (1 ≤ s.txFree) && !s.link.restartAccepted

/-- The receive buffer replaced. -/
def State.setBuffer (s : State) (l : List Frame) : State := s.setLink { s.link with rxBuffer := l }

/-- The buffer drains into the transmit queue for as long as dispatches succeed (R160); a selection that an owner's action
sets off meets the queue with the response in it (R161). -/
def drain : Nat → State → State
  | 0, s => s
  | n + 1, s =>
    match s.link.rxBuffer with
    | [] => s
    | f :: rest => if s.canDispatch then drain n ((s.setBuffer rest).respond f).runSelection else s

/-- Dispatches attempted (R160). -/
def State.dispatch (s : State) : State := drain s.link.rxBuffer.length s

/-! ## The receiver (R156 to R158) -/

/-- A frame discarded: counted once, with its kind (R158). -/
def State.linkError (s : State) (e : LinkError) : State :=
  s.setLink { s.link with errorCount := satAdd Config.maxCount16 s.link.errorCount, lastError := e }

/-- The receiver in a state. -/
def State.setReceiver (s : State) (r : Receiver) : State := s.setLink { s.link with receiver := r }

/-- A checked frame meets the receive buffer (R157 steps 2 and 3). -/
def State.receiveFrame (s : State) (f : Frame) : State :=
  if Config.rxCapacity ≤ s.link.rxBuffer.length then s.linkError .overrun
  else (s.setBuffer (s.link.rxBuffer ++ [f])).dispatch

/-- The frame that the bytes from LENGTH to the last CRC byte hold, or none where the CRC does not match (R155, R157). -/
def frameOf (got : List Byte) : Option Frame :=
  match got with
  | len :: kind :: tag :: rest =>
    let payload := rest.take (rest.length - 2)
    if bytesBE 2 (crc16 (len :: kind :: tag :: payload)).toNat = rest.drop (rest.length - 2) then
      some ⟨kind, tag, payload⟩
    else none
  | _ => none

/-- A frame is complete (R157). -/
def State.frameComplete (s : State) (got : List Byte) : State :=
  match frameOf got with
  | none => s.linkError .badCheck
  | some f => s.receiveFrame f

/-- A byte meets the receiver (R156): `got` holds the bytes since START, LENGTH first. A frame is whole once LENGTH + 3
bytes have followed START. -/
def State.receiveByte (s : State) (b : Byte) : State :=
  match s.link.receiver with
  | .idle => if b = 0x5A then s.setReceiver (.inFrame []) else s
  | .inFrame [] =>
    if within 2 242 b.toNat then s.setReceiver (.inFrame [b]) else (s.setReceiver .idle).linkError .badLength
  | .inFrame (len :: rest) =>
    let got := len :: rest ++ [b]
    if got.length < len.toNat + 3 then s.setReceiver (.inFrame got) else (s.setReceiver .idle).frameComplete got

/-- The gap timer expires in IN_FRAME (R156). -/
def State.gapExpires (s : State) : State :=
  match s.link.receiver with
  | .idle => s
  | .inFrame _ => (s.setReceiver .idle).linkError .truncated

/-! ## The transmitter (R159, R160) -/

/-- Dispatch and selection both have room to claim and a frame waits, so that their order shows (R160). -/
def State.orderOpen (s : State) : Bool := decide (2 ≤ s.txFree) && !s.link.rxBuffer.isEmpty && s.canDispatch

/-- An item has left the queue: an event for dispatch and for selection. The table of R160 leaves their order open; a free
value settles it where it shows (notes/assumptions/2.md). -/
def State.roomFreed (s : State) : State :=
  let t := s.noteSelection
  if t.orderOpen then
    let t' : State := { t with freeUses := t.freeUses + 1 }
    if Config.dispatchFirst t.freeUses then t'.dispatch else t'.runSelection.dispatch
  else t.dispatch

/-- The head item leaves the transmit queue (R159). -/
def State.itemSent (s : State) : State :=
  match s.link.txQueue with
  | [] => s
  | _ :: rest => (s.setLink { s.link with txQueue := rest }).roomFreed

/-! ## The link's own commands -/

/-- RX_BYTE (R156, R157). -/
def execRxByte (b : Byte) (s : State) : Host.Outcome State Fault Refusal :=
  whileRunning s fun s => (s.receiveByte b).conclude

/-- GAP_TIMER_EXPIRY (R156). -/
def execGapTimerExpiry (s : State) : Host.Outcome State Fault Refusal :=
  whileRunning s fun s => s.gapExpires

/-- TX_ITEM_SENT (R159, R160). -/
def execTxItemSent (s : State) : Host.Outcome State Fault Refusal :=
  whileRunning s fun s => s.itemSent.conclude

end Sys2Proof.Machine
end

