-- ==== Sys2Proof/Machine/Requests.lean ====
section
/-! DEFINITION. The request commands: each stands for a checked frame of its KIND, with its TAG and the payload that its
operands make (R169, R171, R172), reaching the receive buffer, from where it is dispatched by R160
(notes/assumptions/8.md). -/

namespace Sys2Proof.Machine

open Sys2Proof

/-- A checked frame of a running part's receiver reaches the receive buffer (R157). -/
def arrive (kind tag : Byte) (payload : List Byte) (s : State) : Host.Outcome State Fault Refusal :=
  whileRunning s fun s => (s.receiveFrame ⟨kind, tag, payload⟩).conclude

/-- The same for a payload of free length, which must fit a frame (R155). -/
def arriveSized (kind tag : Byte) (payload : List Byte) (s : State) : Host.Outcome State Fault Refusal :=
  if payload.length ≤ Config.maxPayload then arrive kind tag payload s else .refused .notAFrame

/-- A two-byte field as it crosses the link (R168). -/
def halfBytes (h : Half) : List Byte := bytesBE 2 h.toNat

/-- The payload of a PUT-DEMAND (R172). -/
def demandPayload (pairs : List (Byte × Half)) : List Byte :=
  u8 pairs.length :: pairs.flatMap fun p => p.1 :: halfBytes p.2

/-- The payload of a SET-SCAN (R169). -/
def scanPayload (channels : List Byte) : List Byte := u8 channels.length :: channels

/-- UNKNOWN_REQUEST (R161). -/
def execUnknownRequest (kind tag : Byte) (payload : List Byte) (s : State) : Host.Outcome State Fault Refusal :=
  arriveSized kind tag payload s

/-- GET_STATUS (R164). -/
def execGetStatus (tag clear : Byte) (s : State) : Host.Outcome State Fault Refusal := arrive 0x01 tag [clear] s

/-- GET_COIL (R165). -/
def execGetCoil (tag coil : Byte) (s : State) : Host.Outcome State Fault Refusal := arrive 0x02 tag [coil] s

/-- GET_UNIT (R123). -/
def execGetUnit (tag unit : Byte) (s : State) : Host.Outcome State Fault Refusal := arrive 0x03 tag [unit] s

/-- GET_POINTS (R52). -/
def execGetPoints (tag segment start clear : Byte) (s : State) : Host.Outcome State Fault Refusal :=
  arrive 0x04 tag [segment, start, clear] s

/-- GET_CHANNELS (R36). -/
def execGetChannels (tag : Byte) (s : State) : Host.Outcome State Fault Refusal := arrive 0x05 tag [] s

/-- GET_TRIP (R165). -/
def execGetTrip (tag coil : Byte) (s : State) : Host.Outcome State Fault Refusal := arrive 0x06 tag [coil] s

/-- GET_ALERTS (R154). -/
def execGetAlerts (tag : Byte) (s : State) : Host.Outcome State Fault Refusal := arrive 0x07 tag [] s

/-- PUT_DEMAND (R126). -/
def execPutDemand (tag : Byte) (pairs : List (Byte × Half)) (s : State) : Host.Outcome State Fault Refusal :=
  arriveSized 0x10 tag (demandPayload pairs) s

/-- ACK_SOURCE (R149). -/
def execAckSource (tag source : Byte) (s : State) : Host.Outcome State Fault Refusal := arrive 0x18 tag [source] s

/-- ACK_TOP (R150). -/
def execAckTop (tag : Byte) (s : State) : Host.Outcome State Fault Refusal := arrive 0x19 tag [] s

/-- TRIP_RESET (R99). -/
def execTripReset (tag coil : Byte) (s : State) : Host.Outcome State Fault Refusal := arrive 0x20 tag [coil] s

/-- SET_MODE_ARMED (R14): mode code 1 (R170). -/
def execSetModeArmed (tag : Byte) (s : State) : Host.Outcome State Fault Refusal := arrive 0x21 tag [1] s

/-- SET_MODE_TEST (R13): mode code 2 (R170). -/
def execSetModeTest (tag : Byte) (s : State) : Host.Outcome State Fault Refusal := arrive 0x21 tag [2] s

/-- FORCE_STAGE (R102). -/
def execForceStage (tag coil stage : Byte) (s : State) : Host.Outcome State Fault Refusal :=
  arrive 0x22 tag [coil, stage] s

/-- RELEASE_STAGE (R104). -/
def execReleaseStage (tag coil : Byte) (s : State) : Host.Outcome State Fault Refusal := arrive 0x23 tag [coil] s

/-- SET_COIL (R4, R171). -/
def execSetCoil (tag coil : Byte) (fields : CoilWire) (s : State) : Host.Outcome State Fault Refusal :=
  arrive 0x30 tag (coil :: coilBytes fields) s

/-- SET_UNIT (R5). -/
def execSetUnit (tag unit : Byte) (damperMin strokeLimit : Half) (fanStopLimit : Byte) (holdOff : Half) (s : State) :
    Host.Outcome State Fault Refusal :=
  arrive 0x31 tag (unit :: halfBytes damperMin ++ halfBytes strokeLimit ++ [fanStopLimit] ++ halfBytes holdOff) s

/-- SET_SEGMENT (R5). -/
def execSetSegment (tag segment interval : Byte) (s : State) : Host.Outcome State Fault Refusal :=
  arrive 0x32 tag [segment, interval] s

/-- SET_POINT (R6). -/
def execSetPoint (tag point enabled segment address coil included : Byte) (s : State) :
    Host.Outcome State Fault Refusal :=
  arrive 0x33 tag [point, enabled, segment, address, coil, included] s

/-- SET_CHANNEL (R7). -/
def execSetChannel (tag channel trim : Byte) (low high : Half) (s : State) : Host.Outcome State Fault Refusal :=
  arrive 0x34 tag ([channel, trim] ++ halfBytes low ++ halfBytes high) s

/-- SET_SCAN (R7). -/
def execSetScan (tag : Byte) (channels : List Byte) (s : State) : Host.Outcome State Fault Refusal :=
  arriveSized 0x35 tag (scanPayload channels) s

/-- SET_OUTPUT (R9). -/
def execSetOutput (tag output lifetime policy : Byte) (value : Half) (s : State) : Host.Outcome State Fault Refusal :=
  arrive 0x36 tag ([output, lifetime, policy] ++ halfBytes value) s

/-- SET_INPUT (R9). -/
def execSetInput (tag input polarity debounce : Byte) (s : State) : Host.Outcome State Fault Refusal :=
  arrive 0x37 tag [input, polarity, debounce] s

/-- SET_SOURCE (R10). -/
def execSetSource (tag source cls mask : Byte) (s : State) : Host.Outcome State Fault Refusal :=
  arrive 0x38 tag [source, cls, mask] s

/-- SET_RESOLVER (R10). -/
def execSetResolver (tag level : Byte) (s : State) : Host.Outcome State Fault Refusal := arrive 0x39 tag [level] s

/-- SAVE (R19). -/
def execSave (tag : Byte) (s : State) : Host.Outcome State Fault Refusal := arrive 0x40 tag [] s

/-- RESTART (R17, R162). -/
def execRestart (tag : Byte) (s : State) : Host.Outcome State Fault Refusal := arrive 0x41 tag [] s

end Sys2Proof.Machine
end

