-- ==== Sys2Proof/Machine/Dispatch.lean ====
section
/-! DEFINITION. The dispatch of a command to its meaning, one arm per row of spec/opcode_table.json. -/

namespace Sys2Proof.Machine

open Sys2Proof

/-- The effect of a command on everything but the queue of waiting commands. -/
def exec (i : Instr) (s : State) : Host.Outcome State Fault Refusal :=
  match i with
  | .coldStart => Sys2Proof.Machine.execColdStart s
  | .warmStart => Sys2Proof.Machine.execWarmStart s
  | .startComplete strap => Sys2Proof.Machine.execStartComplete strap s
  | .plantSecondTick => Sys2Proof.Machine.execPlantSecondTick s
  | .rxByte b => Sys2Proof.Machine.execRxByte b s
  | .gapTimerExpiry => Sys2Proof.Machine.execGapTimerExpiry s
  | .txItemSent => Sys2Proof.Machine.execTxItemSent s
  | .unknownRequest kind tag payload => Sys2Proof.Machine.execUnknownRequest kind tag payload s
  | .getStatus tag clear => Sys2Proof.Machine.execGetStatus tag clear s
  | .getCoil tag coil => Sys2Proof.Machine.execGetCoil tag coil s
  | .getUnit tag unit => Sys2Proof.Machine.execGetUnit tag unit s
  | .getPoints tag segment start clear => Sys2Proof.Machine.execGetPoints tag segment start clear s
  | .getChannels tag => Sys2Proof.Machine.execGetChannels tag s
  | .getTrip tag coil => Sys2Proof.Machine.execGetTrip tag coil s
  | .getAlerts tag => Sys2Proof.Machine.execGetAlerts tag s
  | .putDemand tag pairs => Sys2Proof.Machine.execPutDemand tag pairs s
  | .ackSource tag source => Sys2Proof.Machine.execAckSource tag source s
  | .ackTop tag => Sys2Proof.Machine.execAckTop tag s
  | .tripReset tag coil => Sys2Proof.Machine.execTripReset tag coil s
  | .setModeArmed tag => Sys2Proof.Machine.execSetModeArmed tag s
  | .setModeTest tag => Sys2Proof.Machine.execSetModeTest tag s
  | .forceStage tag coil stage => Sys2Proof.Machine.execForceStage tag coil stage s
  | .releaseStage tag coil => Sys2Proof.Machine.execReleaseStage tag coil s
  | .setCoil tag coil fields => Sys2Proof.Machine.execSetCoil tag coil fields s
  | .setUnit tag unit damperMin strokeLimit fanStopLimit holdOff => Sys2Proof.Machine.execSetUnit tag unit damperMin strokeLimit fanStopLimit holdOff s
  | .setSegment tag segment interval => Sys2Proof.Machine.execSetSegment tag segment interval s
  | .setPoint tag point enabled segment address coil included => Sys2Proof.Machine.execSetPoint tag point enabled segment address coil included s
  | .setChannel tag channel trim low high => Sys2Proof.Machine.execSetChannel tag channel trim low high s
  | .setScan tag channels => Sys2Proof.Machine.execSetScan tag channels s
  | .setOutput tag output lifetime policy value => Sys2Proof.Machine.execSetOutput tag output lifetime policy value s
  | .setInput tag input polarity debounce => Sys2Proof.Machine.execSetInput tag input polarity debounce s
  | .setSource tag source cls mask => Sys2Proof.Machine.execSetSource tag source cls mask s
  | .setResolver tag level => Sys2Proof.Machine.execSetResolver tag level s
  | .save tag => Sys2Proof.Machine.execSave tag s
  | .restart tag => Sys2Proof.Machine.execRestart tag s
  | .storePhaseComplete completion => Sys2Proof.Machine.execStorePhaseComplete completion s
  | .storePhaseLimitExpiry => Sys2Proof.Machine.execStorePhaseLimitExpiry s
  | .conversionComplete code => Sys2Proof.Machine.execConversionComplete code s
  | .frameTimerExpiry segment => Sys2Proof.Machine.execFrameTimerExpiry segment s
  | .readPointComplete segment reply => Sys2Proof.Machine.execReadPointComplete segment reply s
  | .clockHoldTimeout segment => Sys2Proof.Machine.execClockHoldTimeout segment s
  | .dataHeldTimeout segment => Sys2Proof.Machine.execDataHeldTimeout segment s
  | .recoveryComplete segment freed => Sys2Proof.Machine.execRecoveryComplete segment freed s
  | .holdDownExpiry coil => Sys2Proof.Machine.execHoldDownExpiry coil s
  | .proveTimerExpiry coil => Sys2Proof.Machine.execProveTimerExpiry coil s
  | .strokeTimerExpiry unit => Sys2Proof.Machine.execStrokeTimerExpiry unit s
  | .fanTimerExpiry unit => Sys2Proof.Machine.execFanTimerExpiry unit s
  | .holdOffExpiry unit => Sys2Proof.Machine.execHoldOffExpiry unit s
  | .demandLifetimeExpiry output => Sys2Proof.Machine.execDemandLifetimeExpiry output s
  | .inputLevelChange input high => Sys2Proof.Machine.execInputLevelChange input high s
  | .debounceExpiry input => Sys2Proof.Machine.execDebounceExpiry input s
  | .powerLoss => Sys2Proof.Machine.execPowerLoss s

end Sys2Proof.Machine
end

