-- ==== Sys2Proof/Safety.lean ====
section
/-! DEFINITION. What the statements call a safe state of the part: the bounds, the orders and the whole-part rules that
the manual gives, as predicates on State. -/

namespace Sys2Proof.Machine

open Sys2Proof

/-- The head item is not a notice whose late fields are still to be filled (R159). -/
def State.headBegun (s : State) : Prop :=
  match s.link.txQueue with
  | .notice _ _ none :: _ => False
  | _ => True

/-- No event is half handled: no selection is due (R145), the head item has begun (R159), and the ALERT line stands at the
level that the collections and masks give (R152). -/
def State.settled (s : State) : Prop :=
  s.alerts.selectionDue = false ∧ s.headBegun ∧ s.alertLine = s.alertLineLevel

/-- A request that arrives now is dispatched at once (R157, R160): the part runs, nothing waits in the receive buffer, the
transmit queue has a free entry and no RESTART holds dispatch. -/
def State.ready (s : State) : Prop :=
  s.power = .running ∧ s.settled ∧ s.link.rxBuffer = [] ∧ s.link.txQueue.length < Config.txCapacity ∧
  s.link.restartAccepted = false

/-- The link's queues within their capacities; a request waits only where the transmit queue is full or a RESTART holds
dispatch (R159, R160). -/
def State.linkBounded (s : State) : Prop :=
  s.link.rxBuffer.length ≤ Config.rxCapacity ∧ s.link.txQueue.length ≤ Config.txCapacity ∧
  (s.link.restartAccepted = false → s.link.rxBuffer ≠ [] → s.link.txQueue.length = Config.txCapacity)

/-- The resolver's collections in order (R141, R143, R144): each in-service entry's class is numerically lower than that of
every entry beneath it, the stack's sources are those whose membership is in service, only level sources stand, and a
pending or standing level source's condition is true. -/
def State.alertsOrdered (s : State) : Prop :=
  s.alerts.stack.Pairwise (fun above below => above.cls < below.cls) ∧
  (∀ x, (s.alerts.sources.at x).membership = .inService ↔ ∃ e ∈ s.alerts.stack, e.source = x) ∧
  (∀ x, (s.alerts.sources.at x).membership = .standing → isLevel x = true) ∧
  (∀ x, isLevel x = true →
    (s.alerts.sources.at x).membership = .pending ∨ (s.alerts.sources.at x).membership = .standing →
    (s.alerts.sources.at x).condition = true)

/-- Every exposure record within its range (R71, R76). -/
def State.exposureBounded (s : State) : Prop :=
  ∀ k, (s.exposures.at k).e ≤ Config.maxExposure ∧ (s.exposures.at k).confirm ≤ 4

/-- The output pins stand at the values of R131 to R134 while the part runs, and at the fallback posture for the whole of a
start (R16, R134). -/
def State.outputsTrue (s : State) : Prop :=
  (s.power = .running → s.outputs = s.effective) ∧
  (∀ cold, s.power = .starting cold → s.outputs = Outputs.posture)

/-- In FALLBACK, E of every coil is 0 and its band CLEAR, and every coil and unit stage is IDLE (R12). -/
def State.fallbackHeld (s : State) : Prop :=
  s.power = .running → s.mode = .fallback →
    (∀ k, (s.exposures.at k).e = 0 ∧ (s.exposures.at k).band = .clear ∧ (s.coils.at k).stage = .idle) ∧
    (∀ u, (s.units.at u).stage = .idle)

/-- A stage of a shutdown (section 7.3, prose after R112). -/
def UnitStage.shut : UnitStage → Bool
  | .closing => true
  | .secured => true
  | .secureFault => true
  | .idle => false
  | .run => false
  | .temper => false
  | .restartHold => false

/-- In ARMED and in TEST, a unit's trip condition is true exactly while its stage is CLOSING, SECURED or SECURE_FAULT, and no
unit is IDLE (sections 7.2 and 7.3). -/
def State.tripShuts (s : State) : Prop :=
  s.power = .running → s.mode ≠ .fallback →
    ∀ u, (s.units.at u).stage ≠ .idle ∧ ((s.units.at u).stage.shut = s.tripOf u)

/-- The store's invariant (R19): a job waits only behind a job in flight. -/
def State.storeOrdered (s : State) : Prop :=
  s.store.job = none → s.store.pendingSave = none ∧ s.store.pendingLockout = false

/-- The rules of the whole part together. -/
def State.lawful (s : State) : Prop :=
  s.settled ∧ s.linkBounded ∧ s.alertsOrdered ∧ s.exposureBounded ∧ s.outputsTrue ∧ s.fallbackHeld ∧ s.tripShuts ∧
  s.storeOrdered

/-! ## Words of the statements -/

/-- The state with a response at the tail of the transmit queue. -/
def State.answered (s : State) (kind tag : Byte) (payload : List Byte) : State :=
  s.queueItem (.response ⟨kind, tag, payload⟩)

/-- The transmit queue of `t` is that of `s`, then this response, then what selections have added. -/
def holdsResponse (s t : State) (kind tag : Byte) (payload : List Byte) : Prop :=
  ∃ more, t.link.txQueue = s.link.txQueue ++ .response ⟨kind, tag, payload⟩ :: more

/-- Two sequencer records that differ in the pump prove state and its timer at most. -/
def CoilSeq.sameButProve (r r' : CoilSeq) : Prop := { r' with prove := r.prove, proveTimer := r.proveTimer } = r

/-- Every coil's record of `t` is that of `s` but for pump proving. -/
def coilsSameButProve (s t : State) : Prop := ∀ k, (s.coils.at k).sameButProve (t.coils.at k)

/-- Nothing outside the protection blocks, the outputs, the alerts and the transmit queue has changed. -/
def sameOutside (s t : State) : Prop :=
  t.power = s.power ∧ t.strap = s.strap ∧ t.plantSeconds = s.plantSeconds ∧ t.image = s.image ∧ t.area = s.area ∧
  t.imageInvalid = s.imageInvalid ∧ t.areaDirty = s.areaDirty ∧ t.sampler = s.sampler ∧ t.channels = s.channels ∧
  t.masters = s.masters ∧ t.health = s.health ∧ t.pins = s.pins ∧ t.pending = s.pending ∧
  t.link.rxBuffer = s.link.rxBuffer ∧ t.link.receiver = s.link.receiver ∧ t.link.errorCount = s.link.errorCount ∧
  t.link.lastError = s.link.lastError

/-- What an abandoned job leaves of the two nonvolatile regions (R22): a region in an ERASE or a PROGRAM fails its check, and
the contents and the other region stand. -/
def State.regionsLeft (s t : State) : Prop :=
  t.image.tables = s.image.tables ∧ t.image.format = s.image.format ∧ t.area.flags = s.area.flags ∧
  (∀ j, s.store.job = some j → (j.phase = .imageErase ∨ j.phase = .imageProgram) → t.image.crcMatches = false) ∧
  (∀ j f, s.store.job = some j → j.phase = .areaProgram f → t.area.crcMatches = false) ∧
  ((∀ j, s.store.job = some j → j.phase ≠ .imageErase ∧ j.phase ≠ .imageProgram) → t.image = s.image) ∧
  ((∀ j f, s.store.job = some j → j.phase ≠ .areaProgram f) → t.area = s.area)

/-- What the beginning of a start leaves of `s` in `t` (R16, R17, R22, R37, R120, R153, R167): the fallback posture, an empty
link, an empty resolver, an empty store queue, an idle sampler, idle masters and stopped unit timers; all else stands. -/
def State.begun (s t : State) : Prop :=
  s.regionsLeft t ∧
  t = { s with
    power := t.power, image := t.image, area := t.area, store := Store.idle, outputs := Outputs.posture,
    sampler := { passList := [], position := 0 }, masters := t.masters, units := t.units, alerts := Alerts.start,
    alertLine := false, link := Link.start } ∧
  (∀ g, t.masters.at g = { s.masters.at g with state := .idle, frameTimer := none, openPending := false }) ∧
  (∀ u, t.units.at u = { s.units.at u with stroke := none, fan := none, holdOff := none })

/-- Unit `u`'s record of `t` is what an event of R110 outside FALLBACK makes of that of `s`, by the conditions and proofs that
stand in `t`: both conditions written, and the stage moved once with its timers, closing second and missing proofs (R112, R113,
R115, R118, R119). -/
def unitMoved (s t : State) (u : Fin 3) : Prop :=
  ∀ (c : UnitCfg) (r : UnitRec), c = s.tables.units.at u →
    r = { s.units.at u with temper := t.temperOf u, trip := t.tripOf u } →
    (r.stage = .idle ∨ (r.stage = .restartHold ∧ r.trip = false) ∨ (r.stage.shut = true ∧ r.trip = true) →
      t.units.at u = r) ∧
    ((r.stage = .run ∨ r.stage = .temper) → r.trip = false →
      t.units.at u = { r with stage := if r.temper then .temper else .run }) ∧
    ((r.stage = .run ∨ r.stage = .temper ∨ r.stage = .restartHold) → r.trip = true →
      ((t.damperProof u = false ∨ t.fanProof u = false) → t.units.at u = { r with
        stage := .closing, stroke := some c.strokeLimit, fan := some c.fanStopLimit, holdOff := none,
        missingDamper := false, missingFan := false, closingSecond := some s.plantSeconds }) ∧
      (t.damperProof u = true → t.fanProof u = true → t.units.at u = { r with
        stage := .secured, stroke := none, fan := none, holdOff := none, missingDamper := false, missingFan := false,
        closingSecond := some s.plantSeconds })) ∧
    (r.stage.shut = true → r.trip = false →
      (0 < c.holdOff → t.units.at u = { r with
        stage := .restartHold, stroke := none, fan := none, holdOff := some c.holdOff, missingDamper := false,
        missingFan := false }) ∧
      (c.holdOff = 0 → t.units.at u = { r with
        stage := if r.temper then .temper else .run, stroke := none, fan := none, holdOff := none, missingDamper := false,
        missingFan := false }))

/-- Outside FALLBACK, unit `u` has handled an event of R110, and the other two units stand. -/
def onlyUnitMoved (s t : State) (u : Fin 3) : Prop :=
  (s.mode ≠ .fallback → unitMoved s t u) ∧ ∀ v, v ≠ u → t.units.at v = s.units.at v

/-! ## Fields of a report (R168) -/

/-- The number that `n` bytes of a report from byte `i` on stand for, most significant byte first. -/
def fieldAt (l : List Byte) (i n : Nat) : Nat := ((l.drop i).take n).foldl (fun v b => 256 * v + b.toNat) 0

/-- The field of `n` bytes at byte `i` holds a value that fits it. -/
def fieldIs (l : List Byte) (i n v : Nat) : Prop := v < 256 ^ n → fieldAt l i n = v

/-- The temperature at byte `i`: two bytes in two's complement, 0x8000 where it is absent. -/
def tempIs (l : List Byte) (i : Nat) : Option Int → Prop
  | none => fieldAt l i 2 = 0x8000
  | some v => -32768 ≤ v → v ≤ 32767 → (fieldAt l i 2 : Int) = if 0 ≤ v then v else v + 65536

/-- The plant second at byte `i`, 0xFFFFFFFF where it is absent. -/
def secondIs (l : List Byte) (i : Nat) : Option Seconds → Prop
  | none => fieldAt l i 4 = 0xFFFFFFFF
  | some v => fieldAt l i 4 = v.toNat

/-- The timer at byte `i`: 0xFFFF where it is stopped, and at least 1 where it runs. -/
def timerIs (l : List Byte) (i : Nat) : Option Nat → Prop
  | none => fieldAt l i 2 = 0xFFFF
  | some v => v < 65536 → fieldAt l i 2 = if v = 0 then 1 else v

/-- The flags byte at `i`: one flag a bit from bit 0, the bits above them 0. -/
def flagsAre (l : List Byte) (i : Nat) (f : List Bool) : Prop := ∀ j < 8, (fieldAt l i 1).testBit j = f.getD j false

/-- The point set of six bytes at byte `i`: bit p − 1 for point Pp. -/
def pointsAre (l : List Byte) (i : Nat) (points : List (Fin 48)) : Prop :=
  ∀ p : Fin 48, (fieldAt l i 6).testBit p.val = true ↔ p ∈ points

/-! ## What an event may change -/

/-- Only the resolver, the ALERT line and the transmit queue differ. -/
def onlyAlerts (s t : State) : Prop :=
  t = { s with alerts := t.alerts, alertLine := t.alertLine, link := { s.link with txQueue := t.link.txQueue } }

/-- Only the store, the two nonvolatile regions with their flags, the resolver, the ALERT line and the transmit queue
differ. -/
def onlyStore (s t : State) : Prop :=
  onlyAlerts { s with store := t.store, image := t.image, area := t.area, imageInvalid := t.imageInvalid, areaDirty := t.areaDirty } t

/-- Only the sampler's records, the resolver, the ALERT line and the transmit queue differ. -/
def onlySampler (s t : State) : Prop :=
  onlyAlerts { s with channels := t.channels, sampler := t.sampler, detectors := t.detectors } t

/-- Only the coil, exposure and unit records, the output pins, the store queue, the resolver, the ALERT line and the transmit
queue differ. -/
def onlyProtection (s t : State) : Prop :=
  onlyAlerts { s with coils := t.coils, exposures := t.exposures, units := t.units, outputs := t.outputs, store := t.store } t

/-- Only the records of the segment masters, point health and faces, and what `onlyProtection` allows, differ. -/
def onlyFrames (s t : State) : Prop :=
  onlyProtection { s with masters := t.masters, health := t.health, faces := t.faces } t

/-- An edge of source `x` has reached the resolver (R142): a source that was in no collection is pending, or its notice has
been queued. -/
def raised (s t : State) (x : Fin 65) : Prop :=
  (s.alerts.sources.at x).membership = .none →
    (t.alerts.sources.at x).membership = .pending ∨ ∃ c late, TxItem.notice x c late ∈ t.link.txQueue

/-- The condition that the resolver holds of a level source. -/
def State.told (s : State) (x : Fin 65) : Bool := (s.alerts.sources.at x).condition

/-- The store once the job in flight has ended (R19): the pending LOCKOUT-WRITE in flight if there is one, otherwise the
pending SAVE, otherwise nothing. -/
def State.storeAfter (s : State) : Store :=
  if s.store.pendingLockout then
    { job := some ⟨.lockoutWrite, .areaProgram (Tab.build fun k => (s.coils.at k).lockout)⟩,
      pendingSave := s.store.pendingSave, pendingLockout := false }
  else
    { job := s.store.pendingSave.map fun t => ⟨.save t, .imageErase⟩, pendingSave := none, pendingLockout := false }

/-- What an accepted SET-COIL that changes coil `k`'s presence or unit to those of `c` leaves beside the coil's own records (R4,
R31, R107, R110, R122): the record written, the two units concerned moved, the outputs at their rules, the level conditions of the
coil, of the units' demands and of the analog channels handed over, the crossing detector READY where the LWT channel changes or
the coil is made present; the other coils and the other unit stand. -/
def coilRewired (s t : State) (k : Fin 6) (c : CoilCfg) : Prop :=
  t.tables = { s.tables with coils := s.tables.coils.put k c } ∧ t.mode = s.mode ∧ t.validation = s.validation ∧
  t.demands = s.demands ∧ t.inputs = s.inputs ∧ t.store = s.store ∧
  (∀ j, j ≠ k → (s.coils.at j).sameButProve (t.coils.at j) ∧ t.exposures.at j = s.exposures.at j ∧
    t.faces.at j = s.faces.at j) ∧
  unitMoved s t (s.cfg k).unit ∧ unitMoved s t c.unit ∧
  (∀ v, v ≠ (s.cfg k).unit → v ≠ c.unit → t.units.at v = s.units.at v) ∧ t.outputs = t.effective ∧
  t.told (srcTrip k) = t.tripCondition k ∧ t.told (srcLockout k) = t.lockoutCondition k ∧
  t.told (srcPumpFail k) = t.pumpFailCondition k ∧ t.told (srcBlind k) = t.blindCondition k ∧
  (∀ u, t.told (srcDemandStale u) = t.demandStaleCondition u) ∧ t.told srcAnalogFault = t.analogFaultCondition ∧
  t.detectors = (if c.lwt = (s.cfg k).lwt ∧ ((s.cfg k).present = true ∨ c.present = false) then s.detectors
    else s.detectors.put k .ready) ∧
  sameOutside { s with masters := t.masters } t

/-- Every entry of a snapshot that is not attempted given a result. -/
def restGiven (r : PointResult) (l : List SnapEntry) : List SnapEntry :=
  l.map fun f => if f.result = none then { f with result := some r } else f

/-- The open frame of segment `g` in `s` has closed with the entries `l` (R47, R51, R59, R64, R65): each coil of its set that is
still the segment's has the face, the exposure and the stage that its own close gives, its BLIND condition handed over, and RAGGED
raised where its frame is ragged and only there; the other coils and the other units stand. -/
def framesClosed (s t : State) (g : Fin 3) (l : List SnapEntry) : Prop :=
  (∀ k, k ∉ (s.masters.at g).coilSet ∨ s.coilOf g k = false →
    t.faces.at k = s.faces.at k ∧ t.exposures.at k = s.exposures.at k ∧ (s.coils.at k).sameButProve (t.coils.at k)) ∧
  (∀ u, u ≠ g → t.units.at u = s.units.at u) ∧
  ((s.masters.at g).coilSet.Nodup → ∀ k ∈ (s.masters.at g).coilSet, s.coilOf g k = true →
    ∀ (own : List SnapEntry) (f : Face) (q : State), own = l.filter (fun e => e.coil == some k) → f = s.closeFace k own →
      q = s.closeCoilFrame k own (s.masters.at g).intervalAtOpen →
      t.faces.at k = f ∧ t.told (srcBlind k) = t.blindCondition k ∧ t.exposures.at k = q.exposures.at k ∧
      (q.coils.at k).sameButProve (t.coils.at k) ∧
      (f.status = .accepted → f.missingSet ≠ [] → raised s t (srcRagged k)) ∧
      ((f.status = .starved ∨ f.missingSet = []) → (s.alerts.sources.at (srcRagged k)).membership = .none →
        (t.alerts.sources.at (srcRagged k)).membership = .none))

/-- The bytes delivered one after another by RX_BYTE commands. -/
def feed : List Byte → State → Host.Outcome State Fault Refusal
  | [], s => .next s
  | b :: rest, s =>
    match exec (.rxByte b) s with
    | .next t => feed rest t
    | .fault e => .fault e
    | .refused e => .refused e

end Sys2Proof.Machine
end

