-- ==== Sys2Proof/WellFormed.lean ====
section
/-! DEFINITION. Which commands can come about at all: a request command must fit a link frame (R155), and
UNKNOWN_REQUEST must not carry the KIND of a request (R161, R169). Every other command is well formed by its type. -/

namespace Sys2Proof

/-- The request kinds of the table of R169. -/
def requestKinds : List Byte :=
  [0x01, 0x02, 0x03, 0x04, 0x05, 0x06, 0x07, 0x10, 0x18, 0x19, 0x20, 0x21, 0x22, 0x23,
   0x30, 0x31, 0x32, 0x33, 0x34, 0x35, 0x36, 0x37, 0x38, 0x39, 0x40, 0x41]

/-- The command can come about (R155, R161). -/
def Instr.wellFormed : Instr → Bool
  | .unknownRequest kind _ payload => !requestKinds.contains kind && payload.length ≤ Config.maxPayload
  | .putDemand _ pairs => 1 + 3 * pairs.length ≤ Config.maxPayload
  | .setScan _ channels => 1 + channels.length ≤ Config.maxPayload
  | .coldStart | .warmStart | .startComplete _ | .plantSecondTick | .rxByte _ | .gapTimerExpiry | .txItemSent
  | .getStatus .. | .getCoil .. | .getUnit .. | .getPoints .. | .getChannels _ | .getTrip .. | .getAlerts _
  | .ackSource .. | .ackTop _ | .tripReset .. | .setModeArmed _ | .setModeTest _ | .forceStage .. | .releaseStage ..
  | .setCoil .. | .setUnit .. | .setSegment .. | .setPoint .. | .setChannel .. | .setOutput .. | .setInput ..
  | .setSource .. | .setResolver .. | .save _ | .restart _ | .storePhaseComplete _ | .storePhaseLimitExpiry
  | .conversionComplete _ | .frameTimerExpiry _ | .readPointComplete .. | .clockHoldTimeout _ | .dataHeldTimeout _
  | .recoveryComplete .. | .holdDownExpiry _ | .proveTimerExpiry _ | .strokeTimerExpiry _ | .fanTimerExpiry _
  | .holdOffExpiry _ | .demandLifetimeExpiry _ | .inputLevelChange .. | .debounceExpiry _ | .powerLoss => true

end Sys2Proof
end

