-- ==== Sys2Proof/Certificates/Slice0/Obligations.lean ====
section
/-! DEFINITION. The statements about the model, for the provers. Each docstring names the rule of spec/ that a statement
formalises, or says that the statement rests on the model's own choice and names the log entry. -/

open Sys2Proof Sys2Proof.Machine

/-! ## The queue of commands, reset and the rules of the whole part -/

/-- One step takes the command at the front of the queue and is that command's effect on the state with the queue's rest; an
empty queue leaves the state as it stands (the model's choice, notes/assumptions/14.md). -/
def Obligations.StepTakesTheFrontCommand : Prop :=
  (∀ (c : Instr) (rest : List Instr) (s : State), s.pending = c :: rest → step s = exec c (s.setPending rest)) ∧
  (∀ s : State, s.pending = [] → step s = .next s)

/-- After reset the part is in a cold start just begun: the outputs hold the fallback posture (R16), the resolver is empty
with its pointers at 0 and the ALERT line is deasserted (R152, R153), and the link port is idle and empty (R167). It meets every rule of the whole part. What the manual gives no value
for stands as notes/assumptions/3.md says. -/
def Obligations.ResetHoldsTheBeginningOfAColdStart : Prop :=
  State.reset.lawful ∧ State.reset.power = .starting true ∧
  (∀ k, State.reset.outputs.valves.at k = 1000 ∧ State.reset.outputs.pumps.at k = true) ∧
  (∀ u, State.reset.outputs.dampers.at u = 0 ∧ State.reset.outputs.fans.at u = false) ∧
  State.reset.alerts.stack = [] ∧ State.reset.alertLine = false ∧
  (∀ x, (State.reset.alerts.sources.at x).membership = .none ∧ (State.reset.alerts.sources.at x).condition = false) ∧
  (∀ c, State.reset.alerts.pointers.at c = 0) ∧
  State.reset.link.receiver = .idle ∧ State.reset.link.rxBuffer = [] ∧ State.reset.link.txQueue = [] ∧
  State.reset.link.errorCount = 0 ∧ State.reset.link.lastError = .none ∧ State.reset.link.restartAccepted = false

/-- No step leaves an event half handled: no selection stays due (R145), the head item has begun (R159), and the ALERT line
stands at the level that the collections and masks give (R152).
The order of the three at the end of an event is read from the manual by inference (notes/assumptions/11.md). -/
def Obligations.EveryStepSettlesAndDrivesTheAlertLine : Prop :=
  ∀ s t : State, s.settled → step s = .next t → t.settled

/-- The receive buffer holds at most 2 frames and the transmit queue at most 4 items, and a request waits only while the
transmit queue is full or a RESTART holds dispatch (R159, R160). -/
def Obligations.EveryStepKeepsTheLinkWithinItsQueues : Prop :=
  ∀ s t : State, s.linkBounded → step s = .next t → t.linkBounded

/-- The in-service stack stays ordered by class, the membership fields agree with the collections, no edge source stands, and
a pending or standing level source's condition is true (R141, R143, R144). -/
def Obligations.EveryStepKeepsTheAlertCollectionsOrdered : Prop :=
  ∀ s t : State, s.alertsOrdered → step s = .next t → t.alertsOrdered

/-- E stays within 0..16,777,215 and the confirm count within 0..4 (R71). -/
def Obligations.EveryStepKeepsExposureInRange : Prop :=
  ∀ s t : State, s.exposureBounded → step s = .next t → t.exposureBounded

/-- The output pins stand at the values of R131 to R134 at the end of every step of a running part, and at the fallback posture
for the whole of a start (R16, R130, R134). -/
def Obligations.EveryStepKeepsTheOutputsAtTheirRules : Prop :=
  ∀ s t : State, s.outputsTrue → step s = .next t → t.outputsTrue

/-- In FALLBACK, E of every coil is held at 0 and its band at CLEAR, and every coil and unit stage is IDLE (R12). -/
def Obligations.EveryStepHoldsTheEnginesInFallback : Prop :=
  ∀ s t : State, s.fallbackHeld → step s = .next t → t.fallbackHeld

/-- In ARMED and in TEST, a unit's trip condition is true exactly while its stage is CLOSING, SECURED or SECURE_FAULT (section
7.3, after R112). -/
def Obligations.EveryStepKeepsTripAndShutdownTogether : Prop :=
  ∀ s t : State, s.tripShuts → step s = .next t → t.tripShuts

/-- A store job waits only behind a job in flight (R19). -/
def Obligations.EveryStepKeepsTheStoreQueueInOrder : Prop :=
  ∀ s t : State, s.storeOrdered → step s = .next t → t.storeOrdered

/-! ## Bytes -/

/-- The bytes of a frame, delivered to an IDLE receiver, act as that frame's arrival at the receive buffer: LENGTH, KIND, TAG,
payload and CRC-16 are read back as they were written (R155, R156, R157). -/
def Obligations.FrameBytesActAsTheFramesArrival : Prop :=
  ∀ (s : State) (f : Frame), s.power = .running → s.settled → s.link.receiver = .idle →
    f.payload.length ≤ Config.maxPayload → feed f.wire s = arrive f.kind f.tag f.payload s

/-- The CRC-16 starts at 0xFFFF and takes each byte's eight bits, most significant first, through the polynomial
x^16 + x^12 + x^5 + 1, with no inversion at the end; over the nine digits it is 0x29B1 (R18, R155, chapter 11). A frame whose last CRC
byte is damaged is discarded as BAD_CHECK and counted once; nothing else changes (R157, R158). -/
def Obligations.DamagedCrcIsDiscardedAndCounted : Prop :=
  (crc16 [] = 0xFFFF ∧
    (∀ (l : List Byte) (b : Byte), crc16 (l ++ [b]) =
      (fun c : Half => if c.msb then (c <<< 1) ^^^ 0x1021 else c <<< 1)^[8] (crc16 l ^^^ (b ++ (0 : Byte)))) ∧
    crc16 [0x31, 0x32, 0x33, 0x34, 0x35, 0x36, 0x37, 0x38, 0x39] = 0x29B1) ∧
  ∀ (s : State) (f : Frame) (b : Byte), s.power = .running → s.settled → s.link.receiver = .idle →
    f.payload.length ≤ Config.maxPayload → f.wire.getLast? ≠ some b →
    feed (f.wire.dropLast ++ [b]) s =
      .next (s.setLink { s.link with lastError := .badCheck, errorCount := min (s.link.errorCount + 1) (max s.link.errorCount 65535) })

/-- What a SET-COIL and a PUT-DEMAND carry is read back from their bytes (R168, R171, R172), and a record that meets its ranges is
read back from the fields that a host sends to keep it (R2, R3); with worked bytes of the manual: the default coil record (R171),
the PUT-DEMAND example (R172), the notice of BLIND of C1 (R174) and the four face replies (R175). -/
def Obligations.FieldsAreReadBackFromTheirBytes : Prop :=
  (∀ w : CoilWire, (coilBytes w).length = 38 ∧ parseCoil (coilBytes w) = some w) ∧
  (∀ pairs : List (Byte × Half), pairsOf (pairs.flatMap fun p => p.1 :: halfBytes p.2) = pairs) ∧
  (∀ c : CoilCfg, c.valid = true → coilCfgOf c.toWire = some c) ∧
  coilBytes CoilCfg.default.toWire =
    [0x00, 0x01, 0x02, 0x00, 0x30, 0x00, 0x08, 0x02, 0x00, 0x50, 0x04, 0x00, 0x2D, 0x00, 0x00, 0x5A, 0x00, 0x00, 0xB4, 0x00,
     0x00, 0x0F, 0x00, 0x05, 0x03, 0x01, 0x90, 0x02, 0x58, 0x1E, 0x03, 0x18, 0x00, 0x20, 0xFF, 0xB0, 0xFF, 0xFF] ∧
  demandPayload [(2, 750), (16, 1)] = [0x02, 0x02, 0x02, 0xEE, 0x10, 0x00, 0x01] ∧
  (TxItem.notice 4 2 (some { condition := true, second := 1200, owner := 1, stage := 1, band := 0 })).frame.map Frame.body =
    some [0x0C, 0xE0, 0x00, 0x04, 0x03, 0x01, 0x00, 0x00, 0x04, 0xB0, 0x01, 0x01, 0x00] ∧
  classify 0x00 0x25 0x80 0x5B = .good 37 ∧ classify 0xFF 0xB0 0x80 0xD1 = .good (-80) ∧
  classify 0x00 0x25 0x00 0xDB = .sensorInvalid ∧ classify 0x03 0xE9 0x80 0x94 = .implausible

/-- The receiver acts on each delivered byte by its state (R156): IDLE ignores all but START; the LENGTH byte is kept or
abandons the frame as BAD_LENGTH; a later byte, the last one excepted, is kept. The gap timer's expiry in IN_FRAME abandons the
frame as TRUNCATED and counts it, saturating at 65,535 (R156, R158); in IDLE, where no gap timer runs, the command leaves the
state (the model's choice, notes/assumptions/5.md). -/
def Obligations.ReceiverMovesByTheByteAndTheGapTimer : Prop :=
  ∀ (s : State) (b : Byte), s.power = .running → s.settled →
    (s.link.receiver = .idle → b ≠ 0x5A → exec (.rxByte b) s = .next s) ∧
    (s.link.receiver = .idle → b = 0x5A → exec (.rxByte b) s = .next (s.setReceiver (.inFrame []))) ∧
    (s.link.receiver = .inFrame [] → 2 ≤ b.toNat → b.toNat ≤ 242 →
      exec (.rxByte b) s = .next (s.setReceiver (.inFrame [b]))) ∧
    (s.link.receiver = .inFrame [] → (b.toNat < 2 ∨ 242 < b.toNat) →
      exec (.rxByte b) s = .next ((s.setReceiver .idle).linkError .badLength)) ∧
    (∀ len rest, s.link.receiver = .inFrame (len :: rest) → rest.length + 2 < len.toNat + 3 →
      exec (.rxByte b) s = .next (s.setReceiver (.inFrame (len :: (rest ++ [b]))))) ∧
    (s.link.receiver = .idle → exec .gapTimerExpiry s = .next s) ∧
    (∀ got, s.link.receiver = .inFrame got →
      exec .gapTimerExpiry s = .next (s.setLink { s.link with receiver := .idle, lastError := .truncated, errorCount := min (s.link.errorCount + 1) (max s.link.errorCount 65535) }))

/-- An item that leaves the transmit queue frees its entry (R159, R160). Where no dispatch succeeds, because nothing waits, a
RESTART holds dispatch or no entry is free, the leaving is the event of a selection (R145): with no winner the rest of the queue
stands; with a winner its notice joins the queue, its source goes into service or is acknowledged by the level, with those of
further winners after it until a selection finds none (R147). In each case a notice that becomes the head takes its late fields from
the state at that moment (R148, R159). Where a request waits and a dispatch succeeds, it is dispatched into a freed entry (R160), and
with more than one entry free this holds in both orders of dispatch and selection (notes/assumptions/2.md).
That a new head begins after the event's selections is read from the manual by inference (notes/assumptions/11.md). -/
def Obligations.ItemSentFreesAnEntry : Prop :=
  ∀ (s : State) (i : TxItem) (rest : List TxItem), s.power = .running → s.settled → s.link.txQueue = i :: rest →
    ∀ (q : State) (begun : List TxItem), q = s.setLink { s.link with txQueue := rest } →
      begun = (match rest with
        | .notice y c none :: more => .notice y c (some (s.lateFields y)) :: more
        | l => l) →
    ((s.link.rxBuffer = [] ∨ s.link.restartAccepted = true ∨ 4 ≤ rest.length) → q.winner = none →
      exec .txItemSent s = .next (s.setLink { s.link with txQueue := begun })) ∧
    (∀ (x : Fin 65) (c : Fin 8), (s.link.rxBuffer = [] ∨ s.link.restartAccepted = true) → q.winner = some x →
      c = (s.tables.sources.at x).cls →
      ∃ t, exec .txItemSent s = .next t ∧ onlyAlerts s t ∧ t.winner = none ∧ t.link.txQueue.length ≤ 3 ∧
        (rest = [] → ∃ more, t.link.txQueue = .notice x c (some (s.lateFields x)) :: more) ∧
        (rest ≠ [] → ∃ more, t.link.txQueue = begun ++ .notice x c none :: more) ∧
        (∀ y, t.told y = s.told y) ∧
        (c.val + 1 < s.tables.autoAck →
          (t.alerts.sources.at x).membership = .inService ∧ (∃ new, t.alerts.stack = new ++ ⟨x, c⟩ :: s.alerts.stack) ∧
          (t.alerts.pointers.at c).val = if x.val = 64 then 0 else x.val + 1) ∧
        (s.tables.autoAck ≤ c.val + 1 →
          (t.alerts.sources.at x).membership = (if isLevel x then .standing else .none) ∧
          ∃ new, t.alerts.stack = new ++ s.alerts.stack)) ∧
    (∀ f more, s.link.rxBuffer = f :: more → s.link.restartAccepted = false →
      (rest.length ≤ 3 → ∃ t, exec .txItemSent s = .next t ∧ (∃ front, more = front ++ t.link.rxBuffer) ∧
        ∃ body, .response ⟨f.kind + 0x80, f.tag, body⟩ ∈ t.link.txQueue) ∧
      (rest.length = 3 → ∃ t, exec .txItemSent s = .next t ∧ t.link.rxBuffer = more ∧ t.link.txQueue.length = 4 ∧
        ∃ body, t.link.txQueue.getLast? = some (.response ⟨f.kind + 0x80, f.tag, body⟩)))

/-- The late fields of a notice (R148, R174): a level source's condition, true for an edge source; plant seconds; the coil with
its stage and band, the unit with its stage and 0xFF, or 0 and two 0xFF for a device source. -/
def Obligations.NoticeLateFieldsFollowTheSource : Prop :=
  ∀ (s : State) (x : Fin 65),
    (s.lateFields x).condition = (if isLevel x then (s.alerts.sources.at x).condition else true) ∧
    (s.lateFields x).second = s.plantSeconds ∧
    (∀ (k : Fin 6) (j : Fin 8), x = coilSource k j →
      (s.lateFields x).owner = encNumber k ∧ (s.lateFields x).stage = (s.coils.at k).stage.code ∧
      (s.lateFields x).band = (s.exposures.at k).band.code) ∧
    (∀ (u : Fin 3) (j : Fin 4), x = unitSource u j →
      (s.lateFields x).owner = encNumber u ∧ (s.lateFields x).stage = (s.units.at u).stage.code ∧
      (s.lateFields x).band = 0xFF) ∧
    (60 ≤ x.val → (s.lateFields x).owner = 0 ∧ (s.lateFields x).stage = 0xFF ∧ (s.lateFields x).band = 0xFF)

/-! ## Report requests, and what every request is answered -/

/-- The reports have the lengths that the layouts give, and every field stands at its place in its encoding (R168, R170, R173, R176
to R180): the codes of the enumerations; absent temperatures, seconds and stopped timers by their marks; flags, point sets, coil sets
and source sets bit by bit; the entries of histories, excluded points, points, channels, alerts, outputs and inputs one by one, with
unused entries 0; the host value in force by R128. A number that no field of its width can hold is not spoken of. -/
def Obligations.ReportsHaveTheirLengths : Prop :=
  ([CoilStage.idle, .settle, .watch, .guard, .boost, .tripped, .lockout].map CoilStage.code = [0, 1, 2, 3, 4, 5, 6] ∧
    [Band.clear, .advise1, .advise2, .trip].map Band.code = [0, 1, 2, 3] ∧
    [FaceState.sighted, .holding, .blind].map FaceState.code = [0, 1, 2] ∧
    [FrameStatus.none, .accepted, .starved].map FrameStatus.code = [0, 1, 2] ∧
    [Prove.off, .proving, .proven, .failed].map Prove.code = [0, 1, 2, 3] ∧
    [UnitStage.idle, .run, .temper, .closing, .secured, .secureFault, .restartHold].map UnitStage.code = [0, 1, 2, 3, 4, 5, 6] ∧
    [PlantMode.armed, .test, .fallback].map PlantMode.code = [1, 2, 3] ∧ [Strap.field, .bench].map strapCode = [0, 1] ∧
    [TripCause.exposure, .hardLimit, .pump].map TripCause.code = [1, 2, 3] ∧
    (∀ v, [none, some (PointResult.good v), some .noAnswer, some .timeout, some .badCheck, some .sensorInvalid, some .implausible,
      some .stuck, some .notReached, some .segmentFault].map resultCode = [0, 1, 2, 3, 4, 5, 6, 7, 8, 9]) ∧
    [LinkError.none, .truncated, .badLength, .badCheck, .overrun].map LinkError.code = [0, 1, 2, 3, 4] ∧
    [ChannelStatus.never, .ok, .wire, .implausible, .notScanned].map ChannelStatus.code = [0, 1, 2, 3, 4] ∧
    [HealthState.unseen, .ok, .suspect, .dropped].map HealthState.code = [0, 1, 2, 3] ∧
    [MasterState.idle, .reading, .recovering, .faulted].map MasterState.code = [0, 1, 2, 3] ∧
    [Membership.none, .pending, .inService, .standing].map Membership.code = [0, 1, 2, 3]) ∧
  ∀ s : State,
    (s.statusReport.length = 210 ∧ s.channelReport.length = 131 ∧ s.alertReport.length = 110 ∧
      (∀ k, (s.coilReport k).length = 105) ∧ (∀ u, (s.unitReport u).length = 20) ∧
      (∀ k, (s.coils.at k).tripRecord = none → (s.tripReport k).length = 2) ∧
      (∀ k r, (s.coils.at k).tripRecord = some r → (s.tripReport k).length = 37) ∧
      (∀ g p, ∃ n, n ≤ 16 ∧ (s.pointReport g p).length = 11 + 14 * n ∧ (s.pointReport g p)[10]? = some (u8 n))) ∧
    -- the status report (R176)
    (∀ l, l = s.statusReport →
      fieldAt l 0 1 = s.mode.code.toNat ∧ fieldAt l 1 1 = (strapCode s.strap).toNat ∧ fieldIs l 2 1 s.validation.coil ∧
      fieldIs l 3 1 s.validation.reason ∧
      (s.store.job = none → fieldAt l 4 1 = 0 ∧ fieldAt l 5 1 = 0) ∧
      (∀ kind phase, s.store.job = some ⟨kind, phase⟩ →
        fieldAt l 4 1 = (match kind with | .save _ => 1 | .lockoutWrite => 2) ∧
        fieldAt l 5 1 = (match phase with
          | .imageErase => 1 | .imageProgram => 2 | .imageVerify => 3 | .areaProgram _ => 4 | .areaVerify _ => 5)) ∧
      flagsAre l 6 [s.store.pendingSave.isSome, s.store.pendingLockout] ∧ flagsAre l 7 [s.imageInvalid, s.areaDirty] ∧
      flagsAre l 8 ((List.finRange 6).map fun k => (s.coils.at k).lockout) ∧
      fieldAt l 9 4 = s.plantSeconds.toNat ∧ fieldIs l 13 2 s.link.errorCount ∧ fieldAt l 15 1 = s.link.lastError.code.toNat ∧
      fieldIs l 16 1 s.link.rxBuffer.length ∧ fieldAt l 17 1 = 4 - s.link.txQueue.length ∧
      (∀ u : Fin 3, fieldAt l (18 + u.val) 1 = (s.units.at u).stage.code.toNat) ∧
      (∀ k : Fin 6, fieldAt l (21 + 2 * k.val) 1 = (if (s.cfg k).present then (s.cfg k).unit.val + 1 else 0) ∧
        fieldAt l (22 + 2 * k.val) 1 = (s.coils.at k).stage.code.toNat) ∧
      (∀ k : Fin 6, fieldIs l (33 + 9 * k.val) 2 (s.outputs.valves.at k) ∧
        fieldAt l (87 + 9 * k.val) 2 = if s.outputs.pumps.at k then 1 else 0) ∧
      (∀ u : Fin 3, fieldIs l (141 + 9 * u.val) 2 (s.outputs.dampers.at u) ∧
        fieldAt l (168 + 9 * u.val) 2 = if s.outputs.fans.at u then 1 else 0) ∧
      (∀ o : Fin 18,
        fieldIs l (35 + 9 * o.val) 2 (if (s.demands.at o).fresh then (s.demands.at o).value else
          match (s.tables.outputs.at o).policy with
          | .fixed v => v
          | .holdLast => if (s.demands.at o).received then (s.demands.at o).value else 0) ∧
        fieldIs l (37 + 9 * o.val) 2 (s.demands.at o).value ∧
        flagsAre l (39 + 9 * o.val) [(s.demands.at o).received, (s.demands.at o).fresh] ∧
        timerIs l (40 + 9 * o.val) (s.demands.at o).timer) ∧
      (∀ i : Fin 15, flagsAre l (195 + i.val)
        [s.pins.at i != (s.tables.inputs.at i).activeLow, (s.inputs.at i).debounced])) ∧
    -- the coil report and the trip report (R173)
    (∀ (k : Fin 6) (l : List Byte) (r : CoilSeq) (f : Face), l = s.coilReport k → r = s.coils.at k → f = s.faces.at k →
      fieldAt l 0 1 = k.val + 1 ∧ flagsAre l 1 [(s.cfg k).present] ∧ fieldAt l 2 1 = (s.cfg k).unit.val + 1 ∧
      fieldAt l 3 1 = r.stage.code.toNat ∧ fieldIs l 4 1 r.settle ∧ timerIs l 5 r.holdDown ∧
      fieldAt l 7 1 = r.prove.code.toNat ∧ flagsAre l 8 [r.lockout, r.forced, s.detectors.at k == .ready] ∧
      fieldIs l 9 1 r.history.length ∧
      (∀ i : Fin 5, (∀ e, r.history[i.val]? = some e → fieldAt l (10 + 4 * i.val) 4 = e.toNat) ∧
        (r.history[i.val]? = none → fieldAt l (10 + 4 * i.val) 4 = 0)) ∧
      fieldIs l 30 3 (s.exposures.at k).e ∧ fieldAt l 33 1 = (s.exposures.at k).band.code.toNat ∧
      fieldIs l 34 1 (s.exposures.at k).confirm ∧
      fieldAt l 35 1 = f.state.code.toNat ∧ fieldIs l 36 1 f.starved ∧ tempIs l 37 f.held ∧ tempIs l 39 f.mean ∧
      tempIs l 41 f.spread ∧ fieldAt l 43 1 = f.status.code.toNat ∧ tempIs l 44 f.cEff ∧ pointsAre l 46 f.validSet ∧
      pointsAre l 52 f.missingSet ∧ fieldIs l 58 1 f.excludedSet.length ∧
      (∀ i : Fin 8,
        (∀ p x, f.excludedSet[i.val]? = some (p, x) → fieldAt l (59 + 4 * i.val) 1 = p.val + 1 ∧
          fieldAt l (60 + 4 * i.val) 1 = (resultCode (some x)).toNat ∧
          tempIs l (61 + 4 * i.val) (match x with | .good v => some v | _ => none)) ∧
        (f.excludedSet[i.val]? = none → fieldAt l (59 + 4 * i.val) 4 = 0)) ∧
      (f.raggedMask = none → fieldAt l 91 6 = 0) ∧ (∀ m, f.raggedMask = some m → pointsAre l 91 m) ∧
      secondIs l 97 f.raggedSecond ∧ secondIs l 101 f.frameSecond) ∧
    (∀ (k : Fin 6) (l : List Byte), l = s.tripReport k →
      fieldAt l 0 1 = k.val + 1 ∧ flagsAre l 1 [(s.coils.at k).tripRecord.isSome] ∧
      ∀ r, (s.coils.at k).tripRecord = some r →
        fieldAt l 2 4 = r.second.toNat ∧ fieldAt l 6 1 = r.cause.code.toNat ∧ fieldAt l 7 1 = r.stageLeft.code.toNat ∧
        tempIs l 8 r.cEff ∧ tempIs l 10 r.held ∧ tempIs l 12 r.mean ∧ tempIs l 14 r.spread ∧
        fieldAt l 16 1 = r.face.code.toNat ∧ fieldIs l 17 3 r.e ∧ tempIs l 20 r.lwt ∧ tempIs l 22 r.lat ∧
        pointsAre l 24 r.validMask ∧ pointsAre l 30 r.missingMask ∧ fieldIs l 36 1 r.historyCount) ∧
    -- the unit report (R177)
    (∀ (u : Fin 3) (l : List Byte) (r : UnitRec), l = s.unitReport u → r = s.units.at u →
      fieldAt l 0 1 = u.val + 1 ∧ fieldAt l 1 1 = r.stage.code.toNat ∧
      flagsAre l 2 [r.temper, r.trip, s.damperProof u, s.fanProof u, r.missingDamper, r.missingFan] ∧
      timerIs l 3 r.stroke ∧ timerIs l 5 r.fan ∧ timerIs l 7 r.holdOff ∧ secondIs l 9 r.closingSecond ∧
      flagsAre l 13 ((List.finRange 6).map fun k => (s.cfg k).present && (s.cfg k).unit == u) ∧
      ∀ k : Fin 6, fieldAt l (14 + k.val) 1 =
        if (s.cfg k).present = true ∧ (s.cfg k).unit = u then (s.coils.at k).stage.code.toNat else 0) ∧
    -- the point report (R178)
    (∀ (g : Fin 3) (start : Fin 48) (l : List Byte) (m : Master) (named : List (Fin 48)), l = s.pointReport g start →
      m = s.masters.at g →
      named = (List.finRange 48).filter (fun p => decide ((s.tables.points.at p).segment = g) && decide (start ≤ p)) →
      fieldAt l 0 1 = g.val + 1 ∧ fieldAt l 1 1 = m.state.code.toNat ∧ fieldIs l 2 1 m.intervalAtOpen ∧
      (m.position = none → fieldAt l 3 1 = 0xFF) ∧ (∀ e, m.position = some e → fieldAt l 3 1 = e.point.val + 1) ∧
      fieldIs l 4 2 m.framesOpened ∧ fieldIs l 6 2 m.framesCutShort ∧ flagsAre l 8 [m.busFault] ∧
      (named[16]? = none → fieldAt l 9 1 = 0xFF) ∧ (∀ p, named[16]? = some p → fieldAt l 9 1 = p.val + 1) ∧
      fieldAt l 10 1 = min 16 named.length ∧
      ∀ (i : Fin 16) (p : Fin 48) (c : PointCfg) (h : Health), named[i.val]? = some p → c = s.tables.points.at p →
        h = s.health.at p →
        fieldAt l (11 + 14 * i.val) 1 = p.val + 1 ∧ flagsAre l (12 + 14 * i.val) [c.enabled, c.included] ∧
        fieldIs l (13 + 14 * i.val) 1 c.address ∧
        fieldAt l (14 + 14 * i.val) 1 = (match c.coil with | none => 0xFF | some k => k.val + 1) ∧
        fieldAt l (15 + 14 * i.val) 1 = h.state.code.toNat ∧ fieldIs l (16 + 14 * i.val) 1 h.misses ∧
        tempIs l (17 + 14 * i.val) h.lastGood ∧ secondIs l (19 + 14 * i.val) h.lastGoodSecond ∧
        fieldAt l (23 + 14 * i.val) 1 = (resultCode h.lastOutcome).toNat ∧
        ((∀ e ∈ m.snapshot, e.point ≠ p) → fieldAt l (24 + 14 * i.val) 1 = 0) ∧
        ∀ e, m.snapshot.find? (fun e => e.point == p) = some e →
          fieldAt l (24 + 14 * i.val) 1 = (resultCode e.result).toNat) ∧
    -- the channel report (R179)
    (∀ l, l = s.channelReport →
      (∀ c : Fin 16, fieldIs l (7 * c.val) 2 (s.channels.at c).code ∧
        tempIs l (7 * c.val + 2) (some (s.channels.at c).temperature) ∧
        fieldAt l (7 * c.val + 4) 1 = (s.channels.at c).status.code.toNat ∧
        fieldIs l (7 * c.val + 5) 2 (s.channels.at c).conversions) ∧
      fieldIs l 112 1 s.sampler.passList.length ∧
      (∀ i : Fin 16, (∀ c, s.sampler.passList[i.val]? = some c → fieldAt l (113 + i.val) 1 = c.val) ∧
        (s.sampler.passList[i.val]? = none → fieldAt l (113 + i.val) 1 = 0)) ∧
      fieldIs l 129 1 s.sampler.position ∧ (fieldAt l 130 1 = if s.tables.scan = s.sampler.passList then 0 else 1)) ∧
    -- the alert report (R180)
    (∀ l, l = s.alertReport →
      fieldIs l 0 1 s.alerts.stack.length ∧
      (∀ i : Fin 8,
        (∀ e, s.alerts.stack.reverse[i.val]? = some e →
          fieldAt l (1 + 2 * i.val) 1 = e.source.val ∧ fieldAt l (2 + 2 * i.val) 1 = e.cls.val + 1) ∧
        (s.alerts.stack.reverse[i.val]? = none → fieldAt l (1 + 2 * i.val) 2 = 0)) ∧
      (∀ x : Fin 65,
        ((fieldAt l 17 9).testBit x.val = true ↔ (s.alerts.sources.at x).membership = .pending) ∧
        ((fieldAt l 26 9).testBit x.val = true ↔ (s.alerts.sources.at x).membership = .standing) ∧
        fieldAt l (35 + x.val) 1 % 8 = (s.tables.sources.at x).cls.val ∧
        (fieldAt l (35 + x.val) 1).testBit 3 = (s.tables.sources.at x).masked ∧
        fieldAt l (35 + x.val) 1 / 16 % 4 = (s.alerts.sources.at x).membership.code ∧
        (fieldAt l (35 + x.val) 1).testBit 6 = isLevel x ∧
        (fieldAt l (35 + x.val) 1).testBit 7 = (isLevel x && (s.alerts.sources.at x).condition)) ∧
      (∀ c : Fin 8, fieldAt l (100 + c.val) 1 = (s.alerts.pointers.at c).val) ∧
      fieldIs l 108 1 s.tables.autoAck ∧ flagsAre l 109 [s.alertLine])

/-- A report request that a ready link takes is answered DONE with the report of the state as it stands, under KIND plus 0x80
and the request's TAG, and changes nothing else, apart from the clear indications (R53, R161, R163, R164).
That the free entries in the status report are counted before its own response joins the queue is read from the manual by inference
(notes/assumptions/21.md). -/
def Obligations.ReportRequestsAnswerFromTheState : Prop :=
  ∀ (s : State) (tag : Byte), s.ready →
    (∀ k : Fin 6, exec (.getCoil tag (encNumber k)) s = .next (s.answered 0x82 tag (0 :: s.coilReport k))) ∧
    (∀ u : Fin 3, exec (.getUnit tag (encNumber u)) s = .next (s.answered 0x83 tag (0 :: s.unitReport u))) ∧
    (∀ k : Fin 6, exec (.getTrip tag (encNumber k)) s = .next (s.answered 0x86 tag (0 :: s.tripReport k))) ∧
    exec (.getChannels tag) s = .next (s.answered 0x85 tag (0 :: s.channelReport)) ∧
    exec (.getAlerts tag) s = .next (s.answered 0x87 tag (0 :: s.alertReport)) ∧
    exec (.getStatus tag 0) s = .next (s.answered 0x81 tag (0 :: s.statusReport)) ∧
    exec (.getStatus tag 1) s = .next (((s.setLink { s.link with errorCount := 0, lastError := .none }).answered 0x81 tag
      (0 :: s.statusReport))) ∧
    (∀ (g : Fin 3) (p : Fin 48), exec (.getPoints tag (encNumber g) (encNumber p) 0) s =
      .next (s.answered 0x84 tag (0 :: s.pointReport g p))) ∧
    (∀ (g : Fin 3) (p : Fin 48), exec (.getPoints tag (encNumber g) (encNumber p) 1) s =
      .next ((s.setMaster g { s.masters.at g with framesOpened := 0, framesCutShort := 0 }).answered 0x84 tag
        (0 :: s.pointReport g p)))

/-- Requests that carry nothing to act on are answered and change nothing else: a report request out of range, or with a flag
that is neither 0 nor 1, with RANGE (R163, R168); a KIND that is no request kind with UNKNOWN, under KIND plus 0x80 modulo 256
(R161, R169); a payload of a length that the table of R169 does not give its kind, or whose count is out of its range or
disagrees with its length, with LENGTH, to which TRIP-RESET adds a reason byte of 0 (R125, R161, R169). A payload that no frame
can carry is refused by the model (its choice, notes/assumptions/9.md). -/
def Obligations.EmptyRequestsAreAnsweredAndChangeNothing : Prop :=
  ∀ (s : State) (tag : Byte), s.ready →
    (∀ b : Byte, (b.toNat = 0 ∨ 6 < b.toNat) → exec (.getCoil tag b) s = .next (s.answered 0x82 tag [3]) ∧
      exec (.getTrip tag b) s = .next (s.answered 0x86 tag [3])) ∧
    (∀ b : Byte, (b.toNat = 0 ∨ 3 < b.toNat) → exec (.getUnit tag b) s = .next (s.answered 0x83 tag [3])) ∧
    (∀ c : Byte, 1 < c.toNat → exec (.getStatus tag c) s = .next (s.answered 0x81 tag [3])) ∧
    (∀ g p c : Byte, (g.toNat = 0 ∨ 3 < g.toNat ∨ p.toNat = 0 ∨ 48 < p.toNat ∨ 1 < c.toNat) →
      exec (.getPoints tag g p c) s = .next (s.answered 0x84 tag [3])) ∧
    (∀ (kind : Byte) (payload : List Byte), requestKinds.contains kind = false →
      (payload.length ≤ 240 → exec (.unknownRequest kind tag payload) s = .next (s.answered (kind + 0x80) tag [5])) ∧
      (240 < payload.length → exec (.unknownRequest kind tag payload) s = .refused .notAFrame)) ∧
    (∀ (kind : Byte) (n : Nat) (payload : List Byte),
      (kind, n) ∈ [((0x01 : Byte), 1), (0x02, 1), (0x03, 1), (0x04, 3), (0x05, 0), (0x06, 1), (0x07, 0), (0x18, 1), (0x19, 0),
        (0x21, 1), (0x22, 2), (0x23, 1), (0x30, 39), (0x31, 8), (0x32, 2), (0x33, 6), (0x34, 6), (0x36, 5), (0x37, 3),
        (0x38, 3), (0x39, 1), (0x40, 0), (0x41, 0)] →
      payload.length ≠ n → arrive kind tag payload s = .next (s.answered (kind + 0x80) tag [6])) ∧
    (∀ payload : List Byte, payload.length ≠ 1 → arrive 0x20 tag payload s = .next (s.answered 0xA0 tag [6, 0])) ∧
    (∀ payload : List Byte,
      (∀ count rest, payload = count :: rest → 1 ≤ count.toNat → count.toNat ≤ 18 → rest.length ≠ 3 * count.toNat) →
      arrive 0x10 tag payload s = .next (s.answered 0x90 tag [6])) ∧
    (∀ payload : List Byte, (∀ count rest, payload = count :: rest → count.toNat ≤ 16 → rest.length ≠ count.toNat) →
      arrive 0x35 tag payload s = .next (s.answered 0xB5 tag [6])) ∧
    (∀ pairs : List (Byte × Half), (pairs.length = 0 ∨ 18 < pairs.length) → pairs.length ≤ 79 →
      exec (.putDemand tag pairs) s = .next (s.answered 0x90 tag [6])) ∧
    (∀ channels : List Byte, 16 < channels.length → channels.length ≤ 239 →
      exec (.setScan tag channels) s = .next (s.answered 0xB5 tag [6]))

/-- A link that is not ready keeps the request: with the transmit queue full it waits in the receive buffer, and with both
entries of the buffer occupied it is discarded as OVERRUN (R157, R160, R162). -/
def Obligations.RequestsWaitOrAreDiscarded : Prop :=
  ∀ (s : State) (kind tag : Byte) (payload : List Byte), s.power = .running → s.settled →
    (s.link.rxBuffer.length < 2 → (s.link.txQueue.length = 4 ∨ s.link.restartAccepted = true) →
      arrive kind tag payload s =
        .next (s.setLink { s.link with rxBuffer := s.link.rxBuffer ++ [⟨kind, tag, payload⟩] })) ∧
    (2 ≤ s.link.rxBuffer.length → arrive kind tag payload s = .next (s.linkError .overrun))

/-! ## Configuration requests (R1 to R10) -/

/-- While a SAVE is in flight or pending, every configuration request, SET-MODE and SAVE are refused with BUSY, whatever their
fields, and nothing else changes (R1 check 1, R13 check 1, R19). -/
def Obligations.ConfigurationIsBusyDuringASave : Prop :=
  ∀ (s : State) (tag : Byte), s.ready → s.saveBusy = true →
    (∀ c w, exec (.setCoil tag c w) s = .next (s.answered 0xB0 tag [1])) ∧
    (∀ u d st f h, exec (.setUnit tag u d st f h) s = .next (s.answered 0xB1 tag [1])) ∧
    (∀ g n, exec (.setSegment tag g n) s = .next (s.answered 0xB2 tag [1])) ∧
    (∀ p e g a c i, exec (.setPoint tag p e g a c i) s = .next (s.answered 0xB3 tag [1])) ∧
    (∀ c t l h, exec (.setChannel tag c t l h) s = .next (s.answered 0xB4 tag [1])) ∧
    (∀ l : List Byte, l.length ≤ 16 → exec (.setScan tag l) s = .next (s.answered 0xB5 tag [1])) ∧
    (∀ o l p v, exec (.setOutput tag o l p v) s = .next (s.answered 0xB6 tag [1])) ∧
    (∀ i p d, exec (.setInput tag i p d) s = .next (s.answered 0xB7 tag [1])) ∧
    (∀ x c m, exec (.setSource tag x c m) s = .next (s.answered 0xB8 tag [1])) ∧
    (∀ l, exec (.setResolver tag l) s = .next (s.answered 0xB9 tag [1])) ∧
    exec (.setModeArmed tag) s = .next (s.answered 0xA1 tag [1]) ∧
    exec (.setModeTest tag) s = .next (s.answered 0xA1 tag [1]) ∧
    exec (.save tag) s = .next (s.answered 0xC0 tag [1])

/-- Outside TEST, SET-POINT, SET-SCAN, FORCE-STAGE and RELEASE-STAGE are refused with MODE, and so is a SET-COIL that changes
a structural field, and nothing else changes (R3, R6, R7, R102, R104). -/
def Obligations.StructuralChangesAreRefusedOutsideTest : Prop :=
  ∀ (s : State) (tag : Byte), s.ready → s.mode ≠ .test →
    (s.saveBusy = false →
      (∀ (p : Fin 48) e g a c i, exec (.setPoint tag (encNumber p) e g a c i) s = .next (s.answered 0xB3 tag [2])) ∧
      (∀ l : List Byte, l.length ≤ 16 → exec (.setScan tag l) s = .next (s.answered 0xB5 tag [2])) ∧
      (∀ (k : Fin 6) w, structuralBytes w ≠ structuralBytes (s.cfg k).toWire →
        exec (.setCoil tag (encNumber k) w) s = .next (s.answered 0xB0 tag [2]))) ∧
    (∀ (k : Fin 6) (st : Byte), 2 ≤ st.toNat → st.toNat ≤ 5 →
      exec (.forceStage tag (encNumber k) st) s = .next (s.answered 0xA2 tag [2])) ∧
    (∀ k : Fin 6, exec (.releaseStage tag (encNumber k)) s = .next (s.answered 0xA3 tag [2]))

/-- A configuration request that is not answered DONE leaves the whole state as it stood (R1). With no SAVE in flight or pending it is
refused with RANGE where its index names no record (R1 check 2), and, past the mode check, where a field lies outside its range or
holds no value of its encoding (R1 check 4, R168): for SET-COIL the ranges of R2, 0 < RECOVER < A1 < A2 < TRIP ≤ 16,777,215 and Φ < Θ,
which are also the conditions under which its bytes give a record; for the others the ranges of R5, R6, R7, R9 and R10. A SET-SCAN with
no entry or with a channel above 15 is refused with RANGE, and one that names a channel twice with CONFLICT (R7). A SET-MODE that names
neither ARMED nor TEST is refused with RANGE (R13). -/
def Obligations.RefusedSettingsChangeNothing : Prop :=
  (∀ s : State,
      (∀ c w, (reqSetCoil c w s).payload ≠ [0] → (reqSetCoil c w s).state = s) ∧
      (∀ u d st f h, (reqSetUnit u d st f h s).payload ≠ [0] → (reqSetUnit u d st f h s).state = s) ∧
      (∀ g n, (reqSetSegment g n s).payload ≠ [0] → (reqSetSegment g n s).state = s) ∧
      (∀ p e g a c i, (reqSetPoint p e g a c i s).payload ≠ [0] → (reqSetPoint p e g a c i s).state = s) ∧
      (∀ c t l h, (reqSetChannel c t l h s).payload ≠ [0] → (reqSetChannel c t l h s).state = s) ∧
      (∀ l, (reqSetScan l s).payload ≠ [0] → (reqSetScan l s).state = s) ∧
      (∀ o l p v, (reqSetOutput o l p v s).payload ≠ [0] → (reqSetOutput o l p v s).state = s) ∧
      (∀ i p d, (reqSetInput i p d s).payload ≠ [0] → (reqSetInput i p d s).state = s) ∧
      (∀ x c m, (reqSetSource x c m s).payload ≠ [0] → (reqSetSource x c m s).state = s) ∧
      (∀ l, (reqSetResolver l s).payload ≠ [0] → (reqSetResolver l s).state = s)) ∧
  ∀ (s : State) (tag : Byte), s.ready → s.saveBusy = false →
    (∀ c w, (c.toNat = 0 ∨ 6 < c.toNat) → exec (.setCoil tag c w) s = .next (s.answered 0xB0 tag [3])) ∧
    (∀ (k : Fin 6) (w : CoilWire) (ranges crossed : Prop),
      (ranges ↔ w.present.toNat ≤ 1 ∧ (1 ≤ w.unit.toNat ∧ w.unit.toNat ≤ 3) ∧ (1 ≤ w.quorum.toNat ∧ w.quorum.toNat ≤ 8) ∧
        (-160 ≤ w.theta.toInt ∧ w.theta.toInt ≤ 160) ∧ (-80 ≤ w.phi.toInt ∧ w.phi.toInt ≤ 80) ∧
        (1 ≤ w.confirm.toNat ∧ w.confirm.toNat ≤ 4) ∧ (0 ≤ w.lambda.toInt ∧ w.lambda.toInt ≤ 160) ∧
        (1 ≤ w.weight.toNat ∧ w.weight.toNat ≤ 16) ∧ 1 ≤ w.a1.toNat ∧ 1 ≤ w.a2.toNat ∧ 1 ≤ w.trip.toNat ∧
        1 ≤ w.recover.toNat ∧ (1 ≤ w.settleFrames.toNat ∧ w.settleFrames.toNat ≤ 30) ∧
        (1 ≤ w.staleLimit.toNat ∧ w.staleLimit.toNat ≤ 20) ∧ w.g1.toNat ≤ 1000 ∧ w.holdDown.toNat ≤ 3600 ∧
        (5 ≤ w.proveLimit.toNat ∧ w.proveLimit.toNat ≤ 120) ∧ (2 ≤ w.lockoutLimit.toNat ∧ w.lockoutLimit.toNat ≤ 5) ∧
        (1 ≤ w.lockoutWindow.toNat ∧ w.lockoutWindow.toNat ≤ 48) ∧ w.blindOffset.toNat ≤ 160 ∧
        (-160 ≤ w.blindFloor.toInt ∧ w.blindFloor.toInt ≤ 80) ∧ (w.lwt = 0xFF ∨ w.lwt.toNat ≤ 15) ∧
        (w.lat = 0xFF ∨ w.lat.toNat ≤ 15)) →
      (crossed ↔ w.recover.toNat < w.a1.toNat ∧ w.a1.toNat < w.a2.toNat ∧ w.a2.toNat < w.trip.toNat ∧
        w.phi.toInt < w.theta.toInt) →
      ((∃ c, coilCfgOf w = some c) ↔ ranges ∧ crossed) ∧
      ((s.mode = .test ∨ structuralBytes w = structuralBytes (s.cfg k).toWire) → ¬ (ranges ∧ crossed) →
        exec (.setCoil tag (encNumber k) w) s = .next (s.answered 0xB0 tag [3]))) ∧
    (∀ u d st f h,
      ¬ ((1 ≤ u.toNat ∧ u.toNat ≤ 3) ∧ d.toNat ≤ 1000 ∧ (10 ≤ st.toNat ∧ st.toNat ≤ 300) ∧
        (5 ≤ f.toNat ∧ f.toNat ≤ 180) ∧ h.toNat ≤ 1800) →
      exec (.setUnit tag u d st f h) s = .next (s.answered 0xB1 tag [3])) ∧
    (∀ g n, ¬ ((1 ≤ g.toNat ∧ g.toNat ≤ 3) ∧ 1 ≤ n.toNat ∧ n.toNat ≤ 40) →
      exec (.setSegment tag g n) s = .next (s.answered 0xB2 tag [3])) ∧
    (∀ p e g a c i, (p.toNat = 0 ∨ 48 < p.toNat) → exec (.setPoint tag p e g a c i) s = .next (s.answered 0xB3 tag [3])) ∧
    (∀ (p : Fin 48) (e g a c i : Byte), s.mode = .test →
      ¬ (e.toNat ≤ 1 ∧ (1 ≤ g.toNat ∧ g.toNat ≤ 3) ∧ (8 ≤ a.toNat ∧ a.toNat ≤ 119) ∧
        (c = 0xFF ∨ 1 ≤ c.toNat ∧ c.toNat ≤ 6) ∧ i.toNat ≤ 1) →
      exec (.setPoint tag (encNumber p) e g a c i) s = .next (s.answered 0xB3 tag [3])) ∧
    (∀ c trim low high, ¬ (c.toNat ≤ 15 ∧ -800 ≤ low.toInt ∧ low.toInt < high.toInt ∧ high.toInt ≤ 800) →
      exec (.setChannel tag c trim low high) s = .next (s.answered 0xB4 tag [3])) ∧
    (∀ channels : List Byte, s.mode = .test → channels.length ≤ 16 →
      (channels = [] ∨ (∃ b ∈ channels, 15 < b.toNat) → exec (.setScan tag channels) s = .next (s.answered 0xB5 tag [3])) ∧
      (channels ≠ [] → (∀ b ∈ channels, b.toNat ≤ 15) → ¬ channels.Nodup →
        exec (.setScan tag channels) s = .next (s.answered 0xB5 tag [4]))) ∧
    (∀ o l p v,
      ¬ ((1 ≤ o.toNat ∧ o.toNat ≤ 18) ∧ (p = 0 ∨ p = 1 ∧
        v.toNat ≤ if o.toNat ≤ 6 ∨ 13 ≤ o.toNat ∧ o.toNat ≤ 15 then 1000 else 1)) →
      exec (.setOutput tag o l p v) s = .next (s.answered 0xB6 tag [3])) ∧
    (∀ i p d, ¬ ((1 ≤ i.toNat ∧ i.toNat ≤ 15) ∧ p.toNat ≤ 1 ∧ d.toNat ≤ 15) →
      exec (.setInput tag i p d) s = .next (s.answered 0xB7 tag [3])) ∧
    (∀ x c m, ¬ (x.toNat ≤ 64 ∧ (1 ≤ c.toNat ∧ c.toNat ≤ 8) ∧ m.toNat ≤ 1) →
      exec (.setSource tag x c m) s = .next (s.answered 0xB8 tag [3])) ∧
    (∀ level, ¬ (1 ≤ level.toNat ∧ level.toNat ≤ 9) → exec (.setResolver tag level) s = .next (s.answered 0xB9 tag [3])) ∧
    (∀ code : Byte, code ≠ 1 → code ≠ 2 → arrive 0x21 tag [code] s = .next (s.answered 0xA1 tag [3]))

/-- Accepted SET-SEGMENT, SET-CHANNEL, SET-RESOLVER, SET-SCAN and SET-POINT requests are answered DONE and replace the one
record they name; nothing else changes at the write (R1, R5, R6, R7, R10). -/
def Obligations.PlainSettingsReplaceOneRecord : Prop :=
  ∀ (s : State) (tag : Byte), s.ready → s.saveBusy = false →
    (∀ (g : Fin 3) (n : Byte), 1 ≤ n.toNat → n.toNat ≤ 40 →
      exec (.setSegment tag (encNumber g) n) s =
        .next ((s.setTables { s.tables with intervals := s.tables.intervals.put g n.toNat }).answered 0xB2 tag [0])) ∧
    (∀ (c : Fin 16) (trim : Byte) (low high : Half), -800 ≤ low.toInt → low.toInt < high.toInt → high.toInt ≤ 800 →
      exec (.setChannel tag (u8 c.val) trim low high) s =
        .next ((s.setTables { s.tables with channels := s.tables.channels.put c ⟨trim.toInt, low.toInt, high.toInt⟩ }).answered
          0xB4 tag [0])) ∧
    (∀ level : Byte, 1 ≤ level.toNat → level.toNat ≤ 9 →
      exec (.setResolver tag level) s =
        .next ((s.setTables { s.tables with autoAck := level.toNat }).answered 0xB9 tag [0])) ∧
    (∀ l : List (Fin 16), s.mode = .test → l ≠ [] → l.Nodup →
      exec (.setScan tag (l.map fun c => u8 c.val)) s =
        .next ((s.setTables { s.tables with scan := l }).answered 0xB5 tag [0])) ∧
    (∀ (p : Fin 48) (c : PointCfg), s.mode = .test → c.valid s.tables.coils = true →
      pointsConsistent (s.tables.points.put p c) = true →
      exec (.setPoint tag (encNumber p) (flagByte c.enabled) (encNumber c.segment) (u8 c.address) (encOptCoil c.coil)
          (flagByte c.included)) s =
        .next ((s.setTables { s.tables with points := s.tables.points.put p c }).answered 0xB3 tag [0]))

/-- SET-POINT's refusals of R6 in TEST: RANGE for an address outside 8..119 and for a point that names a coil whose unit field
differs from the point's segment, and CONFLICT where after the write two enabled points of one segment share an address, more
than 8 enabled points name one coil, or more than 16 enabled points sit on one segment. -/
def Obligations.PointWritesKeepTheirConditions : Prop :=
  ∀ (s : State) (tag : Byte) (p : Fin 48), s.ready → s.saveBusy = false → s.mode = .test →
    (∀ e g a c i : Byte, (a.toNat < 8 ∨ 119 < a.toNat) →
      exec (.setPoint tag (encNumber p) e g a c i) s = .next (s.answered 0xB3 tag [3])) ∧
    (∀ c : PointCfg, 8 ≤ c.address → c.address ≤ 119 →
      (∀ k, c.coil = some k → (s.cfg k).unit ≠ c.segment →
        exec (.setPoint tag (encNumber p) (flagByte c.enabled) (encNumber c.segment) (u8 c.address) (encOptCoil c.coil)
            (flagByte c.included)) s = .next (s.answered 0xB3 tag [3])) ∧
      ((∀ k, c.coil = some k → (s.cfg k).unit = c.segment) →
        ((∃ q r, q ≠ r ∧ ((s.tables.points.put p c).at q).enabled = true ∧ ((s.tables.points.put p c).at r).enabled = true ∧
            ((s.tables.points.put p c).at q).segment = ((s.tables.points.put p c).at r).segment ∧
            ((s.tables.points.put p c).at q).address = ((s.tables.points.put p c).at r).address) ∨
          (∃ k, 8 < (s.tables.points.put p c).toList.countP fun q => q.enabled && q.coil == some k) ∨
          (∃ g, 16 < (s.tables.points.put p c).toList.countP fun q => q.enabled && q.segment == g)) →
        exec (.setPoint tag (encNumber p) (flagByte c.enabled) (encNumber c.segment) (u8 c.address) (encOptCoil c.coil)
            (flagByte c.included)) s = .next (s.answered 0xB3 tag [4])))

/-- Accepted SET-UNIT and SET-OUTPUT requests are answered DONE, replace the one record they name, and the outputs stand
at their rules with the new record at once; stages, timers, exposure, demands and the other blocks stay (R5, R9, R128). -/
def Obligations.UnitAndOutputSettingsReachTheOutputs : Prop :=
  ∀ (s : State) (tag : Byte), s.ready → s.saveBusy = false →
    (∀ (u : Fin 3) (d st h : Half) (f : Byte), d.toNat ≤ 1000 → 10 ≤ st.toNat → st.toNat ≤ 300 → 5 ≤ f.toNat →
      f.toNat ≤ 180 → h.toNat ≤ 1800 →
      ∃ t, exec (.setUnit tag (encNumber u) d st f h) s = .next t ∧ holdsResponse s t 0xB1 tag [0] ∧
        t.tables = { s.tables with units := s.tables.units.put u ⟨d.toNat, st.toNat, f.toNat, h.toNat⟩ } ∧
        t.outputs = t.effective ∧ t.mode = s.mode ∧ t.demands = s.demands ∧ t.exposures = s.exposures ∧
        t.units = s.units ∧ t.faces = s.faces ∧ t.inputs = s.inputs ∧ t.store = s.store ∧ coilsSameButProve s t ∧
        sameOutside s t) ∧
    (∀ (o : Fin 18) (l : Byte) (code : Byte) (v : Half) (p : Policy),
      (code = 0 ∧ p = .holdLast ∨ code = 1 ∧ p = .fixed v.toNat ∧ v.toNat ≤ (if isPosition o then 1000 else 1)) →
      ∃ t, exec (.setOutput tag (encNumber o) l code v) s = .next t ∧ holdsResponse s t 0xB6 tag [0] ∧
        t.tables = { s.tables with outputs := s.tables.outputs.put o { lifetime := l.toNat, policy := p } } ∧
        t.outputs = t.effective ∧ t.mode = s.mode ∧ t.demands = s.demands ∧ t.exposures = s.exposures ∧
        t.units = s.units ∧ t.faces = s.faces ∧ t.inputs = s.inputs ∧ t.store = s.store ∧ coilsSameButProve s t ∧
        sameOutside s t)

/-- An accepted SET-INPUT is answered DONE and replaces the record (R9, R136, R137). With the polarity kept nothing else
changes. With the polarity inverted the level inverts: it starts a debounce period with the new debounce time where it now
differs from the debounced state, and stops the timer where it now agrees; with a debounce time of 0 the debounced state
follows at once. -/
def Obligations.InputSettingInvertsTheLevel : Prop :=
  ∀ (s : State) (tag : Byte) (i : Fin 15) (low : Bool) (d : Byte), s.ready → s.saveBusy = false → d.toNat ≤ 15 →
    (low = (s.tables.inputs.at i).activeLow →
      exec (.setInput tag (encNumber i) (flagByte low) d) s =
        .next ((s.setTables { s.tables with inputs := s.tables.inputs.put i { activeLow := low, debounce := d.toNat } }).answered
          0xB7 tag [0])) ∧
    (low ≠ (s.tables.inputs.at i).activeLow → (s.inputs.at i).debounced = (s.pins.at i != low) →
      exec (.setInput tag (encNumber i) (flagByte low) d) s =
        .next (((s.setTables { s.tables with inputs := s.tables.inputs.put i { activeLow := low, debounce := d.toNat } }).setInput
          i { debounced := (s.inputs.at i).debounced, timer := none }).answered 0xB7 tag [0])) ∧
    (low ≠ (s.tables.inputs.at i).activeLow → (s.inputs.at i).debounced ≠ (s.pins.at i != low) → 0 < d.toNat →
      exec (.setInput tag (encNumber i) (flagByte low) d) s =
        .next (((s.setTables { s.tables with inputs := s.tables.inputs.put i { activeLow := low, debounce := d.toNat } }).setInput
          i { debounced := (s.inputs.at i).debounced, timer := some (100 * d.toNat) }).answered 0xB7 tag [0])) ∧
    (low ≠ (s.tables.inputs.at i).activeLow → (s.inputs.at i).debounced ≠ (s.pins.at i != low) → d.toNat = 0 →
      ∃ t, exec (.setInput tag (encNumber i) (flagByte low) d) s = .next t ∧ holdsResponse s t 0xB7 tag [0] ∧
        t.tables = { s.tables with inputs := s.tables.inputs.put i { activeLow := low, debounce := 0 } } ∧
        t.inputs.at i = { debounced := s.pins.at i != low, timer := none } ∧
        (∀ j, j ≠ i → t.inputs.at j = s.inputs.at j))

/-- An accepted SET-SOURCE is answered DONE and replaces the class and mask (R10). With the mask kept nothing else changes at
the write, so a new class waits for the next selection (R145); with the mask changed a selection is made, and the blocks
other than the resolver and the transmit queue stay (R145, R151). -/
def Obligations.SourceSettingSelectsOnAMaskChange : Prop :=
  ∀ (s : State) (tag : Byte) (x : Fin 65) (c : Fin 8) (m : Bool), s.ready → s.saveBusy = false →
    (m = (s.tables.sources.at x).masked →
      exec (.setSource tag (u8 x.val) (encNumber c) (flagByte m)) s =
        .next ((s.setTables { s.tables with sources := s.tables.sources.put x { cls := c, masked := m } }).answered
          0xB8 tag [0])) ∧
    (m ≠ (s.tables.sources.at x).masked →
      ∃ t, exec (.setSource tag (u8 x.val) (encNumber c) (flagByte m)) s = .next t ∧ holdsResponse s t 0xB8 tag [0] ∧
        t.tables = { s.tables with sources := s.tables.sources.put x { cls := c, masked := m } } ∧
        t.alertLine = t.alertLineLevel ∧ (t.winner = none ∨ t.txFree < 2) ∧
        t.mode = s.mode ∧ t.coils = s.coils ∧ t.exposures = s.exposures ∧ t.units = s.units ∧ t.outputs = s.outputs ∧
        t.demands = s.demands ∧ t.faces = s.faces ∧ t.inputs = s.inputs ∧ t.store = s.store ∧ sameOutside s t)

/-- An accepted SET-COIL that keeps presence and unit is answered DONE and replaces the record; E, the band, the confirm count
and every stage stay, a trip history longer than the new lockout limit is cut to its newest entries, and the outputs stand at
their rules with the new G1 (R3, R4). A changed LWT channel sets the coil's crossing detector READY; with the LWT channel kept the
detectors stay (R31). -/
def Obligations.CoilRetuningKeepsStagesAndExposure : Prop :=
  ∀ (s : State) (tag : Byte) (k : Fin 6) (w : CoilWire) (c : CoilCfg), s.ready → s.saveBusy = false →
    coilCfgOf w = some c → c.present = (s.cfg k).present → c.unit = (s.cfg k).unit →
    (s.mode = .test ∨ structuralBytes w = structuralBytes (s.cfg k).toWire) →
    ∃ t, exec (.setCoil tag (encNumber k) w) s = .next t ∧ holdsResponse s t 0xB0 tag [0] ∧
      t.tables = { s.tables with coils := s.tables.coils.put k c } ∧ t.exposures = s.exposures ∧ t.faces = s.faces ∧
      t.units = s.units ∧ t.outputs = t.effective ∧ t.mode = s.mode ∧ t.demands = s.demands ∧ t.inputs = s.inputs ∧
      t.store = s.store ∧
      t.detectors = (if c.lwt = (s.cfg k).lwt then s.detectors else s.detectors.put k .ready) ∧
      t.told srcAnalogFault = t.analogFaultCondition ∧ (∀ u, t.told (srcDemandStale u) = t.demandStaleCondition u) ∧
      (t.coils.at k).history = (s.coils.at k).history.drop ((s.coils.at k).history.length - c.lockoutLimit) ∧
      (∀ j, (t.coils.at j).stage = (s.coils.at j).stage ∧ (t.coils.at j).holdDown = (s.coils.at j).holdDown ∧
        (t.coils.at j).settle = (s.coils.at j).settle ∧ (t.coils.at j).forced = (s.coils.at j).forced ∧
        (t.coils.at j).lockout = (s.coils.at j).lockout ∧ (t.coils.at j).tripRecord = (s.coils.at j).tripRecord ∧
        (j ≠ k → (t.coils.at j).history = (s.coils.at j).history)) ∧
      sameOutside s t

/-- A SET-COIL in TEST that changes the present or the unit field (R3, R4, R31, R48, R67, R86, R107, R110, R122). A coil made
present takes E 0 and confirm count 0, a BLIND face, its pump-prove state from its pump and FLOW, and LOCKOUT with band TRIP or SETTLE
with band CLEAR by its lockout flag; one made absent takes IDLE, E 0 and band CLEAR, keeps its trip record and leaves the coil set of
the open frame; with the lockout flag set its removal is refused with LOCKED. A present coil moved to another unit keeps its stage,
timers, history, face and exposure, and leaves the coil set of the open frame, so that its next close comes from its new unit's segment.
In each case its unit handles an event of R110, or the old and the new one each where the unit field changes; the outputs stand at
their rules, and DEMAND_STALE and the other level conditions concerned are told.
That a timer of 0 s expires within the event that starts it is read from the manual by inference (notes/assumptions/17.md). -/
def Obligations.PresenceChangesPlaceTheCoil : Prop :=
  ∀ (s : State) (tag : Byte) (k : Fin 6) (w : CoilWire) (c : CoilCfg), s.ready → s.saveBusy = false → s.mode = .test →
    coilCfgOf w = some c → ∀ kept : List Seconds,
      kept = (s.coils.at k).history.drop ((s.coils.at k).history.length - c.lockoutLimit) →
    ((s.cfg k).present = false → c.present = true →
      ∃ t, exec (.setCoil tag (encNumber k) w) s = .next t ∧ holdsResponse s t 0xB0 tag [0] ∧ coilRewired s t k c ∧
        (t.exposures.at k).e = 0 ∧ (t.exposures.at k).confirm = 0 ∧ t.faces.at k = Face.start ∧
        (t.coils.at k).holdDown = none ∧ (t.coils.at k).forced = false ∧ t.masters = s.masters ∧
        (t.coils.at k).lockout = (s.coils.at k).lockout ∧ (t.coils.at k).tripRecord = (s.coils.at k).tripRecord ∧
        (t.coils.at k).history = kept ∧
        (t.coils.at k).prove = (if t.outputs.pumps.at k then (if t.flow k then .proven else .proving) else .off) ∧
        (t.coils.at k).proveTimer = (if (t.coils.at k).prove = .proving then some c.proveLimit else none) ∧
        ((s.coils.at k).lockout = true → (t.coils.at k).stage = .lockout ∧ (t.coils.at k).settle = 0 ∧
          (t.exposures.at k).band = .trip) ∧
        ((s.coils.at k).lockout = false → (t.coils.at k).stage = .settle ∧ (t.coils.at k).settle = c.settleFrames ∧
          (t.exposures.at k).band = .clear)) ∧
    ((s.cfg k).present = true → c.present = false → (s.coils.at k).lockout = true →
      exec (.setCoil tag (encNumber k) w) s = .next (s.answered 0xB0 tag [7])) ∧
    ((s.cfg k).present = true → c.present = false → (s.coils.at k).lockout = false →
      ∃ t, exec (.setCoil tag (encNumber k) w) s = .next t ∧ holdsResponse s t 0xB0 tag [0] ∧ coilRewired s t k c ∧
        t.exposures.at k = { e := 0, band := .clear, confirm := 0 } ∧
        t.coils.at k = { s.coils.at k with
          stage := .idle, settle := 0, holdDown := none, prove := .off, proveTimer := none, forced := false,
          history := kept } ∧ t.faces = s.faces ∧
        (∀ g, t.masters.at g = { s.masters.at g with coilSet := (s.masters.at g).coilSet.filter fun j => j != k })) ∧
    ((s.cfg k).present = true → c.present = true → c.unit ≠ (s.cfg k).unit →
      ∃ t, exec (.setCoil tag (encNumber k) w) s = .next t ∧ holdsResponse s t 0xB0 tag [0] ∧ coilRewired s t k c ∧
        t.exposures = s.exposures ∧ t.faces = s.faces ∧
        (({ s.coils.at k with history := kept } : CoilSeq).sameButProve (t.coils.at k)) ∧
        (∀ g, t.masters.at g = { s.masters.at g with coilSet := (s.masters.at g).coilSet.filter fun j => j != k }))

/-! ## Plant modes and starts -/

/-- ARMED validation (R11): a coil's reason is 1, 2 or 3 by the first of the three tests that fails, and none where all pass; the
result names the lowest present coil that fails a test, with that reason, or is 0 and 0 where no present coil fails. -/
def Obligations.ValidationNamesTheFirstFailingCoil : Prop :=
  ∀ t : Tables,
    (∀ (k : Fin 6) (quorum segments channels : Prop),
      (quorum ↔ (t.coils.at k).quorum ≤ ((List.finRange 48).countP fun p =>
        (t.points.at p).enabled && (t.points.at p).coil == some k && (t.points.at p).included)) →
      (segments ↔ ∀ p, (t.points.at p).enabled = true → (t.points.at p).coil = some k →
        (t.points.at p).segment = (t.coils.at k).unit) →
      (channels ↔ ∀ c, ((t.coils.at k).lwt = some c ∨ (t.coils.at k).lat = some c) → c ∈ t.scan) →
      (t.failure k = some 1 ↔ ¬ quorum) ∧ (t.failure k = some 2 ↔ quorum ∧ ¬ segments) ∧
      (t.failure k = some 3 ↔ quorum ∧ segments ∧ ¬ channels) ∧ (t.failure k = none ↔ quorum ∧ segments ∧ channels)) ∧
    ((∀ k, (t.coils.at k).present = true → t.failure k = none) → t.validate = { coil := 0, reason := 0 }) ∧
    (∀ (k : Fin 6) (r : Nat), (t.coils.at k).present = true → t.failure k = some r →
      (∀ j, j < k → (t.coils.at j).present = true → t.failure j = none) →
      t.validate = { coil := k.val + 1, reason := r })

/-- SET-MODE ARMED (R13, R14): MODE from FALLBACK, DONE without change in ARMED, NOT_READY with the failing coil and reason from
TEST where validation fails, and otherwise ARMED, with every present coil in the stage its trip state requires or in SETTLE. A
unit in a shutdown stage with a present coil, none of whose coils is left tripped or locked out, takes RESTART_HOLD (R118,
R121). MODE_TEST is told false (R12). -/
def Obligations.ArmingPlacesEveryCoil : Prop :=
  ∀ (s : State) (tag : Byte), s.ready → s.saveBusy = false →
    (s.mode = .fallback → exec (.setModeArmed tag) s = .next (s.answered 0xA1 tag [2])) ∧
    (s.mode = .armed → exec (.setModeArmed tag) s = .next (s.answered 0xA1 tag [0])) ∧
    (s.mode = .test → s.tables.validate.reason ≠ 0 →
      exec (.setModeArmed tag) s = .next (({ s with validation := s.tables.validate } : State).answered 0xA1 tag
        [8, u8 s.tables.validate.coil, u8 s.tables.validate.reason])) ∧
    (s.mode = .test → s.tables.validate.reason = 0 →
      ∃ t, exec (.setModeArmed tag) s = .next t ∧ holdsResponse s t 0xA1 tag [0] ∧ t.mode = .armed ∧
        t.validation = s.tables.validate ∧ t.told srcModeTest = false ∧ t.outputs = t.effective ∧ t.exposures = s.exposures ∧ t.faces = s.faces ∧
        t.tables = s.tables ∧ t.demands = s.demands ∧ t.inputs = s.inputs ∧ t.store = s.store ∧ sameOutside s t ∧
        (∀ u, (s.units.at u).stage.shut = true → t.tripOf u = false → (∃ k, s.coilOf u k = true) →
          0 < (s.tables.units.at u).holdOff → (t.units.at u).stage = .restartHold ∧
            (t.units.at u).holdOff = some (s.tables.units.at u).holdOff ∧ (t.units.at u).stroke = none ∧
            (t.units.at u).fan = none) ∧
        ∀ k, (t.coils.at k).tripRecord = (s.coils.at k).tripRecord ∧ (t.coils.at k).history = (s.coils.at k).history ∧
          (t.coils.at k).lockout = (s.coils.at k).lockout ∧
          ((s.cfg k).present = false → (t.coils.at k).stage = (s.coils.at k).stage) ∧
          ((s.cfg k).present = true → (t.coils.at k).forced = false ∧
            ((s.coils.at k).forced = true →
              (t.coils.at k).stage = if (s.exposures.at k).band = .trip then .tripped else .settle) ∧
            ((s.coils.at k).forced = false →
              (t.coils.at k).stage = if (s.coils.at k).stage = .tripped ∨ (s.coils.at k).stage = .lockout
                then (s.coils.at k).stage else .settle) ∧
            ((t.coils.at k).stage = .settle → (t.coils.at k).settle = (s.cfg k).settleFrames ∧
              (t.coils.at k).holdDown = none)))

/-- SET-MODE TEST (R13): DONE from any mode; in TEST no state changes; from ARMED every stage, E, band and forced flag stands;
from FALLBACK each present coil takes LOCKOUT with band TRIP or SETTLE with band CLEAR by its lockout flag, with E 0. Entering TEST tells
MODE_TEST true (R12). -/
def Obligations.TestEntryFromEveryMode : Prop :=
  ∀ (s : State) (tag : Byte), s.ready → s.saveBusy = false →
    (s.mode = .test → exec (.setModeTest tag) s = .next (s.answered 0xA1 tag [0])) ∧
    (s.mode = .armed → ∃ t, exec (.setModeTest tag) s = .next t ∧ holdsResponse s t 0xA1 tag [0] ∧ t.mode = .test ∧
      t.told srcModeTest = true ∧ t.units = s.units ∧ t.exposures = s.exposures ∧ coilsSameButProve s t ∧ t.outputs = t.effective ∧
      t.tables = s.tables ∧ t.demands = s.demands ∧ t.faces = s.faces ∧ t.inputs = s.inputs ∧ t.store = s.store ∧
      sameOutside s t) ∧
    (s.mode = .fallback → ∃ t, exec (.setModeTest tag) s = .next t ∧ holdsResponse s t 0xA1 tag [0] ∧ t.mode = .test ∧
      t.told srcModeTest = true ∧ t.outputs = t.effective ∧ t.tables = s.tables ∧ t.demands = s.demands ∧ t.faces = s.faces ∧ t.inputs = s.inputs ∧
      t.store = s.store ∧ sameOutside s t ∧
      (∀ k, (s.cfg k).present = true → (t.exposures.at k).e = 0 ∧ (t.exposures.at k).confirm = 0 ∧
        ((s.coils.at k).lockout = true → (t.coils.at k).stage = .lockout ∧ (t.exposures.at k).band = .trip) ∧
        ((s.coils.at k).lockout = false → (t.coils.at k).stage = .settle ∧ (t.exposures.at k).band = .clear ∧
          (t.coils.at k).settle = (s.cfg k).settleFrames)) ∧
      (∀ u, t.tripOf u = true → (t.units.at u).stage = .closing ∨ (t.units.at u).stage = .secured) ∧
      (∀ u, t.tripOf u = false → (t.units.at u).stage = if t.temperOf u then .temper else .run))

/-- COLD_START begins a start from any state, and WARM_START only where an accepted RESTART's DONE response has left the
transmitter and no store job is in flight or pending (R16, R17): outputs in the fallback posture, the link, the resolver and the
store queue emptied, the sampler, the masters and the unit timers abandoned; everything else stands. COLD_START and POWER_LOSS
abandon the store's job (R22): an abandoned ERASE or PROGRAM leaves its region failing its check, and an abandoned VERIFY leaves it
as its PROGRAM wrote it. Where its condition does not hold WARM_START leaves the state (the model's choice,
notes/assumptions/13.md). That POWER_LOSS leaves working memory, the output pins and the ALERT line as they stood is the model's choice
(notes/assumptions/20.md), and so is that a region failing its check keeps the contents of its record (notes/assumptions/12.md). -/
def Obligations.StartsAndPowerLossAbandonWorkInFlight : Prop :=
  ∀ s : State,
    (∃ t, exec .coldStart s = .next t ∧ t.power = .starting true ∧ s.begun t) ∧
    (∀ due : Prop,
      (due ↔ s.power = .running ∧ s.link.restartAccepted = true ∧
        (∀ f, .response f ∈ s.link.txQueue → ¬ (f.kind = 0xC1 ∧ f.payload = [0])) ∧ s.storeBusy = false) →
      (due → ∃ t, exec .warmStart s = .next t ∧ t.power = .starting false ∧ s.begun t ∧ t.image = s.image ∧ t.area = s.area) ∧
      (¬ due → exec .warmStart s = .next s)) ∧
    (∃ t, exec .powerLoss s = .next t ∧ s.regionsLeft t ∧
      t = { s with power := .off, store := Store.idle, image := t.image, area := t.area })

/-- RESTART (R17, R162): BUSY while any store job is in flight or pending, and otherwise DONE, after which no dispatch succeeds. -/
def Obligations.RestartHoldsDispatch : Prop :=
  ∀ (s : State) (tag : Byte), s.ready →
    (s.storeBusy = true → exec (.restart tag) s = .next (s.answered 0xC1 tag [1])) ∧
    (s.storeBusy = false → exec (.restart tag) s =
      .next ((s.setLink { s.link with restartAccepted := true }).answered 0xC1 tag [0]))

/-- START_COMPLETE completes the start in progress (R16): the tables are the image's or the defaults, the mode follows the table
of R16 with its validation result, the clock and the trip records are those of the kind of start, the lockout flags are the
area's or clear, and the two store flags and the LOCKOUT-WRITE of a failed area follow the checks.
The image passes where its CRC-16 is that of its format number and tables, the format number is 1 and every record passes its checks,
and the area where its CRC-16 is that of its flags (R16, R18). Which checks a record passes is read from the manual by inference
(notes/assumptions/15.md); the bytes that a region's CRC-16 covers (notes/assumptions/12.md), the strap as the command's operand
and a warm start that keeps a history longer than the loaded limit are the model's choices (notes/assumptions/18.md and 28.md). -/
def Obligations.StartCompletionLoadsAndChoosesTheMode : Prop :=
  ∀ (s : State) (cold : Bool) (strap : Strap), s.power = .starting cold → s.store = Store.idle →
    (s.image.passes = true ↔ s.image.crc = crc16 (u8 s.image.format :: s.image.tables.bytes) ∧ s.image.format = 1 ∧
      s.image.tables.valid = true) ∧
    (s.area.crcMatches = true ↔ s.area.crc = crc16 [u8 (flagBits s.area.flags.toList)]) ∧
    ∃ t, exec (.startComplete strap) s = .next t ∧ t.power = .running ∧ t.strap = strap ∧
      t.tables = (if s.image.passes then s.image.tables else Tables.default) ∧
      t.plantSeconds = (if cold then 0 else s.plantSeconds) ∧
      (strap = .bench → t.mode = .test ∧ t.validation = { coil := 0, reason := 0 }) ∧
      (strap = .field → s.image.passes = false → t.mode = .fallback ∧ t.validation = { coil := 0, reason := 0 }) ∧
      (strap = .field → s.image.passes = true → t.validation = s.image.tables.validate ∧
        t.mode = if s.image.tables.validate.reason = 0 then .armed else .fallback) ∧
      t.imageInvalid = !(s.image.passes && s.area.crcMatches) ∧ t.areaDirty = !s.area.crcMatches ∧
      t.image = s.image ∧ t.area = s.area ∧
      (s.area.crcMatches = true → t.store = Store.idle) ∧
      (s.area.crcMatches = false → t.store = { job := some ⟨.lockoutWrite, .areaProgram (Tab.build fun _ => false)⟩,
                                                pendingSave := none, pendingLockout := false }) ∧
      (∀ k, (t.coils.at k).lockout = (s.area.crcMatches && s.area.flags.at k) ∧
        (t.coils.at k).tripRecord = (if cold then none else (s.coils.at k).tripRecord) ∧
        (t.coils.at k).history = (if cold then [] else (s.coils.at k).history))

/-- The records that START_COMPLETE leaves: the coils with their prove timers (R105), the faces, detectors and exposure records
(R31, R55, R85), the units with their timers, missing proofs and closing second (R113, R120), the masters, point health, channels,
scan, demands, inputs and link (R23, R29, R37, R49, R124, R136, R167), and the level conditions raised at completion: every level
source is told its block's condition, no BUS_FAULT holds, and from the resolver that a start's beginning leaves a level source is in
a collection exactly while its condition is true (R44, R153). -/
def Obligations.StartCompletionSetsEveryRecord : Prop :=
  ∀ (s : State) (cold : Bool) (strap : Strap), s.power = .starting cold →
    ∃ t, exec (.startComplete strap) s = .next t ∧
      (∀ k, t.faces.at k = Face.start ∧ t.detectors.at k = .ready ∧ (t.coils.at k).forced = false ∧
        (t.coils.at k).holdDown = none ∧ (t.exposures.at k).e = 0 ∧ (t.exposures.at k).confirm = 0 ∧
        (t.mode = .fallback ∨ (t.cfg k).present = false →
          (t.coils.at k).stage = .idle ∧ (t.coils.at k).settle = 0 ∧ (t.exposures.at k).band = .clear) ∧
        (t.mode ≠ .fallback → (t.cfg k).present = true → (t.coils.at k).lockout = true →
          (t.coils.at k).stage = .lockout ∧ (t.coils.at k).settle = 0 ∧ (t.exposures.at k).band = .trip) ∧
        (t.mode ≠ .fallback → (t.cfg k).present = true → (t.coils.at k).lockout = false →
          (t.coils.at k).stage = .settle ∧ (t.coils.at k).settle = (t.cfg k).settleFrames ∧
          (t.exposures.at k).band = .clear) ∧
        ((t.cfg k).present = true → (t.coils.at k).prove =
          if t.outputs.pumps.at k then (if t.flow k then .proven else .proving) else .off) ∧
        ((t.cfg k).present = false → (t.coils.at k).prove = .off) ∧
        (t.coils.at k).proveTimer = (if (t.coils.at k).prove = .proving then some (t.cfg k).proveLimit else none)) ∧
      (∀ (u : Fin 3) (r : UnitRec),
        r = { stage := .idle, temper := t.temperOf u, trip := t.tripOf u, stroke := none, fan := none, holdOff := none,
              missingDamper := false, missingFan := false, closingSecond := none } →
        (t.mode = .fallback → t.units.at u = { r with temper := false, trip := false }) ∧
        (t.mode ≠ .fallback → r.trip = false → t.units.at u = { r with stage := if r.temper then .temper else .run }) ∧
        (t.mode ≠ .fallback → r.trip = true → (t.damperProof u = false ∨ t.fanProof u = false) →
          t.units.at u = { r with stage := .closing, stroke := some (t.tables.units.at u).strokeLimit,
                                  fan := some (t.tables.units.at u).fanStopLimit, closingSecond := some t.plantSeconds }) ∧
        (t.mode ≠ .fallback → r.trip = true → t.damperProof u = true → t.fanProof u = true →
          t.units.at u = { r with stage := .secured, closingSecond := some t.plantSeconds } ∧ raised s t (srcSecured u))) ∧
      (∀ g, (t.masters.at g).state = .idle ∧ (t.masters.at g).snapshot = [] ∧ (t.masters.at g).framesOpened = 0 ∧
        (t.masters.at g).framesCutShort = 0 ∧ (t.masters.at g).busFault = false ∧
        (t.masters.at g).frameTimer = some (t.tables.intervals.at g) ∧
        (t.masters.at g).intervalAtOpen = t.tables.intervals.at g) ∧
      (∀ p, t.health.at p = Health.start) ∧
      (∀ c, t.channels.at c = { code := 0, temperature := 0, conversions := 0,
                                status := if c ∈ t.tables.scan then .never else .notScanned }) ∧
      t.sampler = { passList := t.tables.scan, position := 1 } ∧
      (∀ o, t.demands.at o = { value := 0, received := false, fresh := false, timer := none }) ∧
      (∀ i, t.inputs.at i = { debounced := t.inputLevel i, timer := none }) ∧
      t.outputs = t.effective ∧ t.link.receiver = .idle ∧ t.link.rxBuffer = [] ∧ t.link.errorCount = 0 ∧
      t.link.lastError = .none ∧ t.link.restartAccepted = false ∧
      (∀ k, t.told (srcTrip k) = t.tripCondition k ∧ t.told (srcLockout k) = t.lockoutCondition k ∧
        t.told (srcPumpFail k) = t.pumpFailCondition k ∧ t.told (srcBlind k) = t.blindCondition k) ∧
      (∀ u, t.told (srcSecureFault u) = t.secureFaultCondition u ∧
        t.told (srcDemandStale u) = t.demandStaleCondition u) ∧
      t.told srcAnalogFault = t.analogFaultCondition ∧ t.told srcImageInvalid = t.imageInvalidCondition ∧
      t.told srcModeTest = t.modeTestCondition ∧
      (s.alerts = Alerts.start → (∀ u, t.told (srcBusFault u) = false) ∧
        ∀ x, isLevel x = true → (t.told x = true ↔ (t.alerts.sources.at x).membership ≠ .none))

/-- Plant seconds advance by one each second of a running part, below the top of the 32-bit count (R16), where a free value follows
(notes/assumptions/1.md); the timers counted in seconds lose one second and nothing else changes. That a timer stays at its last
second until its expiry is taken is the model's choice (notes/assumptions/4.md). -/
def Obligations.PlantSecondAdvancesTheClock : Prop :=
  (∀ n : Nat, countDown none = none ∧ countDown (some n) = some (if n ≤ 1 then n else n - 1)) ∧
  ∀ s : State, s.power = .running →
    ∃ t, exec .plantSecondTick s = .next t ∧
      t = { s with plantSeconds := t.plantSeconds, freeUses := t.freeUses, coils := t.coils, units := t.units,
                   demands := t.demands } ∧
      (s.plantSeconds ≠ BitVec.allOnes 32 → t.plantSeconds = s.plantSeconds + 1 ∧ t.freeUses = s.freeUses) ∧
      (s.plantSeconds = BitVec.allOnes 32 →
        t.plantSeconds = Config.plantSecondsAfterTop s.freeUses ∧ t.freeUses = s.freeUses + 1) ∧
      (∀ k, t.coils.at k = { s.coils.at k with
        holdDown := countDown (s.coils.at k).holdDown, proveTimer := countDown (s.coils.at k).proveTimer }) ∧
      (∀ u, t.units.at u = { s.units.at u with
        stroke := countDown (s.units.at u).stroke, fan := countDown (s.units.at u).fan,
        holdOff := countDown (s.units.at u).holdOff }) ∧
      (∀ o, t.demands.at o = { s.demands.at o with timer := countDown (s.demands.at o).timer })

/-! ## The store -/

/-- An accepted SAVE starts at once with a snapshot of the tables, or waits with it behind a LOCKOUT-WRITE (R19). -/
def Obligations.SaveTakesItsSnapshotAtAcceptance : Prop :=
  ∀ (s : State) (tag : Byte), s.ready → s.saveBusy = false →
    (s.store.job = none → exec (.save tag) s =
      .next ((s.setStore { s.store with job := some ⟨.save s.tables, .imageErase⟩ }).answered 0xC0 tag [0])) ∧
    (∀ j, s.store.job = some j → exec (.save tag) s =
      .next ((s.setStore { s.store with pendingSave := some s.tables }).answered 0xC0 tag [0]))

/-- The phases of a job in their order, and what each leaves (R20, R21): a completed ERASE or PROGRAM goes on to the next phase,
a VERIFY passes or fails by its comparison, and a time limit taken first fails the phase; the flags and the job after it follow the
table of R21 and R19. Nothing outside the store changes but the alerts. The completion that follows its phase's expiry is
disregarded (R20); that the command tells which phase it completes is the model's form (notes/assumptions/30.md). With no job in
flight the two commands leave the state (the model's choice, notes/assumptions/5.md). That a completed ERASE and an image VERIFY
failed on its limit leave the image failing its check is read from the manual by inference (notes/assumptions/16.md). A completed
PROGRAM leaves its region with the CRC-16 of what it wrote (R18, R20); the bytes that the CRC-16 covers are the model's choice
(notes/assumptions/12.md). -/
def Obligations.StorePhasesFollowTheirTable : Prop :=
  ∀ s : State, s.power = .running →
    exec (.storePhaseComplete .late) s = .next s ∧
    (s.settled → s.store.job = none →
      (∀ same, exec (.storePhaseComplete (.ofPhase same)) s = .next s) ∧ exec .storePhaseLimitExpiry s = .next s) ∧
    (∀ j, s.store.job = some j →
      (∀ same, j.phase = .imageErase → ∃ t, exec (.storePhaseComplete (.ofPhase same)) s = .next t ∧ onlyStore s t ∧
        t.store = { s.store with job := some ⟨j.kind, .imageProgram⟩ } ∧ t.image.crcMatches = false ∧ t.area = s.area ∧
        t.imageInvalid = s.imageInvalid ∧ t.areaDirty = s.areaDirty) ∧
      (∀ same tables, j.phase = .imageProgram → j.kind = .save tables →
        ∃ t, exec (.storePhaseComplete (.ofPhase same)) s = .next t ∧ onlyStore s t ∧
          t.store = { s.store with job := some ⟨j.kind, .imageVerify⟩ } ∧
          t.image = { format := 1, tables := tables, crc := crc16 (u8 1 :: tables.bytes) } ∧ t.area = s.area ∧
          t.imageInvalid = s.imageInvalid ∧ t.areaDirty = s.areaDirty) ∧
      (j.phase = .imageVerify → ∃ t, exec (.storePhaseComplete (.ofPhase true)) s = .next t ∧ onlyStore s t ∧ t.image = s.image ∧
        t.area = s.area ∧ t.imageInvalid = false ∧ t.told srcImageInvalid = false ∧ t.areaDirty = s.areaDirty ∧
        raised s t srcStoreDone ∧
        (s.areaDirty = false → t.store = s.storeAfter) ∧
        (s.areaDirty = true → t.store = { s.store with
          job := some ⟨j.kind, .areaProgram (Tab.build fun k => (s.coils.at k).lockout)⟩ })) ∧
      (∀ c : Instr,
        (j.phase = .imageVerify ∧ c = .storePhaseComplete (.ofPhase false) ∨
          c = .storePhaseLimitExpiry ∧ (j.phase = .imageErase ∨ j.phase = .imageProgram ∨ j.phase = .imageVerify)) →
        ∃ t, exec c s = .next t ∧ onlyStore s t ∧ t.image.crcMatches = false ∧ t.area = s.area ∧ t.imageInvalid = true ∧
          t.told srcImageInvalid = true ∧ t.areaDirty = s.areaDirty ∧ raised s t srcStoreFail ∧ t.store = s.storeAfter) ∧
      (∀ same flags, j.phase = .areaProgram flags → ∃ t, exec (.storePhaseComplete (.ofPhase same)) s = .next t ∧ onlyStore s t ∧
        t.store = { s.store with job := some ⟨j.kind, .areaVerify flags⟩ } ∧ t.image = s.image ∧
        t.area = { flags := flags, crc := crc16 [u8 (flagBits flags.toList)] } ∧ t.imageInvalid = s.imageInvalid ∧ t.areaDirty = s.areaDirty) ∧
      (∀ flags, j.phase = .areaVerify flags → ∃ t, exec (.storePhaseComplete (.ofPhase true)) s = .next t ∧ onlyStore s t ∧
        t.store = s.storeAfter ∧ t.image = s.image ∧ t.area = s.area ∧ t.imageInvalid = s.imageInvalid ∧
        t.areaDirty = false) ∧
      (∀ (c : Instr) flags,
        (j.phase = .areaVerify flags ∧ (c = .storePhaseComplete (.ofPhase false) ∨ c = .storePhaseLimitExpiry) ∨
          j.phase = .areaProgram flags ∧ c = .storePhaseLimitExpiry) →
        ∃ t, exec c s = .next t ∧ onlyStore s t ∧ t.store = s.storeAfter ∧ t.image = s.image ∧
          t.imageInvalid = s.imageInvalid ∧ t.areaDirty = true ∧ raised s t srcStoreFail ∧
          (j.phase = .areaVerify flags → c = .storePhaseLimitExpiry → t.area = s.area) ∧
          ((j.phase = .areaProgram flags ∨ c = .storePhaseComplete (.ofPhase false)) → t.area.crcMatches = false)))

/-! ## Demands, acknowledgments and resets -/

/-- PUT-DEMAND (R125, R126) and the lifetime's expiry (R127): an id outside 1..18 refuses the whole request; otherwise each named
output holds its last pair's value, received and FRESH, with its lifetime started, the outputs stand at their rules and
DEMAND_STALE of every unit is told. An expiry makes the record STALE and keeps its value; outputs not named keep their
records. An expiry of a stopped timer leaves the state (the model's choice, notes/assumptions/5.md). -/
def Obligations.DemandsAreStoredWholeAndExpire : Prop :=
  ∀ s : State,
    (∀ (tag : Byte) (pairs : List (Byte × Half)), s.ready → pairs.length ≤ 18 →
      (∃ p ∈ pairs, p.1.toNat = 0 ∨ 18 < p.1.toNat) →
      exec (.putDemand tag pairs) s = .next (s.answered 0x90 tag [3])) ∧
    (∀ (tag : Byte) (l : List (Fin 18 × Half)), s.ready → 1 ≤ l.length → l.length ≤ 18 →
      ∃ t, exec (.putDemand tag (l.map fun p => (encNumber p.1, p.2))) s = .next t ∧ holdsResponse s t 0x90 tag [0] ∧
        (∀ o, (∀ p ∈ l, p.1 ≠ o) → t.demands.at o = s.demands.at o) ∧
        (∀ o v front back, l = front ++ (o, v) :: back → (∀ p ∈ back, p.1 ≠ o) →
          (t.demands.at o).value = (if isPosition o then min v.toNat 1000 else if v = 0 then 0 else 1) ∧
          (t.demands.at o).received = true ∧ (t.demands.at o).fresh = true ∧
          (t.demands.at o).timer =
            (if (s.tables.outputs.at o).lifetime = 0 then none else some (s.tables.outputs.at o).lifetime)) ∧
        onlyProtection { s with demands := t.demands } t ∧ t.exposures = s.exposures ∧ t.units = s.units ∧
        t.store = s.store ∧ coilsSameButProve s t ∧ t.outputs = t.effective ∧
        (∀ u, t.told (srcDemandStale u) = t.demandStaleCondition u)) ∧
    (∀ o, s.power = .running → s.settled → (s.demands.at o).timer = none → exec (.demandLifetimeExpiry o) s = .next s) ∧
    (∀ o n, s.power = .running → (s.demands.at o).timer = some n →
      ∃ t, exec (.demandLifetimeExpiry o) s = .next t ∧
        t.demands = s.demands.put o { s.demands.at o with timer := none, fresh := false } ∧
        onlyProtection { s with demands := t.demands } t ∧ t.exposures = s.exposures ∧ t.units = s.units ∧
        t.store = s.store ∧ coilsSameButProve s t ∧ t.outputs = t.effective ∧
        (∀ u, t.told (srcDemandStale u) = t.demandStaleCondition u))

/-- ACK-SOURCE and ACK-TOP (R149, R150): RANGE above 64, NOT_READY for a source that is not in service or an empty stack, and
otherwise DONE: the entry leaves the stack, the others keep their order beneath what a selection pushes, and the source goes to
the standing set if it is a level source whose condition is true and to no collection if not. -/
def Obligations.AcknowledgmentTakesTheSourceOutOfService : Prop :=
  ∀ (s : State) (tag : Byte), s.ready →
    (∀ b : Byte, 64 < b.toNat → exec (.ackSource tag b) s = .next (s.answered 0x98 tag [3])) ∧
    (∀ x : Fin 65, (∀ e ∈ s.alerts.stack, e.source ≠ x) →
      exec (.ackSource tag (u8 x.val)) s = .next (s.answered 0x98 tag [8])) ∧
    (s.alerts.stack = [] → exec (.ackTop tag) s = .next (s.answered 0x99 tag [8])) ∧
    (∀ x : Fin 65, (∃ e ∈ s.alerts.stack, e.source = x) →
      ∃ t, exec (.ackSource tag (u8 x.val)) s = .next t ∧ holdsResponse s t 0x98 tag [0] ∧ onlyAlerts s t ∧
        (∃ new, t.alerts.stack = new ++ s.alerts.stack.filter fun e => e.source != x) ∧
        (t.alerts.sources.at x).membership = (if isLevel x ∧ s.told x = true then .standing else .none) ∧
        t.told x = s.told x) ∧
    (∀ top rest, s.alerts.stack = top :: rest →
      ∃ t, exec (.ackTop tag) s = .next t ∧ holdsResponse s t 0x99 tag [0, u8 top.source.val] ∧ onlyAlerts s t ∧
        (∃ new, t.alerts.stack = new ++ rest.filter fun e => e.source != top.source) ∧
        (t.alerts.sources.at top.source).membership =
          (if isLevel top.source ∧ s.told top.source = true then .standing else .none))

/-- TRIP-RESET (R99, R100): the checks in their order, each with its reason byte, and the effect of an accepted reset: band
CLEAR, confirm count 0, E kept, GUARD with the hold-down restarted (WATCH where the hold-down is 0 s, R92), and the trip record
and history kept; the coil's unit handles the stage change as an event of R110, moving its stage, timers and missing proofs by
R112, R118 and R119.
That a timer of 0 s expires within the event that starts it is read from the manual by inference (notes/assumptions/17.md). -/
def Obligations.TripResetChecksInOrderAndReturnsToGuard : Prop :=
  ∀ (s : State) (tag : Byte), s.ready →
    (∀ b : Byte, (b.toNat = 0 ∨ 6 < b.toNat) → exec (.tripReset tag b) s = .next (s.answered 0xA0 tag [3, 0])) ∧
    ∀ k : Fin 6,
      ((s.cfg k).present = false → exec (.tripReset tag (encNumber k)) s = .next (s.answered 0xA0 tag [9, 0])) ∧
      ((s.cfg k).present = true → (s.coils.at k).stage = .lockout →
        exec (.tripReset tag (encNumber k)) s = .next (s.answered 0xA0 tag [7, 0])) ∧
      ((s.cfg k).present = true → (s.coils.at k).stage ≠ .lockout → (s.coils.at k).forced = true →
        exec (.tripReset tag (encNumber k)) s = .next (s.answered 0xA0 tag [8, 4])) ∧
      ((s.cfg k).present = true → (s.coils.at k).stage ≠ .lockout → (s.coils.at k).forced = false →
        (s.coils.at k).stage ≠ .tripped →
        exec (.tripReset tag (encNumber k)) s = .next (s.answered 0xA0 tag [8, 0])) ∧
      ((s.cfg k).present = true → (s.coils.at k).stage = .tripped → (s.coils.at k).forced = false →
        ((s.cfg k).recover < (s.exposures.at k).e →
          exec (.tripReset tag (encNumber k)) s = .next (s.answered 0xA0 tag [8, 1])) ∧
        ((s.exposures.at k).e ≤ (s.cfg k).recover → (s.faces.at k).state = .blind →
          exec (.tripReset tag (encNumber k)) s = .next (s.answered 0xA0 tag [8, 2])) ∧
        ((s.exposures.at k).e ≤ (s.cfg k).recover → (s.faces.at k).state ≠ .blind →
          (∀ h, (s.faces.at k).held = some h → h ≤ (s.cfg k).phi + 16) →
          exec (.tripReset tag (encNumber k)) s = .next (s.answered 0xA0 tag [8, 3])) ∧
        (∀ h, (s.exposures.at k).e ≤ (s.cfg k).recover → (s.faces.at k).state ≠ .blind → (s.faces.at k).held = some h →
          (s.cfg k).phi + 16 < h →
          ∃ t, exec (.tripReset tag (encNumber k)) s = .next t ∧ holdsResponse s t 0xA0 tag [0, 0] ∧ onlyProtection s t ∧
            t.exposures = s.exposures.put k { s.exposures.at k with band := .clear, confirm := 0 } ∧
            (t.coils.at k).tripRecord = (s.coils.at k).tripRecord ∧ (t.coils.at k).history = (s.coils.at k).history ∧
            (t.coils.at k).lockout = (s.coils.at k).lockout ∧ (t.coils.at k).settle = 0 ∧
            (0 < (s.cfg k).holdDown →
              (t.coils.at k).stage = .guard ∧ (t.coils.at k).holdDown = some (s.cfg k).holdDown) ∧
            ((s.cfg k).holdDown = 0 → (t.coils.at k).stage = .watch ∧ (t.coils.at k).holdDown = none) ∧
            (∀ j, j ≠ k → (s.coils.at j).sameButProve (t.coils.at j)) ∧ t.outputs = t.effective ∧ t.store = s.store ∧
            onlyUnitMoved s t (s.cfg k).unit ∧ t.told (srcTrip k) = false))

/-- FORCE-STAGE and RELEASE-STAGE (R102, R104): their refusals in TEST, and their effect. A force sets the stage and the forced
flag, stops the hold-down timer and clears settle remaining; a release goes to TRIPPED for a band of TRIP and to SETTLE with its
count loaded for any other. Neither writes a trip record, a history entry or a band. The coil's unit handles the stage change as an
event of R110: RUN and TEMPER follow its conditions, CLOSING starts both timers and sets the closing second, RESTART_HOLD starts
the hold-off timer (R112, R113, R118, R119).
That a timer of 0 s expires within the event that starts it is read from the manual by inference (notes/assumptions/17.md). -/
def Obligations.ForcedStagesAreSetAndReleased : Prop :=
  ∀ (s : State) (tag : Byte), s.ready →
    (∀ c st : Byte, (c.toNat = 0 ∨ 6 < c.toNat ∨ st.toNat < 2 ∨ 5 < st.toNat) →
      exec (.forceStage tag c st) s = .next (s.answered 0xA2 tag [3])) ∧
    (∀ c : Byte, (c.toNat = 0 ∨ 6 < c.toNat) → exec (.releaseStage tag c) s = .next (s.answered 0xA3 tag [3])) ∧
    ∀ k : Fin 6, s.mode = .test →
      ((s.cfg k).present = false → (∀ b : Byte, 2 ≤ b.toNat → b.toNat ≤ 5 →
          exec (.forceStage tag (encNumber k) b) s = .next (s.answered 0xA2 tag [9])) ∧
        exec (.releaseStage tag (encNumber k)) s = .next (s.answered 0xA3 tag [9])) ∧
      ((s.cfg k).present = true → (s.coils.at k).stage = .lockout → ∀ b : Byte, 2 ≤ b.toNat → b.toNat ≤ 5 →
        exec (.forceStage tag (encNumber k) b) s = .next (s.answered 0xA2 tag [7])) ∧
      ((s.cfg k).present = true → (s.coils.at k).forced = false →
        exec (.releaseStage tag (encNumber k)) s = .next (s.answered 0xA3 tag [8])) ∧
      (∀ st : CoilStage, (s.cfg k).present = true → (s.coils.at k).stage ≠ .lockout →
        (st = .watch ∨ st = .guard ∨ st = .boost ∨ st = .tripped) →
        ∃ t, exec (.forceStage tag (encNumber k) st.code) s = .next t ∧ holdsResponse s t 0xA2 tag [0] ∧ onlyProtection s t ∧
          (({ s.coils.at k with stage := st, forced := true, holdDown := none, settle := 0 } : CoilSeq).sameButProve
            (t.coils.at k)) ∧
          (∀ j, j ≠ k → (s.coils.at j).sameButProve (t.coils.at j)) ∧ t.exposures = s.exposures ∧ t.store = s.store ∧
          onlyUnitMoved s t (s.cfg k).unit ∧ t.outputs = t.effective ∧ t.told (srcTrip k) = (st == .tripped)) ∧
      ((s.cfg k).present = true → (s.coils.at k).forced = true →
        ∃ t, exec (.releaseStage tag (encNumber k)) s = .next t ∧ holdsResponse s t 0xA3 tag [0] ∧ onlyProtection s t ∧
          (t.coils.at k).forced = false ∧ (t.coils.at k).holdDown = none ∧
          ((s.exposures.at k).band = .trip → (t.coils.at k).stage = .tripped ∧ (t.coils.at k).settle = 0) ∧
          ((s.exposures.at k).band ≠ .trip →
            (t.coils.at k).stage = .settle ∧ (t.coils.at k).settle = (s.cfg k).settleFrames) ∧
          (t.coils.at k).tripRecord = (s.coils.at k).tripRecord ∧ (t.coils.at k).history = (s.coils.at k).history ∧
          (t.coils.at k).lockout = (s.coils.at k).lockout ∧
          (∀ j, j ≠ k → (s.coils.at j).sameButProve (t.coils.at j)) ∧ t.exposures = s.exposures ∧ t.store = s.store ∧
          onlyUnitMoved s t (s.cfg k).unit ∧ t.outputs = t.effective)

/-! ## The sampler -/

/-- A conversion's completion (R23 to R28, R32, R35): the code and the count, WIRE with the temperature kept, or the converted
and clamped temperature with OK or IMPLAUSIBLE; the crossing detectors of an OK result, at the last entry of a pass too; the next
entry or the next pass, which marks the channels it drops; ANALOG_FAULT told. With no conversion in flight the command leaves the
state (the model's choice, notes/assumptions/5.md). -/
def Obligations.ConversionsFollowTheirCode : Prop :=
  ∀ (s : State) (code : BitVec 12), s.power = .running →
    (s.settled → s.sampler.channel = none → exec (.conversionComplete code) s = .next s) ∧
    (∀ c, s.sampler.channel = some c →
      ∃ t, exec (.conversionComplete code) s = .next t ∧ onlySampler s t ∧
        t.told srcAnalogFault = t.analogFaultCondition ∧
        (t.channels.at c).code = code.toNat ∧
        (t.channels.at c).conversions = (if (s.channels.at c).conversions < 65535 then (s.channels.at c).conversions + 1
          else (s.channels.at c).conversions) ∧
        (∀ wire good : Prop, (wire ↔ code.toNat < 20 ∨ 4075 < code.toNat) →
          (good ↔ ¬ wire ∧ (s.tables.channels.at c).low ≤ (t.channels.at c).temperature ∧
            (t.channels.at c).temperature ≤ (s.tables.channels.at c).high) →
          (wire → (t.channels.at c).temperature = (s.channels.at c).temperature) ∧
          (¬ wire → (t.channels.at c).temperature =
            max (-800) (min 800 (((code.toNat * 1600 / 4095 : Nat) : Int) - 800 + (s.tables.channels.at c).trim))) ∧
          ((s.sampler.position < s.sampler.passList.length ∨ c ∈ s.tables.scan) →
            (wire → (t.channels.at c).status = .wire) ∧ (good → (t.channels.at c).status = .ok) ∧
            (¬ wire → ¬ good → (t.channels.at c).status = .implausible)) ∧
          (¬ good → t.detectors = s.detectors) ∧
          (good → ∀ k, (s.cfg k).present = true → (s.cfg k).lwt = some c →
            (s.detectors.at k = .ready → (t.channels.at c).temperature < (s.cfg k).lambda →
              t.detectors.at k = .latched ∧ raised s t (srcWaterCold k)) ∧
            (s.detectors.at k = .ready → (s.cfg k).lambda ≤ (t.channels.at c).temperature → t.detectors.at k = .ready) ∧
            (s.detectors.at k = .latched → (t.channels.at c).temperature < (s.cfg k).lambda + 8 →
              t.detectors.at k = .latched) ∧
            (s.detectors.at k = .latched → (s.cfg k).lambda + 8 ≤ (t.channels.at c).temperature →
              t.detectors.at k = .ready))) ∧
        (∀ k, ((s.cfg k).present = false ∨ (s.cfg k).lwt ≠ some c) → t.detectors.at k = s.detectors.at k) ∧
        (s.sampler.position < s.sampler.passList.length →
          t.sampler = { s.sampler with position := s.sampler.position + 1 } ∧
          (∀ d, d ≠ c → t.channels.at d = s.channels.at d)) ∧
        (s.sampler.passList.length ≤ s.sampler.position →
          t.sampler = { passList := s.tables.scan, position := 1 } ∧
          (∀ d, d ≠ c → t.channels.at d = { s.channels.at d with status :=
            if d ∈ s.sampler.passList ∧ d ∉ s.tables.scan then .notScanned else (s.channels.at d).status }) ∧
          (c ∉ s.tables.scan → (t.channels.at c).status = .notScanned)))

/-! ## Frames -/

/-- FRAME_TIMER_EXPIRY (R45, R46): on an IDLE or FAULTED master the next frame opens, with its snapshot of the enabled points of
the segment, its coil set, its interval and its counts, and its first attempt sends the address byte of R175; on a READING or RECOVERING master the frame waits; the expiry of a
stopped timer leaves the state (the model's choice, notes/assumptions/5.md). -/
def Obligations.FrameTimerOpensTheNextFrame : Prop :=
  ∀ (s : State) (g : Fin 3), s.power = .running → s.settled →
    ((s.masters.at g).frameTimer = none → exec (.frameTimerExpiry g) s = .next s) ∧
    (∀ n, (s.masters.at g).frameTimer = some n →
      ((s.masters.at g).state = .reading ∨ (s.masters.at g).state = .recovering) →
      exec (.frameTimerExpiry g) s =
        .next (s.setMaster g { s.masters.at g with frameTimer := none, openPending := true })) ∧
    (∀ n, (s.masters.at g).frameTimer = some n → ((s.masters.at g).state = .idle ∨ (s.masters.at g).state = .faulted) →
      ∃ m, exec (.frameTimerExpiry g) s = .next (s.setMaster g m) ∧
        m.frameTimer = some (s.tables.intervals.at g) ∧ m.intervalAtOpen = s.tables.intervals.at g ∧ m.openPending = false ∧
        m.framesOpened = (if (s.masters.at g).framesOpened < 65535 then (s.masters.at g).framesOpened + 1
          else (s.masters.at g).framesOpened) ∧
        m.framesCutShort = (s.masters.at g).framesCutShort ∧ m.busFault = (s.masters.at g).busFault ∧
        m.snapshot.map (·.point) = (List.finRange 48).filter (fun p =>
          (s.tables.points.at p).enabled && (s.tables.points.at p).segment == g) ∧
        (∀ e ∈ m.snapshot, e.address = (s.tables.points.at e.point).address ∧ e.coil = (s.tables.points.at e.point).coil ∧
          e.included = (s.tables.points.at e.point).included ∧ e.result = none) ∧
        m.coilSet.Pairwise (· < ·) ∧
        (∀ k, k ∈ m.coilSet ↔ (s.cfg k).present = true ∧ (s.cfg k).unit = g ∧
          ∃ p, (s.tables.points.at p).enabled = true ∧ (s.tables.points.at p).segment = g ∧
            (s.tables.points.at p).coil = some k) ∧
        ((s.masters.at g).state = .faulted → m.state = .recovering) ∧
        ((s.masters.at g).state = .idle → m.state = if m.snapshot = [] then .idle else .reading) ∧
        (∀ e rest, m.snapshot = e :: rest → m.state = .reading → e.address < 128 →
          ∃ b, m.addressSent = some b ∧ b.toNat = 2 * e.address + 1))

/-- An attempt's end on a READING master (R38, R41, R45, R47, R49, R50): the result is recorded for the entry in flight and in
its point's health record; then the next attempt begins, or the frame closes, each coil of its set with one frame result, or a
frame whose timer has expired is cut short and the next one opens. A closed frame of a coil is one frame report to the engine (R65):
the coil's exposure record and stage are those that its own close gives, BLIND is told its face's state (R64), and RAGGED is raised
where its frame is ragged (R59); so at a frame cut short, with the rest NOT_REACHED. The attempt then in flight sends the address byte of R175. A
held data line gives STUCK and starts the recovery. With no attempt in flight the commands leave the state (the model's choice, notes/assumptions/5.md). -/
def Obligations.AttemptsRecordTheirResultAndMoveTheFrame : Prop :=
  ∀ (s : State) (g : Fin 3) (c : Instr) (r : PointResult), s.power = .running → s.settled →
    ((∃ reply, c = .readPointComplete g reply ∧ r = replyResult reply) ∨ (c = .clockHoldTimeout g ∧ r = .timeout) ∨
      (c = .dataHeldTimeout g ∧ r = .stuck)) →
    ((s.masters.at g).position = none → exec c s = .next s) ∧
    (∀ e, (s.masters.at g).position = some e →
      ∃ t, exec c s = .next t ∧ onlyFrames s t ∧
        (∀ h, h ≠ g → t.masters.at h = s.masters.at h) ∧
        (∀ p, p ≠ e.point → ((s.masters.at g).openPending = false ∨ c = .dataHeldTimeout g) → t.health.at p = s.health.at p) ∧
        (t.health.at e.point).lastOutcome = some r ∧
        (∀ v, r = .good v → (t.health.at e.point).misses = 0 ∧ (t.health.at e.point).lastGood = some v ∧
          (t.health.at e.point).lastGoodSecond = some s.plantSeconds ∧
          ((t.health.at e.point).state = .dropped ↔
            (s.health.at e.point).state = .dropped ∧ (s.health.at e.point).misses ≠ 0) ∧
          ((t.health.at e.point).state ≠ .dropped → (t.health.at e.point).state = .ok)) ∧
        ((∀ v, r ≠ .good v) →
          (t.health.at e.point).misses = (if (s.health.at e.point).misses < 255 then (s.health.at e.point).misses + 1
            else (s.health.at e.point).misses) ∧
          (t.health.at e.point).lastGood = (s.health.at e.point).lastGood ∧
          ((s.health.at e.point).state = .dropped → (t.health.at e.point).state = .dropped) ∧
          ((s.health.at e.point).state = .ok → (t.health.at e.point).state = .suspect) ∧
          ((s.health.at e.point).state = .unseen ∨ (s.health.at e.point).state = .suspect →
            (t.health.at e.point).state =
              if (t.health.at e.point).misses < 3 then (s.health.at e.point).state else .dropped)) ∧
        (c = .dataHeldTimeout g ∨ ((s.masters.at g).openPending = false ∧
            ∃ f ∈ (s.masters.at g).snapshot, f.result = none ∧ f.point ≠ e.point) →
          t.faces = s.faces ∧ t.coils = s.coils ∧ t.exposures = s.exposures ∧ t.alerts = s.alerts ∧
          t.masters.at g = { s.masters.at g with
            state := if c = .dataHeldTimeout g then .recovering else .reading,
            snapshot := (s.masters.at g).snapshot.map fun f =>
              if f.point = e.point ∧ f.result = none then { f with result := some r } else f }) ∧
        (c ≠ .dataHeldTimeout g → (s.masters.at g).openPending = false →
          (∀ f ∈ (s.masters.at g).snapshot, f.result = none → f.point = e.point) →
          t.masters.at g = { s.masters.at g with
            state := .idle,
            snapshot := (s.masters.at g).snapshot.map fun f =>
              if f.point = e.point ∧ f.result = none then { f with result := some r } else f } ∧
          framesClosed s t g (t.masters.at g).snapshot) ∧
        (∀ f, (t.masters.at g).position = some f → f.address < 128 →
          ∃ b, (t.masters.at g).addressSent = some b ∧ b.toNat = 2 * f.address + 1) ∧
        (c ≠ .dataHeldTimeout g → (s.masters.at g).openPending = true →
          framesClosed s t g (restGiven .notReached ((s.masters.at g).snapshot.map fun f =>
            if f.point = e.point ∧ f.result = none then { f with result := some r } else f)) ∧
          (t.masters.at g).openPending = false ∧ (t.masters.at g).frameTimer = some (s.tables.intervals.at g) ∧
          (t.masters.at g).intervalAtOpen = s.tables.intervals.at g ∧ (t.masters.at g).snapshot = s.takeSnapshot g ∧
          (t.masters.at g).coilSet = s.coilSetOf g (s.takeSnapshot g) ∧
          (t.masters.at g).state = (if s.takeSnapshot g = [] then .idle else .reading) ∧
          (t.masters.at g).framesOpened = (if (s.masters.at g).framesOpened < 65535 then (s.masters.at g).framesOpened + 1
            else (s.masters.at g).framesOpened) ∧
          (t.masters.at g).framesCutShort =
            (if (∃ f ∈ (s.masters.at g).snapshot, f.result = none ∧ f.point ≠ e.point) ∧
                (s.masters.at g).framesCutShort < 65535 then (s.masters.at g).framesCutShort + 1
              else (s.masters.at g).framesCutShort) ∧
          (∀ f ∈ (s.masters.at g).snapshot, f.result = none → f.point ≠ e.point →
            (t.health.at f.point).lastOutcome = some .notReached)))

/-- A recovery's end (R41 to R45): a freed line puts the master back to READING where entries are left, and clears BUS_FAULT; a
line still held makes it FAULTED with BUS_FAULT and SEGMENT_FAULT for the entries left, and a frame whose timer has expired then
opens into a further recovery. Where the frame closes, each coil of its set has its own close, with BLIND told and RAGGED raised where its
frame is ragged (R47, R51, R59, R64, R65). On a master that is not RECOVERING the command leaves the state (the model's choice,
notes/assumptions/5.md). -/
def Obligations.RecoveryFreesTheSegmentOrFaultsIt : Prop :=
  ∀ (s : State) (g : Fin 3), s.power = .running →
    (s.settled → (s.masters.at g).state ≠ .recovering → ∀ freed, exec (.recoveryComplete g freed) s = .next s) ∧
    ((s.masters.at g).state = .recovering → ∀ freed,
      ∃ t, exec (.recoveryComplete g freed) s = .next t ∧ onlyFrames s t ∧
        (∀ h, h ≠ g → t.masters.at h = s.masters.at h) ∧
        (t.masters.at g).busFault = !freed ∧ t.told (srcBusFault g) = !freed ∧ (t.masters.at g).openPending = false ∧
        (freed = true → (s.masters.at g).openPending = false →
          (t.masters.at g).snapshot = (s.masters.at g).snapshot ∧ t.health = s.health ∧
          ((∃ f ∈ (s.masters.at g).snapshot, f.result = none) → (t.masters.at g).state = .reading ∧ t.faces = s.faces ∧
            t.coils = s.coils ∧ t.exposures = s.exposures ∧ t.units = s.units) ∧
          ((∀ f ∈ (s.masters.at g).snapshot, f.result ≠ none) → (t.masters.at g).state = .idle ∧
            framesClosed s t g (s.masters.at g).snapshot)) ∧
        (freed = true → (s.masters.at g).openPending = true →
          framesClosed s t g (restGiven .notReached (s.masters.at g).snapshot) ∧
          (t.masters.at g).frameTimer = some (s.tables.intervals.at g) ∧ (t.masters.at g).snapshot = s.takeSnapshot g ∧
          (t.masters.at g).state = (if s.takeSnapshot g = [] then .idle else .reading) ∧
          (∀ f ∈ (s.masters.at g).snapshot, f.result = none → (t.health.at f.point).lastOutcome = some .notReached)) ∧
        (freed = false → framesClosed s t g (restGiven .segmentFault (s.masters.at g).snapshot) ∧
          (∀ f ∈ (s.masters.at g).snapshot, f.result = none → (t.health.at f.point).lastOutcome = some .segmentFault) ∧
          ((s.masters.at g).openPending = false → (t.masters.at g).state = .faulted ∧
            (t.masters.at g).framesOpened = (s.masters.at g).framesOpened ∧
            ∀ f ∈ (t.masters.at g).snapshot, f.result ≠ none) ∧
          ((s.masters.at g).openPending = true → (t.masters.at g).state = .recovering ∧
            (t.masters.at g).snapshot = s.takeSnapshot g ∧
            (t.masters.at g).frameTimer = some (s.tables.intervals.at g))))

/-- The four reply bytes are judged in the order of R39: their sum, the top bit of the status byte, the plausibility window. -/
def Obligations.RepliesAreJudgedInOrder : Prop :=
  ∀ (high low status check : Byte) (v : Int),
    v = (if 256 * high.toNat + low.toNat < 32768 then ((256 * high.toNat + low.toNat : Nat) : Int)
      else ((256 * high.toNat + low.toNat : Nat) : Int) - 65536) →
    replyResult (.bytes high low status check) =
      if (high.toNat + low.toNat + status.toNat + check.toNat) % 256 ≠ 0 then .badCheck
      else if status.toNat < 128 then .sensorInvalid
      else if v < -800 ∨ 960 < v then .implausible
      else .good v

/-- The three statistics of an ACCEPTED frame (R58), over the temperatures of the valid included set; a STARVED frame leaves
the three fields as they stood. -/
def Obligations.FrameStatisticsAreTheColdSpotMeanAndSpread : Prop :=
  ∀ (s : State) (k : Fin 6) (entries : List SnapEntry) (ts : List Int),
    ts = entries.filterMap (fun e => if e.included then (match e.result with | some (.good v) => some v | _ => none) else none) →
    1 ≤ (s.cfg k).quorum →
    (ts.length < (s.cfg k).quorum →
      (s.closeFace k entries).held = (s.faces.at k).held ∧ (s.closeFace k entries).mean = (s.faces.at k).mean ∧
      (s.closeFace k entries).spread = (s.faces.at k).spread) ∧
    ((s.cfg k).quorum ≤ ts.length →
      ∃ cold mean spread : Int, (s.closeFace k entries).held = some cold ∧ (s.closeFace k entries).mean = some mean ∧
        (s.closeFace k entries).spread = some spread ∧
        cold ∈ ts ∧ (∀ v ∈ ts, cold ≤ v) ∧
        mean * (ts.length : Int) ≤ ts.sum ∧ ts.sum < (mean + 1) * (ts.length : Int) ∧
        cold + spread ∈ ts ∧ (∀ v ∈ ts, v ≤ cold + spread) ∧ cold ≤ mean ∧ mean ≤ cold + spread ∧
        (ts.length = 1 → mean = cold ∧ spread = 0) ∧
        ((∀ v ∈ ts, -800 ≤ v ∧ v ≤ 960) → -800 ≤ cold ∧ cold ≤ 960 ∧ -800 ≤ mean ∧ mean ≤ 960 ∧ 0 ≤ spread ∧
          spread ≤ 1760 ∧ (ts.length ≤ 8 → -6400 ≤ ts.sum ∧ ts.sum ≤ 7680)))

/-- The face state, the starved count, C_eff and the sets of a closed frame (R56, R57, R59 to R63). -/
def Obligations.FaceStateAndEffectiveColdSpotFollowTheFrame : Prop :=
  ∀ (s : State) (k : Fin 6) (entries : List SnapEntry) (f : Face), f = s.closeFace k entries →
    (f.status = .accepted ∨ f.status = .starved) ∧
    (f.status = .accepted ↔ (s.cfg k).quorum ≤ f.validSet.length) ∧
    f.validSet = (entries.filter fun e => e.included && (match e.result with | some (.good _) => true | _ => false)).map
      (·.point) ∧
    f.missingSet = (entries.filter fun e => e.included && (match e.result with | some (.good _) => false | _ => true)).map
      (·.point) ∧
    f.excludedSet.map (·.1) = (entries.filter fun e => !e.included && e.result.isSome).map (·.point) ∧
    (∀ p r, (p, r) ∈ f.excludedSet ↔ ∃ e ∈ entries, e.included = false ∧ e.point = p ∧ e.result = some r) ∧
    f.frameSecond = some s.plantSeconds ∧
    (f.status = .accepted → f.state = .sighted ∧ f.starved = 0 ∧ f.cEff = f.held ∧
      (f.missingSet ≠ [] → f.raggedMask = some f.missingSet ∧ f.raggedSecond = some s.plantSeconds)) ∧
    ((f.status = .starved ∨ f.missingSet = []) →
      f.raggedMask = (s.faces.at k).raggedMask ∧ f.raggedSecond = (s.faces.at k).raggedSecond) ∧
    (f.status = .starved →
      f.held = (s.faces.at k).held ∧
      f.starved = (if (s.faces.at k).starved < 255 then (s.faces.at k).starved + 1 else (s.faces.at k).starved) ∧
      ((s.faces.at k).state = .blind → f.state = .blind) ∧
      ((s.faces.at k).state ≠ .blind → f.state = if f.starved < (s.cfg k).staleLimit then .holding else .blind) ∧
      (∀ h, f.state = .holding → f.held = some h → f.cEff = some h) ∧
      (f.state = .blind →
        (∀ c, (s.cfg k).lat = some c → (s.channels.at c).status = .ok →
          f.cEff = some ((s.channels.at c).temperature - ((s.cfg k).blindOffset : Int))) ∧
        ((s.cfg k).lat = none → f.cEff = some (s.cfg k).blindFloor) ∧
        (∀ c, (s.cfg k).lat = some c → (s.channels.at c).status ≠ .ok → f.cEff = some (s.cfg k).blindFloor)))

/-! ## Exposure and trips -/

/-- The gain and the loss of a frame, with the water multiplier (R73, R74, R75). -/
def Obligations.GainAndLossOfAFrame : Prop :=
  ∀ (s : State) (k : Fin 6) (r : FrameReport),
    (s.waterMultiplier k = 1 ∨ s.waterMultiplier k = 2) ∧
    (s.waterMultiplier k = 2 ↔ ∃ c, (s.cfg k).lwt = some c ∧ (s.channels.at c).status = .ok ∧
      (s.channels.at c).temperature < (s.cfg k).lambda) ∧
    (r.cEff < (s.cfg k).theta →
      ∃ d : Nat, ((d : Int) = (s.cfg k).theta - r.cEff ∧ d ≤ 640 ∨ d = 640 ∧ 640 < (s.cfg k).theta - r.cEff) ∧
        s.stepE k r = (if 16777215 < (s.exposures.at k).e + d * r.interval * s.waterMultiplier k then 16777215
          else (s.exposures.at k).e + d * r.interval * s.waterMultiplier k) ∧
        (1 ≤ r.interval → r.interval ≤ 40 → 1 ≤ d * r.interval * s.waterMultiplier k ∧
          d * r.interval * s.waterMultiplier k ≤ 51200)) ∧
    ((s.cfg k).theta ≤ r.cEff →
      ∃ u loss : Nat, ((u : Int) = r.cEff - (s.cfg k).theta ∧ u ≤ 640 ∨ u = 640 ∧ 640 < r.cEff - (s.cfg k).theta) ∧
        loss = (if u * r.interval * (s.cfg k).weight / 4 < r.interval then r.interval
          else u * r.interval * (s.cfg k).weight / 4) ∧
        s.stepE k r = (if (s.exposures.at k).e < loss then 0 else (s.exposures.at k).e - loss) ∧
        (1 ≤ r.interval → r.interval ≤ 40 → (s.cfg k).weight ≤ 16 → r.interval ≤ loss ∧ loss ≤ 102400))

/-- The report that a close hands over (R65), and its frame update in ARMED or TEST (R72, R76 to R79): E by its gain or loss, the confirm count, the hard limit, the ladder with
the thresholds of the active record, and the edges of ADVISE1 and ADVISE2; in FALLBACK nothing changes (R84). That a STARVED
report takes the ladder alone, whatever the count, is read from the manual by inference (notes/assumptions/7.md). The outcome then
moves the stage (R80, R90 to R92, R103): trip entry from a band that entered TRIP, with its cause; the count of SETTLE and its exit;
promotion, demotion or nothing in a working stage; nothing for a forced, tripped, locked-out or idle coil. A stage change is one
event of R110 for the coil's unit.
That a timer of 0 s expires within the event that starts it is read from the manual by inference (notes/assumptions/17.md). -/
def Obligations.FrameUpdatesMoveTheBand : Prop :=
  ∀ (s : State) (k : Fin 6) (r : FrameReport),
    (s.mode = .fallback → s.frameUpdate k r = s) ∧
    (s.mode ≠ .fallback → ∀ (t : State) (e n : Nat) (b b' : Band) (q q' : CoilSeq) (goal : CoilStage),
      t = s.frameUpdate k r → e = s.stepE k r → b = (s.exposures.at k).band → b' = (t.exposures.at k).band →
      n = (t.exposures.at k).confirm → q = s.coils.at k → q' = t.coils.at k →
      goal = (match b' with | .clear => .watch | .advise1 => .guard | .advise2 => .boost | .trip => .tripped) →
      onlyProtection s t ∧ (s.outputs = s.effective → t.outputs = t.effective) ∧
      (t.exposures.at k).e = e ∧
      (∀ j, j ≠ k → t.exposures.at j = s.exposures.at j ∧ (s.coils.at j).sameButProve (t.coils.at j)) ∧
      (r.accepted = false → n = (s.exposures.at k).confirm) ∧
      (∀ c, r.accepted = true → r.cold = some c → (s.cfg k).phi < c → n = 0) ∧
      (∀ c, r.accepted = true → r.cold = some c → c ≤ (s.cfg k).phi → n = min ((s.exposures.at k).confirm + 1) 4) ∧
      (b = .trip → b' = .trip) ∧
      (b ≠ .trip → r.accepted = true → (s.cfg k).confirm ≤ n → b' = .trip) ∧
      (b ≠ .trip → (r.accepted = false ∨ n < (s.cfg k).confirm) →
        (s.cfg k).recover < (s.cfg k).a1 → (s.cfg k).a1 < (s.cfg k).a2 → (s.cfg k).a2 < (s.cfg k).trip →
        ((s.cfg k).trip ≤ e → b' = .trip) ∧
        ((s.cfg k).a2 ≤ e → e < (s.cfg k).trip → b' = .advise2) ∧
        (b = .clear → (s.cfg k).a1 ≤ e → e < (s.cfg k).a2 → b' = .advise1) ∧
        (b = .clear → e < (s.cfg k).a1 → b' = .clear) ∧
        (b = .advise1 → (s.cfg k).recover < e → e < (s.cfg k).a2 → b' = .advise1) ∧
        (b = .advise1 → e ≤ (s.cfg k).recover → b' = .clear) ∧
        (b = .advise2 → (s.cfg k).a1 < e → e < (s.cfg k).a2 → b' = .advise2) ∧
        (b = .advise2 → (s.cfg k).recover < e → e ≤ (s.cfg k).a1 → b' = .advise1) ∧
        (b = .advise2 → e ≤ (s.cfg k).recover → b' = .clear)) ∧
      (b = .clear → b' = .advise1 → (s.alerts.sources.at (srcAdvise1 k)).membership = .none →
        (t.alerts.sources.at (srcAdvise1 k)).membership = .pending) ∧
      (b = .clear ∨ b = .advise1 → b' = .advise2 → (s.alerts.sources.at (srcAdvise2 k)).membership = .none →
        (t.alerts.sources.at (srcAdvise2 k)).membership = .pending) ∧
      ((q.forced = true ∨ q.stage = .tripped ∨ q.stage = .lockout ∨ q.stage = .idle) → t.coils = s.coils ∧ t.units = s.units) ∧
      (q.forced = false → q.stage = .settle ∨ q.stage = .watch ∨ q.stage = .guard ∨ q.stage = .boost → b ≠ .trip → b' = .trip →
        (q'.stage = .tripped ∨ q'.stage = .lockout) ∧ q'.holdDown = none ∧ q'.settle = 0 ∧
        ∃ rec, q'.tripRecord = some rec ∧ rec.stageLeft = q.stage ∧ rec.second = s.plantSeconds ∧ rec.e = e ∧
          (r.accepted = true → (s.cfg k).confirm ≤ n → rec.cause = .hardLimit) ∧
          ((r.accepted = false ∨ n < (s.cfg k).confirm) → rec.cause = .exposure)) ∧
      (q.forced = false → q.stage = .settle → b' ≠ .trip → ∀ left, left = (if r.accepted then q.settle - 1 else q.settle) →
        (0 < left → q' = { q with settle := left } ∧ t.units = s.units) ∧
        (left = 0 → ({ q with
          stage := goal, settle := 0,
          holdDown := if b' = .clear then q.holdDown else if (s.cfg k).holdDown = 0 then none else some (s.cfg k).holdDown } :
            CoilSeq).sameButProve q')) ∧
      (q.forced = false → b' ≠ .trip →
        (q.stage = .watch ∧ b' ≠ .clear ∨ q.stage = .guard ∧ b' = .advise2) →
        ({ q with
          stage := goal, settle := 0, holdDown := if (s.cfg k).holdDown = 0 then none else some (s.cfg k).holdDown } :
            CoilSeq).sameButProve q') ∧
      (q.forced = false → q.holdDown = none →
        (q.stage = .guard ∧ b' = .clear ∨ q.stage = .boost ∧ (b' = .clear ∨ b' = .advise1)) →
        ({ q with stage := goal, settle := 0 } : CoilSeq).sameButProve q') ∧
      (q.forced = false → b' ≠ .trip → q.stage = .watch ∨ q.stage = .guard ∨ q.stage = .boost →
        (q.stage = goal ∨ (∃ d, q.holdDown = some d) ∧ (q.stage = .guard ∧ b' = .clear ∨ q.stage = .boost)) →
        t.coils = s.coils ∧ t.units = s.units) ∧
      (q'.stage ≠ q.stage → onlyUnitMoved s t (s.cfg k).unit)) ∧
    (∀ (entries : List SnapEntry) (n : Nat) (f : Face) (q : FrameReport), f = s.closeFace k entries → q = f.report n s.plantSeconds →
      s.closeCoilFrame k entries n = (((s.setFace k f).handRagged k).handBlind k).frameUpdate k q ∧
      (q.accepted = true ↔ f.status = .accepted) ∧ q.face = f.state ∧ f.cEff = some q.cEff ∧ q.interval = n ∧
      q.second = s.plantSeconds ∧
      (q.accepted = true → q.cold = f.held ∧ q.mean = f.mean ∧ q.spread = f.spread) ∧
      (q.accepted = false → q.cold = none ∧ q.mean = none ∧ q.spread = none))

/-- Trip entry (R93 to R95): the record captured, the history pruned by age and limit with this trip appended, the band TRIP, and
TRIPPED below the lockout limit or LOCKOUT with its flag set and a LOCKOUT-WRITE requested at the limit; outside FALLBACK the
coil's unit handles the stage change as an event of R110, so that a unit in RUN, TEMPER or RESTART_HOLD enters CLOSING, with both
timers and its closing second (R112, R113, R119). That the age of an entry is the difference of the two counts as integers is read from
the manual by inference (notes/assumptions/24.md), and that a history longer than the limit loses one entry only is the model's choice
(notes/assumptions/28.md). -/
def Obligations.TripEntryCapturesAndLocksOut : Prop :=
  ∀ (s : State) (k : Fin 6) (cause : TripCause) (young kept : List Seconds),
    young = (s.coils.at k).history.filter (fun e =>
      decide ((s.plantSeconds.toNat : Int) - (e.toNat : Int) ≤ ((s.cfg k).lockoutWindow : Int) * 3600)) →
    kept = (if young.length < (s.cfg k).lockoutLimit then young else young.tail) →
    ∀ t, t = s.tripEntry k cause →
      onlyProtection s t ∧ (t.coils.at k).history = kept ++ [s.plantSeconds] ∧
      (t.coils.at k).tripRecord = some {
        second := s.plantSeconds, cause := cause, stageLeft := (s.coils.at k).stage, cEff := (s.faces.at k).cEff,
        held := (s.faces.at k).held, mean := (s.faces.at k).mean, spread := (s.faces.at k).spread,
        face := (s.faces.at k).state, e := (s.exposures.at k).e,
        lwt := ((s.cfg k).lwt.bind fun c => if (s.channels.at c).status = .ok then some (s.channels.at c).temperature else none),
        lat := ((s.cfg k).lat.bind fun c => if (s.channels.at c).status = .ok then some (s.channels.at c).temperature else none),
        validMask := (s.faces.at k).validSet, missingMask := (s.faces.at k).missingSet, historyCount := kept.length + 1 } ∧
      t.exposures = s.exposures.put k { s.exposures.at k with band := .trip } ∧
      (t.coils.at k).holdDown = none ∧ (t.coils.at k).settle = 0 ∧ (t.coils.at k).forced = (s.coils.at k).forced ∧
      (kept.length + 1 < (s.cfg k).lockoutLimit → (t.coils.at k).stage = .tripped ∧
        (t.coils.at k).lockout = (s.coils.at k).lockout ∧ t.store = s.store) ∧
      ((s.cfg k).lockoutLimit ≤ kept.length + 1 → (t.coils.at k).stage = .lockout ∧ (t.coils.at k).lockout = true ∧
        (s.store.job = none → t.store = { s.store with job := some ⟨.lockoutWrite, .areaProgram (Tab.build fun j =>
          if j = k then true else (s.coils.at j).lockout)⟩ }) ∧
        (∀ j, s.store.job = some j → t.store = { s.store with pendingLockout := true })) ∧
      (∀ j, j ≠ k → (s.coils.at j).sameButProve (t.coils.at j)) ∧ t.outputs = t.effective ∧
      onlyUnitMoved s t (s.cfg k).unit ∧
      t.told (srcTrip k) = ((s.cfg k).present && decide (kept.length + 1 < (s.cfg k).lockoutLimit)) ∧
      t.told (srcLockout k) = ((s.cfg k).present && !decide (kept.length + 1 < (s.cfg k).lockoutLimit))

/-! ## Timers of the coils and units -/

/-- The coil's timers: the hold-down's expiry stops the timer and demotes an unforced coil whose band is below its stage (R92);
the prove timer's expiry in PROVING fails the pump and escalates once by the stage (R97, R98), each stage change an event of R110 for the coil's unit; with a hold-down of 0 s the promotion
is followed by its demotion at once (R92). The expiry of a
stopped timer leaves the state (the model's choice, notes/assumptions/5.md).
That a timer of 0 s expires within the event that starts it is read from the manual by inference (notes/assumptions/17.md). -/
def Obligations.CoilTimersDemoteAndEscalate : Prop :=
  ∀ (s : State) (k : Fin 6), s.power = .running → s.settled →
    ((s.coils.at k).holdDown = none → exec (.holdDownExpiry k) s = .next s) ∧
    (∀ n, (s.coils.at k).holdDown = some n →
      (((s.coils.at k).forced = true ∨ ((s.coils.at k).stage ≠ .guard ∧ (s.coils.at k).stage ≠ .boost) ∨
          (s.exposures.at k).band = .advise2 ∨ (s.exposures.at k).band = .trip ∨
          ((s.coils.at k).stage = .guard ∧ (s.exposures.at k).band = .advise1)) →
        exec (.holdDownExpiry k) s = .next (s.setCoil k { s.coils.at k with holdDown := none })) ∧
      ((s.coils.at k).forced = false →
        (((s.coils.at k).stage = .guard ∨ (s.coils.at k).stage = .boost) ∧ (s.exposures.at k).band = .clear ∨
          (s.coils.at k).stage = .boost ∧ (s.exposures.at k).band = .advise1) →
        ∃ t, exec (.holdDownExpiry k) s = .next t ∧ onlyProtection s t ∧ t.exposures = s.exposures ∧ t.store = s.store ∧
          ({ s.coils.at k with
            stage := if (s.exposures.at k).band = .clear then .watch else .guard, holdDown := none,
            settle := 0 } : CoilSeq).sameButProve (t.coils.at k) ∧
          (∀ j, j ≠ k → (s.coils.at j).sameButProve (t.coils.at j)) ∧ onlyUnitMoved s t (s.cfg k).unit ∧
          t.outputs = t.effective)) ∧
    (((s.coils.at k).prove ≠ .proving ∨ (s.coils.at k).proveTimer = none) → exec (.proveTimerExpiry k) s = .next s) ∧
    (∀ n, (s.coils.at k).prove = .proving → (s.coils.at k).proveTimer = some n → (s.cfg k).present = true →
      s.outputs = s.effective →
      ∃ t, exec (.proveTimerExpiry k) s = .next t ∧ onlyProtection s t ∧
        (((s.coils.at k).forced = true ∨ (s.coils.at k).stage = .watch ∨ (s.coils.at k).stage = .tripped ∨
            (s.coils.at k).stage = .lockout ∨ (s.coils.at k).stage = .idle) →
          t.coils = s.coils.put k { s.coils.at k with prove := .failed, proveTimer := none } ∧
          t.told (srcPumpFail k) = true ∧ t.exposures = s.exposures ∧ t.outputs = s.outputs ∧ t.units = s.units) ∧
        ((s.coils.at k).forced = false → (s.coils.at k).stage = .guard → 0 < (s.cfg k).holdDown →
          (t.coils.at k).prove = .failed ∧ (t.coils.at k).proveTimer = none ∧ t.told (srcPumpFail k) = true ∧
          (t.coils.at k).stage = .boost ∧ (t.coils.at k).holdDown = some (s.cfg k).holdDown ∧
          (t.coils.at k).tripRecord = (s.coils.at k).tripRecord ∧ t.exposures = s.exposures ∧ t.outputs = t.effective ∧
          onlyUnitMoved s t (s.cfg k).unit) ∧
        ((s.coils.at k).forced = false → (s.coils.at k).stage = .guard → (s.cfg k).holdDown = 0 →
          t.told (srcPumpFail k) = t.pumpFailCondition k ∧ (t.coils.at k).stage = (match (s.exposures.at k).band with
            | .clear => .watch | .advise1 => .guard | .advise2 => .boost | .trip => .boost) ∧
          (t.coils.at k).holdDown = none ∧ t.exposures = s.exposures ∧ t.outputs = t.effective ∧
          onlyUnitMoved s t (s.cfg k).unit) ∧
        ((s.coils.at k).forced = false → (s.coils.at k).stage = .boost ∨ (s.coils.at k).stage = .settle →
          (t.coils.at k).prove = .failed ∧ (t.coils.at k).proveTimer = none ∧ t.told (srcPumpFail k) = true ∧
          ((t.coils.at k).stage = .tripped ∨ (t.coils.at k).stage = .lockout) ∧ (t.exposures.at k).band = .trip ∧
          (t.exposures.at k).e = (s.exposures.at k).e ∧ t.outputs = t.effective ∧ onlyUnitMoved s t (s.cfg k).unit ∧
          ∃ rec, (t.coils.at k).tripRecord = some rec ∧ rec.cause = .pump ∧ rec.stageLeft = (s.coils.at k).stage ∧
            rec.second = s.plantSeconds))

/-- The unit's timers (R114, R116, R119): a stroke or fan timer that expires in CLOSING stops where its proof is present and
takes the unit to SECURE_FAULT where it is missing; the hold-off's expiry in RESTART_HOLD gives TEMPER or RUN. The expiry
of a stopped timer leaves the state (the model's choice, notes/assumptions/5.md). -/
def Obligations.UnitTimersJudgeTheProofs : Prop :=
  ∀ (s : State) (u : Fin 3), s.power = .running → s.settled → s.outputs = s.effective →
    (((s.units.at u).stage ≠ .closing ∨ (s.units.at u).stroke = none) → exec (.strokeTimerExpiry u) s = .next s) ∧
    (((s.units.at u).stage ≠ .closing ∨ (s.units.at u).fan = none) → exec (.fanTimerExpiry u) s = .next s) ∧
    (((s.units.at u).stage ≠ .restartHold ∨ (s.units.at u).holdOff = none) → exec (.holdOffExpiry u) s = .next s) ∧
    (∀ n, (s.units.at u).stage = .closing → (s.units.at u).stroke = some n → s.damperProof u = true →
      exec (.strokeTimerExpiry u) s = .next (s.setUnit u { s.units.at u with stroke := none })) ∧
    (∀ n, (s.units.at u).stage = .closing → (s.units.at u).fan = some n → s.fanProof u = true →
      exec (.fanTimerExpiry u) s = .next (s.setUnit u { s.units.at u with fan := none })) ∧
    (∀ (n : Nat) (c : Instr), (s.units.at u).stage = .closing →
      (c = .strokeTimerExpiry u ∧ (s.units.at u).stroke = some n ∧ s.damperProof u = false ∨
        c = .fanTimerExpiry u ∧ (s.units.at u).fan = some n ∧ s.fanProof u = false) →
      ∃ t, exec c s = .next t ∧ onlyProtection s t ∧ t.coils = s.coils ∧ t.exposures = s.exposures ∧ t.store = s.store ∧
        t.units = s.units.put u { s.units.at u with stage := .secureFault, stroke := none, fan := none, missingDamper := !s.damperProof u, missingFan := !s.fanProof u } ∧
        t.told (srcSecureFault u) = true ∧ t.outputs = t.effective) ∧
    (∀ n, (s.units.at u).stage = .restartHold → (s.units.at u).holdOff = some n →
      ∃ t, exec (.holdOffExpiry u) s = .next t ∧ onlyProtection s t ∧ t.coils = s.coils ∧ t.exposures = s.exposures ∧
        t.store = s.store ∧ t.alerts = s.alerts ∧
        t.units = s.units.put u { s.units.at u with holdOff := none, stage := if (s.units.at u).temper then .temper else .run } ∧
        t.outputs = t.effective)

/-! ## Inputs, outputs and selection -/

/-- The debounced state follows the level (R136, R137): a change that differs starts the timer, or acts at once with a debounce
time of 0; one that reverts stops it; the expiry adopts the level. A pin that stands already, and the expiry of a stopped timer,
leave the state, and pins move outside running too (the model's choices, notes/assumptions/5.md and 19.md). -/
def Obligations.InputsAreDebounced : Prop :=
  ∀ (s : State) (i : Fin 15),
    (∀ high, s.pins.at i = high → exec (.inputLevelChange i high) s = .next s) ∧
    (∀ high, s.pins.at i ≠ high → s.power ≠ .running → exec (.inputLevelChange i high) s = .next (s.setPin i high)) ∧
    (s.power = .running → s.settled →
      (∀ high, s.pins.at i ≠ high → (high != (s.tables.inputs.at i).activeLow) = (s.inputs.at i).debounced →
        exec (.inputLevelChange i high) s =
          .next ((s.setPin i high).setInput i { debounced := (s.inputs.at i).debounced, timer := none })) ∧
      (∀ high, s.pins.at i ≠ high → (high != (s.tables.inputs.at i).activeLow) ≠ (s.inputs.at i).debounced →
        0 < (s.tables.inputs.at i).debounce →
        exec (.inputLevelChange i high) s =
          .next ((s.setPin i high).setInput i { debounced := (s.inputs.at i).debounced, timer := some (100 * (s.tables.inputs.at i).debounce) })) ∧
      (∀ high, s.pins.at i ≠ high → (high != (s.tables.inputs.at i).activeLow) ≠ (s.inputs.at i).debounced →
        (s.tables.inputs.at i).debounce = 0 →
        ∃ t, exec (.inputLevelChange i high) s = .next t ∧ onlyProtection { s with pins := t.pins, inputs := t.inputs } t ∧
          t.pins = s.pins.put i high ∧
          t.inputs = s.inputs.put i { debounced := high != (s.tables.inputs.at i).activeLow, timer := none }) ∧
      ((s.inputs.at i).timer = none → exec (.debounceExpiry i) s = .next s) ∧
      (∀ n, (s.inputs.at i).timer = some n →
        ∃ t, exec (.debounceExpiry i) s = .next t ∧ onlyProtection { s with inputs := t.inputs } t ∧
          t.inputs = s.inputs.put i { debounced := s.pins.at i != (s.tables.inputs.at i).activeLow, timer := none }))

/-- A debounced change is delivered to the block that uses the input, at the debounce timer's expiry, at a level change with a
debounce time of 0 and at a SET-INPUT that inverts such an input's polarity (R9, R137, R138). FLOW moves pump proving, and its loss
escalates once by the stage (R97, R98); the two proofs secure a closing unit, fault a secured one and bring a faulted one to SECURED
as the last missing proof arrives (R114 to R117); the assertion of LOCAL_RESET returns the coils that pass its tests to GUARD with
their history emptied and their lockout cleared, and leaves the others (R101). Each stage change is an event of R110 for the coil's
unit: an escalation that trips takes it to CLOSING, and a unit in a shutdown stage, as one with a tripped coil is, takes RESTART_HOLD
as the reset leaves none of its coils tripped (R112, R118).
That a timer of 0 s expires within the event that starts it is read from the manual by inference (notes/assumptions/17.md). -/
def Obligations.DebouncedChangesReachTheirBlocks : Prop :=
  (∀ (s : State) (i : Fin 15),
    (∀ n, s.power = .running → (s.inputs.at i).timer = some n →
      s.inputLevel i ≠ (s.inputs.at i).debounced →
      exec (.debounceExpiry i) s =
        .next ((s.setInput i { debounced := s.inputLevel i, timer := none }).deliver i).conclude) ∧
    (∀ (high : Bool) (q : State), s.power = .running → s.pins.at i ≠ high → (s.tables.inputs.at i).debounce = 0 →
      q = s.setPin i high → q.inputLevel i ≠ (s.inputs.at i).debounced →
      exec (.inputLevelChange i high) s =
        .next ((q.setInput i { debounced := q.inputLevel i, timer := none }).deliver i).conclude) ∧
    (∀ (tag : Byte) (low : Bool) (q : State), s.ready → s.saveBusy = false → low ≠ (s.tables.inputs.at i).activeLow →
      q = s.setTables { s.tables with inputs := s.tables.inputs.put i { activeLow := low, debounce := 0 } } →
      q.inputLevel i ≠ (s.inputs.at i).debounced →
      exec (.setInput tag (encNumber i) (flagByte low) 0) s =
        .next ((((q.setInput i { debounced := q.inputLevel i, timer := none }).deliver i).answered 0xB7 tag [0]).conclude))) ∧
  ∀ s : State,
    (∀ k : Fin 6, (s.cfg k).present = true →
      (s.flow k = true → (s.coils.at k).prove = .proving ∨ (s.coils.at k).prove = .failed →
        (s.deliver (flowInput k)).coils = s.coils.put k { s.coils.at k with prove := .proven, proveTimer := none } ∧
        (s.deliver (flowInput k)).told (srcPumpFail k) = false) ∧
      (s.flow k = false → (s.coils.at k).prove = .proven →
        ((s.coils.at k).forced = true ∨ (s.coils.at k).stage = .watch ∨ (s.coils.at k).stage = .tripped ∨
            (s.coils.at k).stage = .lockout ∨ (s.coils.at k).stage = .idle →
          (s.deliver (flowInput k)).coils = s.coils.put k { s.coils.at k with prove := .failed, proveTimer := none } ∧
          (s.deliver (flowInput k)).told (srcPumpFail k) = true) ∧
        (s.outputs = s.effective → (s.coils.at k).forced = false → (s.coils.at k).stage = .guard → 0 < (s.cfg k).holdDown →
          (s.deliver (flowInput k)).coils.at k = { s.coils.at k with
            prove := .failed, proveTimer := none, stage := .boost, settle := 0, holdDown := some (s.cfg k).holdDown } ∧
          (s.deliver (flowInput k)).told (srcPumpFail k) = true ∧
          (s.deliver (flowInput k)).exposures = s.exposures ∧ onlyUnitMoved s (s.deliver (flowInput k)) (s.cfg k).unit) ∧
        (s.outputs = s.effective → (s.coils.at k).forced = false → (s.coils.at k).stage = .guard → (s.cfg k).holdDown = 0 →
          ((s.deliver (flowInput k)).coils.at k).stage = (match (s.exposures.at k).band with
            | .clear => .watch | .advise1 => .guard | .advise2 => .boost | .trip => .boost) ∧
          ((s.deliver (flowInput k)).coils.at k).holdDown = none ∧
          (s.deliver (flowInput k)).exposures = s.exposures ∧ onlyUnitMoved s (s.deliver (flowInput k)) (s.cfg k).unit) ∧
        (s.outputs = s.effective → (s.coils.at k).forced = false →
          (s.coils.at k).stage = .boost ∨ (s.coils.at k).stage = .settle →
          ((s.deliver (flowInput k)).coils.at k).prove = .failed ∧ (s.deliver (flowInput k)).told (srcPumpFail k) = true ∧
          (((s.deliver (flowInput k)).coils.at k).stage = .tripped ∨
            ((s.deliver (flowInput k)).coils.at k).stage = .lockout) ∧
          (s.deliver (flowInput k)).exposures = s.exposures.put k { s.exposures.at k with band := .trip } ∧
          onlyUnitMoved s (s.deliver (flowInput k)) (s.cfg k).unit ∧
          ∃ rec, ((s.deliver (flowInput k)).coils.at k).tripRecord = some rec ∧ rec.cause = .pump ∧
            rec.stageLeft = (s.coils.at k).stage ∧ rec.second = s.plantSeconds)) ∧
      ((s.coils.at k).prove = .off ∨ (s.flow k = false ∧ ((s.coils.at k).prove = .proving ∨ (s.coils.at k).prove = .failed)) ∨
          (s.flow k = true ∧ (s.coils.at k).prove = .proven) →
        s.deliver (flowInput k) = s)) ∧
    (∀ (u : Fin 3) (i : Fin 15) (r : UnitRec), (i = damperInput u ∨ i = fanInput u) → r = s.units.at u →
      (r.stage = .closing → s.damperProof u = true → s.fanProof u = true →
        (s.deliver i).units = s.units.put u { r with
          stage := .secured, stroke := none, fan := none, missingDamper := false, missingFan := false } ∧
        ((s.alerts.sources.at (srcSecured u)).membership = .none →
          ((s.deliver i).alerts.sources.at (srcSecured u)).membership = .pending)) ∧
      (r.stage = .closing → (s.damperProof u = false ∨ s.fanProof u = false) → (s.deliver i).units = s.units) ∧
      (r.stage = .secured → (s.damperProof u = false ∨ s.fanProof u = false) →
        (s.deliver i).units = s.units.put u { r with
          stage := .secureFault, stroke := none, fan := none, missingDamper := !s.damperProof u,
          missingFan := !s.fanProof u } ∧
        (s.deliver i).told (srcSecureFault u) = true) ∧
      (∀ r', r.stage = .secureFault →
        r' = (if i = damperInput u then { r with missingDamper := !s.damperProof u }
          else { r with missingFan := !s.fanProof u }) →
        (r'.missingDamper = true ∨ r'.missingFan = true → (s.deliver i).units = s.units.put u r') ∧
        (r'.missingDamper = false → r'.missingFan = false →
          (s.deliver i).units = s.units.put u { r with
            stage := .secured, stroke := none, fan := none, missingDamper := false, missingFan := false } ∧
          (s.deliver i).told (srcSecureFault u) = false ∧
          ((s.alerts.sources.at (srcSecured u)).membership = .none →
            ((s.deliver i).alerts.sources.at (srcSecured u)).membership = .pending))) ∧
      (r.stage = .idle ∨ r.stage = .run ∨ r.stage = .temper ∨ r.stage = .restartHold → (s.deliver i).units = s.units)) ∧
    (∀ (u : Fin 3) (i : Fin 15), i.val = 12 + u.val →
      ((s.inputs.at i).debounced = false → s.deliver i = s) ∧
      ((s.inputs.at i).debounced = true → ∀ acts : Fin 6 → Prop,
        (∀ k, acts k ↔ (s.cfg k).present = true ∧ (s.cfg k).unit = u ∧ (s.coils.at k).forced = false ∧
          ((s.coils.at k).stage = .tripped ∨ (s.coils.at k).stage = .lockout) ∧
          (s.exposures.at k).e ≤ (s.cfg k).recover ∧ (s.faces.at k).state ≠ .blind ∧
          ∃ h, (s.faces.at k).held = some h ∧ (s.cfg k).phi + 16 < h) →
        ((∀ k, ¬ acts k) → s.deliver i = s) ∧
        ((∃ k, acts k) → (s.deliver i).outputs = (s.deliver i).effective ∧
          ((s.units.at u).stage.shut = true → onlyUnitMoved s (s.deliver i) u) ∧
          ∀ v, v ≠ u → (s.deliver i).units.at v = s.units.at v) ∧
        ∀ k,
        (acts k →
          ((s.deliver i).coils.at k).history = [] ∧ ((s.deliver i).coils.at k).lockout = false ∧
          (s.deliver i).exposures.at k = { s.exposures.at k with band := .clear, confirm := 0 } ∧
          ((s.deliver i).coils.at k).tripRecord = (s.coils.at k).tripRecord ∧
          (0 < (s.cfg k).holdDown → ((s.deliver i).coils.at k).stage = .guard ∧
            ((s.deliver i).coils.at k).holdDown = some (s.cfg k).holdDown) ∧
          ((s.cfg k).holdDown = 0 → ((s.deliver i).coils.at k).stage = .watch ∧
            ((s.deliver i).coils.at k).holdDown = none) ∧
          (s.deliver i).told (srcTrip k) = false ∧ (s.deliver i).told (srcLockout k) = false ∧
          ((s.coils.at k).lockout = true → (s.deliver i).storeBusy = true)) ∧
        (¬ acts k → (s.coils.at k).sameButProve ((s.deliver i).coils.at k) ∧
          (s.deliver i).exposures.at k = s.exposures.at k)))

/-- The effective outputs (R12, R89, R111, R130 to R134): the fallback posture in FALLBACK; host values merged with the floors
and demands of R89's table (in IDLE, where the manual brings a present coil in FALLBACK alone, the model takes no floor and no
demand, notes/assumptions/25.md), ceilings and permissions of the stages where protection applies (in ARMED, and in TEST for a
unit with a forced coil);
the host values alone elsewhere. No valve stands below its host value in force and no damper above it. -/
def Obligations.OutputsMergeHostAndProtection : Prop :=
  ∀ s : State,
    (s.mode = .fallback → (∀ k, s.effective.valves.at k = 1000 ∧ s.effective.pumps.at k = true) ∧
      (∀ u, s.effective.dampers.at u = 0 ∧ s.effective.fans.at u = false)) ∧
    (s.mode ≠ .fallback → ∀ (u : Fin 3) (shielded : Prop),
      (shielded ↔ s.mode = .armed ∨
        ∃ k, (s.cfg k).present = true ∧ (s.cfg k).unit = u ∧ (s.coils.at k).forced = true) →
      (shielded →
        (∀ k, (s.cfg k).present = true → (s.cfg k).unit = u →
          s.effective.valves.at k = max (s.hostValue (valveId k)) (match (s.coils.at k).stage with
            | .idle => 0 | .watch => 0 | .guard => (s.cfg k).g1 | .settle => 1000 | .boost => 1000 | .tripped => 1000
            | .lockout => 1000) ∧
          s.effective.pumps.at k = (s.hostOn (pumpId k) || (match (s.coils.at k).stage with
            | .idle => false | .watch => false | .guard => true | .settle => true | .boost => true | .tripped => true
            | .lockout => true))) ∧
        ((s.units.at u).stage ≠ .idle →
          s.effective.dampers.at u = min (s.hostValue (damperId u)) (match (s.units.at u).stage with
            | .idle => 1000 | .run => 1000 | .temper => (s.tables.units.at u).damperMin | .closing => 0 | .secured => 0
            | .secureFault => 0 | .restartHold => (s.tables.units.at u).damperMin) ∧
          (s.effective.fans.at u = true ↔ s.hostOn (fanId u) = true ∧
            ((s.units.at u).stage = .run ∨ (s.units.at u).stage = .temper) ∧
            ∀ k, (s.cfg k).present = true → (s.cfg k).unit = u →
              (s.coils.at k).stage ≠ .tripped ∧ (s.coils.at k).stage ≠ .lockout))) ∧
      (¬ shielded →
        (∀ k, (s.cfg k).unit = u → s.effective.valves.at k = s.hostValue (valveId k) ∧
          s.effective.pumps.at k = s.hostOn (pumpId k)) ∧
        s.effective.dampers.at u = s.hostValue (damperId u) ∧ s.effective.fans.at u = s.hostOn (fanId u)) ∧
      (∀ k, (s.cfg k).present = false → s.effective.valves.at k = s.hostValue (valveId k) ∧
        s.effective.pumps.at k = s.hostOn (pumpId k))) ∧
    (∀ k, s.hostValue (valveId k) ≤ 1000 → s.hostValue (valveId k) ≤ s.effective.valves.at k) ∧
    (∀ u, s.effective.dampers.at u ≤ s.hostValue (damperId u))

/-- A selection's winner (R145, R146) and its report (R147): with room for two items, the lowest class among the eligible
sources and the first of that class from its rotation pointer; its pointer moves past it, its notice joins the tail of the queue,
and it stays in service, or is acknowledged by the level. -/
def Obligations.SelectionTakesTheLowestClassInRotation : Prop :=
  ∀ (s : State) (eligible : Fin 65 → Prop),
    (∀ x, eligible x ↔ (s.alerts.sources.at x).membership = .pending ∧ (s.tables.sources.at x).masked = false ∧
      ∀ top rest, s.alerts.stack = top :: rest → (s.tables.sources.at x).cls < top.cls) →
    (s.winner = none ↔ 3 ≤ s.link.txQueue.length ∨ ∀ x, ¬ eligible x) ∧
    (∀ x, s.winner = some x →
      eligible x ∧ (∀ y, eligible y → (s.tables.sources.at x).cls ≤ (s.tables.sources.at y).cls) ∧
      (∀ y, eligible y → (s.tables.sources.at y).cls = (s.tables.sources.at x).cls →
        (x.val + 65 - (s.alerts.pointers.at (s.tables.sources.at x).cls).val) % 65 ≤
          (y.val + 65 - (s.alerts.pointers.at (s.tables.sources.at x).cls).val) % 65) ∧
      ∀ t, t = s.report x → onlyAlerts s t ∧
        t.link.txQueue = s.link.txQueue ++ [.notice x (s.tables.sources.at x).cls none] ∧
        ((t.alerts.pointers.at (s.tables.sources.at x).cls).val = if x.val = 64 then 0 else x.val + 1) ∧
        (∀ c, c ≠ (s.tables.sources.at x).cls → t.alerts.pointers.at c = s.alerts.pointers.at c) ∧
        (∀ y, y ≠ x → t.alerts.sources.at y = s.alerts.sources.at y) ∧ t.told x = s.told x ∧
        ((s.tables.sources.at x).cls.val + 1 < s.tables.autoAck →
          (t.alerts.sources.at x).membership = .inService ∧
          t.alerts.stack = ⟨x, (s.tables.sources.at x).cls⟩ :: s.alerts.stack) ∧
        (s.tables.autoAck ≤ (s.tables.sources.at x).cls.val + 1 →
          (t.alerts.sources.at x).membership = (if isLevel x then .standing else .none) ∧
          t.alerts.stack = s.alerts.stack))
end

