-- ==== Sys2Proof/Laws/State.lean ====
section
/-! SUPPORT. The fields of the state after each of its updates: one lemma for each field and update. -/

namespace Sys2Proof.Machine

open Sys2Proof

/-! ## setCoil -/

@[simp] theorem State.setCoil_power (s : State) (k : Fin 6) (r : CoilSeq) : (s.setCoil k r).power = s.power := rfl
@[simp] theorem State.setCoil_mode (s : State) (k : Fin 6) (r : CoilSeq) : (s.setCoil k r).mode = s.mode := rfl
@[simp] theorem State.setCoil_strap (s : State) (k : Fin 6) (r : CoilSeq) : (s.setCoil k r).strap = s.strap := rfl
@[simp] theorem State.setCoil_validation (s : State) (k : Fin 6) (r : CoilSeq) : (s.setCoil k r).validation = s.validation := rfl
@[simp] theorem State.setCoil_plantSeconds (s : State) (k : Fin 6) (r : CoilSeq) : (s.setCoil k r).plantSeconds = s.plantSeconds := rfl
@[simp] theorem State.setCoil_tables (s : State) (k : Fin 6) (r : CoilSeq) : (s.setCoil k r).tables = s.tables := rfl
@[simp] theorem State.setCoil_image (s : State) (k : Fin 6) (r : CoilSeq) : (s.setCoil k r).image = s.image := rfl
@[simp] theorem State.setCoil_area (s : State) (k : Fin 6) (r : CoilSeq) : (s.setCoil k r).area = s.area := rfl
@[simp] theorem State.setCoil_imageInvalid (s : State) (k : Fin 6) (r : CoilSeq) : (s.setCoil k r).imageInvalid = s.imageInvalid := rfl
@[simp] theorem State.setCoil_areaDirty (s : State) (k : Fin 6) (r : CoilSeq) : (s.setCoil k r).areaDirty = s.areaDirty := rfl
@[simp] theorem State.setCoil_store (s : State) (k : Fin 6) (r : CoilSeq) : (s.setCoil k r).store = s.store := rfl
@[simp] theorem State.setCoil_sampler (s : State) (k : Fin 6) (r : CoilSeq) : (s.setCoil k r).sampler = s.sampler := rfl
@[simp] theorem State.setCoil_channels (s : State) (k : Fin 6) (r : CoilSeq) : (s.setCoil k r).channels = s.channels := rfl
@[simp] theorem State.setCoil_detectors (s : State) (k : Fin 6) (r : CoilSeq) : (s.setCoil k r).detectors = s.detectors := rfl
@[simp] theorem State.setCoil_masters (s : State) (k : Fin 6) (r : CoilSeq) : (s.setCoil k r).masters = s.masters := rfl
@[simp] theorem State.setCoil_health (s : State) (k : Fin 6) (r : CoilSeq) : (s.setCoil k r).health = s.health := rfl
@[simp] theorem State.setCoil_faces (s : State) (k : Fin 6) (r : CoilSeq) : (s.setCoil k r).faces = s.faces := rfl
@[simp] theorem State.setCoil_exposures (s : State) (k : Fin 6) (r : CoilSeq) : (s.setCoil k r).exposures = s.exposures := rfl
@[simp] theorem State.setCoil_coils (s : State) (k : Fin 6) (r : CoilSeq) : (s.setCoil k r).coils = s.coils.put k r := rfl
@[simp] theorem State.setCoil_units (s : State) (k : Fin 6) (r : CoilSeq) : (s.setCoil k r).units = s.units := rfl
@[simp] theorem State.setCoil_demands (s : State) (k : Fin 6) (r : CoilSeq) : (s.setCoil k r).demands = s.demands := rfl
@[simp] theorem State.setCoil_outputs (s : State) (k : Fin 6) (r : CoilSeq) : (s.setCoil k r).outputs = s.outputs := rfl
@[simp] theorem State.setCoil_pins (s : State) (k : Fin 6) (r : CoilSeq) : (s.setCoil k r).pins = s.pins := rfl
@[simp] theorem State.setCoil_inputs (s : State) (k : Fin 6) (r : CoilSeq) : (s.setCoil k r).inputs = s.inputs := rfl
@[simp] theorem State.setCoil_alerts (s : State) (k : Fin 6) (r : CoilSeq) : (s.setCoil k r).alerts = s.alerts := rfl
@[simp] theorem State.setCoil_alertLine (s : State) (k : Fin 6) (r : CoilSeq) : (s.setCoil k r).alertLine = s.alertLine := rfl
@[simp] theorem State.setCoil_link (s : State) (k : Fin 6) (r : CoilSeq) : (s.setCoil k r).link = s.link := rfl
@[simp] theorem State.setCoil_freeUses (s : State) (k : Fin 6) (r : CoilSeq) : (s.setCoil k r).freeUses = s.freeUses := rfl
@[simp] theorem State.setCoil_pending (s : State) (k : Fin 6) (r : CoilSeq) : (s.setCoil k r).pending = s.pending := rfl

/-! ## setExposure -/

@[simp] theorem State.setExposure_power (s : State) (k : Fin 6) (r : Exposure) : (s.setExposure k r).power = s.power := rfl
@[simp] theorem State.setExposure_mode (s : State) (k : Fin 6) (r : Exposure) : (s.setExposure k r).mode = s.mode := rfl
@[simp] theorem State.setExposure_strap (s : State) (k : Fin 6) (r : Exposure) : (s.setExposure k r).strap = s.strap := rfl
@[simp] theorem State.setExposure_validation (s : State) (k : Fin 6) (r : Exposure) : (s.setExposure k r).validation = s.validation := rfl
@[simp] theorem State.setExposure_plantSeconds (s : State) (k : Fin 6) (r : Exposure) : (s.setExposure k r).plantSeconds = s.plantSeconds := rfl
@[simp] theorem State.setExposure_tables (s : State) (k : Fin 6) (r : Exposure) : (s.setExposure k r).tables = s.tables := rfl
@[simp] theorem State.setExposure_image (s : State) (k : Fin 6) (r : Exposure) : (s.setExposure k r).image = s.image := rfl
@[simp] theorem State.setExposure_area (s : State) (k : Fin 6) (r : Exposure) : (s.setExposure k r).area = s.area := rfl
@[simp] theorem State.setExposure_imageInvalid (s : State) (k : Fin 6) (r : Exposure) : (s.setExposure k r).imageInvalid = s.imageInvalid := rfl
@[simp] theorem State.setExposure_areaDirty (s : State) (k : Fin 6) (r : Exposure) : (s.setExposure k r).areaDirty = s.areaDirty := rfl
@[simp] theorem State.setExposure_store (s : State) (k : Fin 6) (r : Exposure) : (s.setExposure k r).store = s.store := rfl
@[simp] theorem State.setExposure_sampler (s : State) (k : Fin 6) (r : Exposure) : (s.setExposure k r).sampler = s.sampler := rfl
@[simp] theorem State.setExposure_channels (s : State) (k : Fin 6) (r : Exposure) : (s.setExposure k r).channels = s.channels := rfl
@[simp] theorem State.setExposure_detectors (s : State) (k : Fin 6) (r : Exposure) : (s.setExposure k r).detectors = s.detectors := rfl
@[simp] theorem State.setExposure_masters (s : State) (k : Fin 6) (r : Exposure) : (s.setExposure k r).masters = s.masters := rfl
@[simp] theorem State.setExposure_health (s : State) (k : Fin 6) (r : Exposure) : (s.setExposure k r).health = s.health := rfl
@[simp] theorem State.setExposure_faces (s : State) (k : Fin 6) (r : Exposure) : (s.setExposure k r).faces = s.faces := rfl
@[simp] theorem State.setExposure_exposures (s : State) (k : Fin 6) (r : Exposure) : (s.setExposure k r).exposures = s.exposures.put k r := rfl
@[simp] theorem State.setExposure_coils (s : State) (k : Fin 6) (r : Exposure) : (s.setExposure k r).coils = s.coils := rfl
@[simp] theorem State.setExposure_units (s : State) (k : Fin 6) (r : Exposure) : (s.setExposure k r).units = s.units := rfl
@[simp] theorem State.setExposure_demands (s : State) (k : Fin 6) (r : Exposure) : (s.setExposure k r).demands = s.demands := rfl
@[simp] theorem State.setExposure_outputs (s : State) (k : Fin 6) (r : Exposure) : (s.setExposure k r).outputs = s.outputs := rfl
@[simp] theorem State.setExposure_pins (s : State) (k : Fin 6) (r : Exposure) : (s.setExposure k r).pins = s.pins := rfl
@[simp] theorem State.setExposure_inputs (s : State) (k : Fin 6) (r : Exposure) : (s.setExposure k r).inputs = s.inputs := rfl
@[simp] theorem State.setExposure_alerts (s : State) (k : Fin 6) (r : Exposure) : (s.setExposure k r).alerts = s.alerts := rfl
@[simp] theorem State.setExposure_alertLine (s : State) (k : Fin 6) (r : Exposure) : (s.setExposure k r).alertLine = s.alertLine := rfl
@[simp] theorem State.setExposure_link (s : State) (k : Fin 6) (r : Exposure) : (s.setExposure k r).link = s.link := rfl
@[simp] theorem State.setExposure_freeUses (s : State) (k : Fin 6) (r : Exposure) : (s.setExposure k r).freeUses = s.freeUses := rfl
@[simp] theorem State.setExposure_pending (s : State) (k : Fin 6) (r : Exposure) : (s.setExposure k r).pending = s.pending := rfl

/-! ## setFace -/

@[simp] theorem State.setFace_power (s : State) (k : Fin 6) (r : Face) : (s.setFace k r).power = s.power := rfl
@[simp] theorem State.setFace_mode (s : State) (k : Fin 6) (r : Face) : (s.setFace k r).mode = s.mode := rfl
@[simp] theorem State.setFace_strap (s : State) (k : Fin 6) (r : Face) : (s.setFace k r).strap = s.strap := rfl
@[simp] theorem State.setFace_validation (s : State) (k : Fin 6) (r : Face) : (s.setFace k r).validation = s.validation := rfl
@[simp] theorem State.setFace_plantSeconds (s : State) (k : Fin 6) (r : Face) : (s.setFace k r).plantSeconds = s.plantSeconds := rfl
@[simp] theorem State.setFace_tables (s : State) (k : Fin 6) (r : Face) : (s.setFace k r).tables = s.tables := rfl
@[simp] theorem State.setFace_image (s : State) (k : Fin 6) (r : Face) : (s.setFace k r).image = s.image := rfl
@[simp] theorem State.setFace_area (s : State) (k : Fin 6) (r : Face) : (s.setFace k r).area = s.area := rfl
@[simp] theorem State.setFace_imageInvalid (s : State) (k : Fin 6) (r : Face) : (s.setFace k r).imageInvalid = s.imageInvalid := rfl
@[simp] theorem State.setFace_areaDirty (s : State) (k : Fin 6) (r : Face) : (s.setFace k r).areaDirty = s.areaDirty := rfl
@[simp] theorem State.setFace_store (s : State) (k : Fin 6) (r : Face) : (s.setFace k r).store = s.store := rfl
@[simp] theorem State.setFace_sampler (s : State) (k : Fin 6) (r : Face) : (s.setFace k r).sampler = s.sampler := rfl
@[simp] theorem State.setFace_channels (s : State) (k : Fin 6) (r : Face) : (s.setFace k r).channels = s.channels := rfl
@[simp] theorem State.setFace_detectors (s : State) (k : Fin 6) (r : Face) : (s.setFace k r).detectors = s.detectors := rfl
@[simp] theorem State.setFace_masters (s : State) (k : Fin 6) (r : Face) : (s.setFace k r).masters = s.masters := rfl
@[simp] theorem State.setFace_health (s : State) (k : Fin 6) (r : Face) : (s.setFace k r).health = s.health := rfl
@[simp] theorem State.setFace_faces (s : State) (k : Fin 6) (r : Face) : (s.setFace k r).faces = s.faces.put k r := rfl
@[simp] theorem State.setFace_exposures (s : State) (k : Fin 6) (r : Face) : (s.setFace k r).exposures = s.exposures := rfl
@[simp] theorem State.setFace_coils (s : State) (k : Fin 6) (r : Face) : (s.setFace k r).coils = s.coils := rfl
@[simp] theorem State.setFace_units (s : State) (k : Fin 6) (r : Face) : (s.setFace k r).units = s.units := rfl
@[simp] theorem State.setFace_demands (s : State) (k : Fin 6) (r : Face) : (s.setFace k r).demands = s.demands := rfl
@[simp] theorem State.setFace_outputs (s : State) (k : Fin 6) (r : Face) : (s.setFace k r).outputs = s.outputs := rfl
@[simp] theorem State.setFace_pins (s : State) (k : Fin 6) (r : Face) : (s.setFace k r).pins = s.pins := rfl
@[simp] theorem State.setFace_inputs (s : State) (k : Fin 6) (r : Face) : (s.setFace k r).inputs = s.inputs := rfl
@[simp] theorem State.setFace_alerts (s : State) (k : Fin 6) (r : Face) : (s.setFace k r).alerts = s.alerts := rfl
@[simp] theorem State.setFace_alertLine (s : State) (k : Fin 6) (r : Face) : (s.setFace k r).alertLine = s.alertLine := rfl
@[simp] theorem State.setFace_link (s : State) (k : Fin 6) (r : Face) : (s.setFace k r).link = s.link := rfl
@[simp] theorem State.setFace_freeUses (s : State) (k : Fin 6) (r : Face) : (s.setFace k r).freeUses = s.freeUses := rfl
@[simp] theorem State.setFace_pending (s : State) (k : Fin 6) (r : Face) : (s.setFace k r).pending = s.pending := rfl

/-! ## setDetector -/

@[simp] theorem State.setDetector_power (s : State) (k : Fin 6) (r : Detector) : (s.setDetector k r).power = s.power := rfl
@[simp] theorem State.setDetector_mode (s : State) (k : Fin 6) (r : Detector) : (s.setDetector k r).mode = s.mode := rfl
@[simp] theorem State.setDetector_strap (s : State) (k : Fin 6) (r : Detector) : (s.setDetector k r).strap = s.strap := rfl
@[simp] theorem State.setDetector_validation (s : State) (k : Fin 6) (r : Detector) : (s.setDetector k r).validation = s.validation := rfl
@[simp] theorem State.setDetector_plantSeconds (s : State) (k : Fin 6) (r : Detector) : (s.setDetector k r).plantSeconds = s.plantSeconds := rfl
@[simp] theorem State.setDetector_tables (s : State) (k : Fin 6) (r : Detector) : (s.setDetector k r).tables = s.tables := rfl
@[simp] theorem State.setDetector_image (s : State) (k : Fin 6) (r : Detector) : (s.setDetector k r).image = s.image := rfl
@[simp] theorem State.setDetector_area (s : State) (k : Fin 6) (r : Detector) : (s.setDetector k r).area = s.area := rfl
@[simp] theorem State.setDetector_imageInvalid (s : State) (k : Fin 6) (r : Detector) : (s.setDetector k r).imageInvalid = s.imageInvalid := rfl
@[simp] theorem State.setDetector_areaDirty (s : State) (k : Fin 6) (r : Detector) : (s.setDetector k r).areaDirty = s.areaDirty := rfl
@[simp] theorem State.setDetector_store (s : State) (k : Fin 6) (r : Detector) : (s.setDetector k r).store = s.store := rfl
@[simp] theorem State.setDetector_sampler (s : State) (k : Fin 6) (r : Detector) : (s.setDetector k r).sampler = s.sampler := rfl
@[simp] theorem State.setDetector_channels (s : State) (k : Fin 6) (r : Detector) : (s.setDetector k r).channels = s.channels := rfl
@[simp] theorem State.setDetector_detectors (s : State) (k : Fin 6) (r : Detector) : (s.setDetector k r).detectors = s.detectors.put k r := rfl
@[simp] theorem State.setDetector_masters (s : State) (k : Fin 6) (r : Detector) : (s.setDetector k r).masters = s.masters := rfl
@[simp] theorem State.setDetector_health (s : State) (k : Fin 6) (r : Detector) : (s.setDetector k r).health = s.health := rfl
@[simp] theorem State.setDetector_faces (s : State) (k : Fin 6) (r : Detector) : (s.setDetector k r).faces = s.faces := rfl
@[simp] theorem State.setDetector_exposures (s : State) (k : Fin 6) (r : Detector) : (s.setDetector k r).exposures = s.exposures := rfl
@[simp] theorem State.setDetector_coils (s : State) (k : Fin 6) (r : Detector) : (s.setDetector k r).coils = s.coils := rfl
@[simp] theorem State.setDetector_units (s : State) (k : Fin 6) (r : Detector) : (s.setDetector k r).units = s.units := rfl
@[simp] theorem State.setDetector_demands (s : State) (k : Fin 6) (r : Detector) : (s.setDetector k r).demands = s.demands := rfl
@[simp] theorem State.setDetector_outputs (s : State) (k : Fin 6) (r : Detector) : (s.setDetector k r).outputs = s.outputs := rfl
@[simp] theorem State.setDetector_pins (s : State) (k : Fin 6) (r : Detector) : (s.setDetector k r).pins = s.pins := rfl
@[simp] theorem State.setDetector_inputs (s : State) (k : Fin 6) (r : Detector) : (s.setDetector k r).inputs = s.inputs := rfl
@[simp] theorem State.setDetector_alerts (s : State) (k : Fin 6) (r : Detector) : (s.setDetector k r).alerts = s.alerts := rfl
@[simp] theorem State.setDetector_alertLine (s : State) (k : Fin 6) (r : Detector) : (s.setDetector k r).alertLine = s.alertLine := rfl
@[simp] theorem State.setDetector_link (s : State) (k : Fin 6) (r : Detector) : (s.setDetector k r).link = s.link := rfl
@[simp] theorem State.setDetector_freeUses (s : State) (k : Fin 6) (r : Detector) : (s.setDetector k r).freeUses = s.freeUses := rfl
@[simp] theorem State.setDetector_pending (s : State) (k : Fin 6) (r : Detector) : (s.setDetector k r).pending = s.pending := rfl

/-! ## setUnit -/

@[simp] theorem State.setUnit_power (s : State) (u : Fin 3) (r : UnitRec) : (s.setUnit u r).power = s.power := rfl
@[simp] theorem State.setUnit_mode (s : State) (u : Fin 3) (r : UnitRec) : (s.setUnit u r).mode = s.mode := rfl
@[simp] theorem State.setUnit_strap (s : State) (u : Fin 3) (r : UnitRec) : (s.setUnit u r).strap = s.strap := rfl
@[simp] theorem State.setUnit_validation (s : State) (u : Fin 3) (r : UnitRec) : (s.setUnit u r).validation = s.validation := rfl
@[simp] theorem State.setUnit_plantSeconds (s : State) (u : Fin 3) (r : UnitRec) : (s.setUnit u r).plantSeconds = s.plantSeconds := rfl
@[simp] theorem State.setUnit_tables (s : State) (u : Fin 3) (r : UnitRec) : (s.setUnit u r).tables = s.tables := rfl
@[simp] theorem State.setUnit_image (s : State) (u : Fin 3) (r : UnitRec) : (s.setUnit u r).image = s.image := rfl
@[simp] theorem State.setUnit_area (s : State) (u : Fin 3) (r : UnitRec) : (s.setUnit u r).area = s.area := rfl
@[simp] theorem State.setUnit_imageInvalid (s : State) (u : Fin 3) (r : UnitRec) : (s.setUnit u r).imageInvalid = s.imageInvalid := rfl
@[simp] theorem State.setUnit_areaDirty (s : State) (u : Fin 3) (r : UnitRec) : (s.setUnit u r).areaDirty = s.areaDirty := rfl
@[simp] theorem State.setUnit_store (s : State) (u : Fin 3) (r : UnitRec) : (s.setUnit u r).store = s.store := rfl
@[simp] theorem State.setUnit_sampler (s : State) (u : Fin 3) (r : UnitRec) : (s.setUnit u r).sampler = s.sampler := rfl
@[simp] theorem State.setUnit_channels (s : State) (u : Fin 3) (r : UnitRec) : (s.setUnit u r).channels = s.channels := rfl
@[simp] theorem State.setUnit_detectors (s : State) (u : Fin 3) (r : UnitRec) : (s.setUnit u r).detectors = s.detectors := rfl
@[simp] theorem State.setUnit_masters (s : State) (u : Fin 3) (r : UnitRec) : (s.setUnit u r).masters = s.masters := rfl
@[simp] theorem State.setUnit_health (s : State) (u : Fin 3) (r : UnitRec) : (s.setUnit u r).health = s.health := rfl
@[simp] theorem State.setUnit_faces (s : State) (u : Fin 3) (r : UnitRec) : (s.setUnit u r).faces = s.faces := rfl
@[simp] theorem State.setUnit_exposures (s : State) (u : Fin 3) (r : UnitRec) : (s.setUnit u r).exposures = s.exposures := rfl
@[simp] theorem State.setUnit_coils (s : State) (u : Fin 3) (r : UnitRec) : (s.setUnit u r).coils = s.coils := rfl
@[simp] theorem State.setUnit_units (s : State) (u : Fin 3) (r : UnitRec) : (s.setUnit u r).units = s.units.put u r := rfl
@[simp] theorem State.setUnit_demands (s : State) (u : Fin 3) (r : UnitRec) : (s.setUnit u r).demands = s.demands := rfl
@[simp] theorem State.setUnit_outputs (s : State) (u : Fin 3) (r : UnitRec) : (s.setUnit u r).outputs = s.outputs := rfl
@[simp] theorem State.setUnit_pins (s : State) (u : Fin 3) (r : UnitRec) : (s.setUnit u r).pins = s.pins := rfl
@[simp] theorem State.setUnit_inputs (s : State) (u : Fin 3) (r : UnitRec) : (s.setUnit u r).inputs = s.inputs := rfl
@[simp] theorem State.setUnit_alerts (s : State) (u : Fin 3) (r : UnitRec) : (s.setUnit u r).alerts = s.alerts := rfl
@[simp] theorem State.setUnit_alertLine (s : State) (u : Fin 3) (r : UnitRec) : (s.setUnit u r).alertLine = s.alertLine := rfl
@[simp] theorem State.setUnit_link (s : State) (u : Fin 3) (r : UnitRec) : (s.setUnit u r).link = s.link := rfl
@[simp] theorem State.setUnit_freeUses (s : State) (u : Fin 3) (r : UnitRec) : (s.setUnit u r).freeUses = s.freeUses := rfl
@[simp] theorem State.setUnit_pending (s : State) (u : Fin 3) (r : UnitRec) : (s.setUnit u r).pending = s.pending := rfl

/-! ## setMaster -/

@[simp] theorem State.setMaster_power (s : State) (g : Fin 3) (r : Master) : (s.setMaster g r).power = s.power := rfl
@[simp] theorem State.setMaster_mode (s : State) (g : Fin 3) (r : Master) : (s.setMaster g r).mode = s.mode := rfl
@[simp] theorem State.setMaster_strap (s : State) (g : Fin 3) (r : Master) : (s.setMaster g r).strap = s.strap := rfl
@[simp] theorem State.setMaster_validation (s : State) (g : Fin 3) (r : Master) : (s.setMaster g r).validation = s.validation := rfl
@[simp] theorem State.setMaster_plantSeconds (s : State) (g : Fin 3) (r : Master) : (s.setMaster g r).plantSeconds = s.plantSeconds := rfl
@[simp] theorem State.setMaster_tables (s : State) (g : Fin 3) (r : Master) : (s.setMaster g r).tables = s.tables := rfl
@[simp] theorem State.setMaster_image (s : State) (g : Fin 3) (r : Master) : (s.setMaster g r).image = s.image := rfl
@[simp] theorem State.setMaster_area (s : State) (g : Fin 3) (r : Master) : (s.setMaster g r).area = s.area := rfl
@[simp] theorem State.setMaster_imageInvalid (s : State) (g : Fin 3) (r : Master) : (s.setMaster g r).imageInvalid = s.imageInvalid := rfl
@[simp] theorem State.setMaster_areaDirty (s : State) (g : Fin 3) (r : Master) : (s.setMaster g r).areaDirty = s.areaDirty := rfl
@[simp] theorem State.setMaster_store (s : State) (g : Fin 3) (r : Master) : (s.setMaster g r).store = s.store := rfl
@[simp] theorem State.setMaster_sampler (s : State) (g : Fin 3) (r : Master) : (s.setMaster g r).sampler = s.sampler := rfl
@[simp] theorem State.setMaster_channels (s : State) (g : Fin 3) (r : Master) : (s.setMaster g r).channels = s.channels := rfl
@[simp] theorem State.setMaster_detectors (s : State) (g : Fin 3) (r : Master) : (s.setMaster g r).detectors = s.detectors := rfl
@[simp] theorem State.setMaster_masters (s : State) (g : Fin 3) (r : Master) : (s.setMaster g r).masters = s.masters.put g r := rfl
@[simp] theorem State.setMaster_health (s : State) (g : Fin 3) (r : Master) : (s.setMaster g r).health = s.health := rfl
@[simp] theorem State.setMaster_faces (s : State) (g : Fin 3) (r : Master) : (s.setMaster g r).faces = s.faces := rfl
@[simp] theorem State.setMaster_exposures (s : State) (g : Fin 3) (r : Master) : (s.setMaster g r).exposures = s.exposures := rfl
@[simp] theorem State.setMaster_coils (s : State) (g : Fin 3) (r : Master) : (s.setMaster g r).coils = s.coils := rfl
@[simp] theorem State.setMaster_units (s : State) (g : Fin 3) (r : Master) : (s.setMaster g r).units = s.units := rfl
@[simp] theorem State.setMaster_demands (s : State) (g : Fin 3) (r : Master) : (s.setMaster g r).demands = s.demands := rfl
@[simp] theorem State.setMaster_outputs (s : State) (g : Fin 3) (r : Master) : (s.setMaster g r).outputs = s.outputs := rfl
@[simp] theorem State.setMaster_pins (s : State) (g : Fin 3) (r : Master) : (s.setMaster g r).pins = s.pins := rfl
@[simp] theorem State.setMaster_inputs (s : State) (g : Fin 3) (r : Master) : (s.setMaster g r).inputs = s.inputs := rfl
@[simp] theorem State.setMaster_alerts (s : State) (g : Fin 3) (r : Master) : (s.setMaster g r).alerts = s.alerts := rfl
@[simp] theorem State.setMaster_alertLine (s : State) (g : Fin 3) (r : Master) : (s.setMaster g r).alertLine = s.alertLine := rfl
@[simp] theorem State.setMaster_link (s : State) (g : Fin 3) (r : Master) : (s.setMaster g r).link = s.link := rfl
@[simp] theorem State.setMaster_freeUses (s : State) (g : Fin 3) (r : Master) : (s.setMaster g r).freeUses = s.freeUses := rfl
@[simp] theorem State.setMaster_pending (s : State) (g : Fin 3) (r : Master) : (s.setMaster g r).pending = s.pending := rfl

/-! ## setHealth -/

@[simp] theorem State.setHealth_power (s : State) (p : Fin 48) (r : Health) : (s.setHealth p r).power = s.power := rfl
@[simp] theorem State.setHealth_mode (s : State) (p : Fin 48) (r : Health) : (s.setHealth p r).mode = s.mode := rfl
@[simp] theorem State.setHealth_strap (s : State) (p : Fin 48) (r : Health) : (s.setHealth p r).strap = s.strap := rfl
@[simp] theorem State.setHealth_validation (s : State) (p : Fin 48) (r : Health) : (s.setHealth p r).validation = s.validation := rfl
@[simp] theorem State.setHealth_plantSeconds (s : State) (p : Fin 48) (r : Health) : (s.setHealth p r).plantSeconds = s.plantSeconds := rfl
@[simp] theorem State.setHealth_tables (s : State) (p : Fin 48) (r : Health) : (s.setHealth p r).tables = s.tables := rfl
@[simp] theorem State.setHealth_image (s : State) (p : Fin 48) (r : Health) : (s.setHealth p r).image = s.image := rfl
@[simp] theorem State.setHealth_area (s : State) (p : Fin 48) (r : Health) : (s.setHealth p r).area = s.area := rfl
@[simp] theorem State.setHealth_imageInvalid (s : State) (p : Fin 48) (r : Health) : (s.setHealth p r).imageInvalid = s.imageInvalid := rfl
@[simp] theorem State.setHealth_areaDirty (s : State) (p : Fin 48) (r : Health) : (s.setHealth p r).areaDirty = s.areaDirty := rfl
@[simp] theorem State.setHealth_store (s : State) (p : Fin 48) (r : Health) : (s.setHealth p r).store = s.store := rfl
@[simp] theorem State.setHealth_sampler (s : State) (p : Fin 48) (r : Health) : (s.setHealth p r).sampler = s.sampler := rfl
@[simp] theorem State.setHealth_channels (s : State) (p : Fin 48) (r : Health) : (s.setHealth p r).channels = s.channels := rfl
@[simp] theorem State.setHealth_detectors (s : State) (p : Fin 48) (r : Health) : (s.setHealth p r).detectors = s.detectors := rfl
@[simp] theorem State.setHealth_masters (s : State) (p : Fin 48) (r : Health) : (s.setHealth p r).masters = s.masters := rfl
@[simp] theorem State.setHealth_health (s : State) (p : Fin 48) (r : Health) : (s.setHealth p r).health = s.health.put p r := rfl
@[simp] theorem State.setHealth_faces (s : State) (p : Fin 48) (r : Health) : (s.setHealth p r).faces = s.faces := rfl
@[simp] theorem State.setHealth_exposures (s : State) (p : Fin 48) (r : Health) : (s.setHealth p r).exposures = s.exposures := rfl
@[simp] theorem State.setHealth_coils (s : State) (p : Fin 48) (r : Health) : (s.setHealth p r).coils = s.coils := rfl
@[simp] theorem State.setHealth_units (s : State) (p : Fin 48) (r : Health) : (s.setHealth p r).units = s.units := rfl
@[simp] theorem State.setHealth_demands (s : State) (p : Fin 48) (r : Health) : (s.setHealth p r).demands = s.demands := rfl
@[simp] theorem State.setHealth_outputs (s : State) (p : Fin 48) (r : Health) : (s.setHealth p r).outputs = s.outputs := rfl
@[simp] theorem State.setHealth_pins (s : State) (p : Fin 48) (r : Health) : (s.setHealth p r).pins = s.pins := rfl
@[simp] theorem State.setHealth_inputs (s : State) (p : Fin 48) (r : Health) : (s.setHealth p r).inputs = s.inputs := rfl
@[simp] theorem State.setHealth_alerts (s : State) (p : Fin 48) (r : Health) : (s.setHealth p r).alerts = s.alerts := rfl
@[simp] theorem State.setHealth_alertLine (s : State) (p : Fin 48) (r : Health) : (s.setHealth p r).alertLine = s.alertLine := rfl
@[simp] theorem State.setHealth_link (s : State) (p : Fin 48) (r : Health) : (s.setHealth p r).link = s.link := rfl
@[simp] theorem State.setHealth_freeUses (s : State) (p : Fin 48) (r : Health) : (s.setHealth p r).freeUses = s.freeUses := rfl
@[simp] theorem State.setHealth_pending (s : State) (p : Fin 48) (r : Health) : (s.setHealth p r).pending = s.pending := rfl

/-! ## setChannel -/

@[simp] theorem State.setChannel_power (s : State) (c : Fin 16) (r : ChannelRec) : (s.setChannel c r).power = s.power := rfl
@[simp] theorem State.setChannel_mode (s : State) (c : Fin 16) (r : ChannelRec) : (s.setChannel c r).mode = s.mode := rfl
@[simp] theorem State.setChannel_strap (s : State) (c : Fin 16) (r : ChannelRec) : (s.setChannel c r).strap = s.strap := rfl
@[simp] theorem State.setChannel_validation (s : State) (c : Fin 16) (r : ChannelRec) : (s.setChannel c r).validation = s.validation := rfl
@[simp] theorem State.setChannel_plantSeconds (s : State) (c : Fin 16) (r : ChannelRec) : (s.setChannel c r).plantSeconds = s.plantSeconds := rfl
@[simp] theorem State.setChannel_tables (s : State) (c : Fin 16) (r : ChannelRec) : (s.setChannel c r).tables = s.tables := rfl
@[simp] theorem State.setChannel_image (s : State) (c : Fin 16) (r : ChannelRec) : (s.setChannel c r).image = s.image := rfl
@[simp] theorem State.setChannel_area (s : State) (c : Fin 16) (r : ChannelRec) : (s.setChannel c r).area = s.area := rfl
@[simp] theorem State.setChannel_imageInvalid (s : State) (c : Fin 16) (r : ChannelRec) : (s.setChannel c r).imageInvalid = s.imageInvalid := rfl
@[simp] theorem State.setChannel_areaDirty (s : State) (c : Fin 16) (r : ChannelRec) : (s.setChannel c r).areaDirty = s.areaDirty := rfl
@[simp] theorem State.setChannel_store (s : State) (c : Fin 16) (r : ChannelRec) : (s.setChannel c r).store = s.store := rfl
@[simp] theorem State.setChannel_sampler (s : State) (c : Fin 16) (r : ChannelRec) : (s.setChannel c r).sampler = s.sampler := rfl
@[simp] theorem State.setChannel_channels (s : State) (c : Fin 16) (r : ChannelRec) : (s.setChannel c r).channels = s.channels.put c r := rfl
@[simp] theorem State.setChannel_detectors (s : State) (c : Fin 16) (r : ChannelRec) : (s.setChannel c r).detectors = s.detectors := rfl
@[simp] theorem State.setChannel_masters (s : State) (c : Fin 16) (r : ChannelRec) : (s.setChannel c r).masters = s.masters := rfl
@[simp] theorem State.setChannel_health (s : State) (c : Fin 16) (r : ChannelRec) : (s.setChannel c r).health = s.health := rfl
@[simp] theorem State.setChannel_faces (s : State) (c : Fin 16) (r : ChannelRec) : (s.setChannel c r).faces = s.faces := rfl
@[simp] theorem State.setChannel_exposures (s : State) (c : Fin 16) (r : ChannelRec) : (s.setChannel c r).exposures = s.exposures := rfl
@[simp] theorem State.setChannel_coils (s : State) (c : Fin 16) (r : ChannelRec) : (s.setChannel c r).coils = s.coils := rfl
@[simp] theorem State.setChannel_units (s : State) (c : Fin 16) (r : ChannelRec) : (s.setChannel c r).units = s.units := rfl
@[simp] theorem State.setChannel_demands (s : State) (c : Fin 16) (r : ChannelRec) : (s.setChannel c r).demands = s.demands := rfl
@[simp] theorem State.setChannel_outputs (s : State) (c : Fin 16) (r : ChannelRec) : (s.setChannel c r).outputs = s.outputs := rfl
@[simp] theorem State.setChannel_pins (s : State) (c : Fin 16) (r : ChannelRec) : (s.setChannel c r).pins = s.pins := rfl
@[simp] theorem State.setChannel_inputs (s : State) (c : Fin 16) (r : ChannelRec) : (s.setChannel c r).inputs = s.inputs := rfl
@[simp] theorem State.setChannel_alerts (s : State) (c : Fin 16) (r : ChannelRec) : (s.setChannel c r).alerts = s.alerts := rfl
@[simp] theorem State.setChannel_alertLine (s : State) (c : Fin 16) (r : ChannelRec) : (s.setChannel c r).alertLine = s.alertLine := rfl
@[simp] theorem State.setChannel_link (s : State) (c : Fin 16) (r : ChannelRec) : (s.setChannel c r).link = s.link := rfl
@[simp] theorem State.setChannel_freeUses (s : State) (c : Fin 16) (r : ChannelRec) : (s.setChannel c r).freeUses = s.freeUses := rfl
@[simp] theorem State.setChannel_pending (s : State) (c : Fin 16) (r : ChannelRec) : (s.setChannel c r).pending = s.pending := rfl

/-! ## setDemand -/

@[simp] theorem State.setDemand_power (s : State) (o : Fin 18) (r : Demand) : (s.setDemand o r).power = s.power := rfl
@[simp] theorem State.setDemand_mode (s : State) (o : Fin 18) (r : Demand) : (s.setDemand o r).mode = s.mode := rfl
@[simp] theorem State.setDemand_strap (s : State) (o : Fin 18) (r : Demand) : (s.setDemand o r).strap = s.strap := rfl
@[simp] theorem State.setDemand_validation (s : State) (o : Fin 18) (r : Demand) : (s.setDemand o r).validation = s.validation := rfl
@[simp] theorem State.setDemand_plantSeconds (s : State) (o : Fin 18) (r : Demand) : (s.setDemand o r).plantSeconds = s.plantSeconds := rfl
@[simp] theorem State.setDemand_tables (s : State) (o : Fin 18) (r : Demand) : (s.setDemand o r).tables = s.tables := rfl
@[simp] theorem State.setDemand_image (s : State) (o : Fin 18) (r : Demand) : (s.setDemand o r).image = s.image := rfl
@[simp] theorem State.setDemand_area (s : State) (o : Fin 18) (r : Demand) : (s.setDemand o r).area = s.area := rfl
@[simp] theorem State.setDemand_imageInvalid (s : State) (o : Fin 18) (r : Demand) : (s.setDemand o r).imageInvalid = s.imageInvalid := rfl
@[simp] theorem State.setDemand_areaDirty (s : State) (o : Fin 18) (r : Demand) : (s.setDemand o r).areaDirty = s.areaDirty := rfl
@[simp] theorem State.setDemand_store (s : State) (o : Fin 18) (r : Demand) : (s.setDemand o r).store = s.store := rfl
@[simp] theorem State.setDemand_sampler (s : State) (o : Fin 18) (r : Demand) : (s.setDemand o r).sampler = s.sampler := rfl
@[simp] theorem State.setDemand_channels (s : State) (o : Fin 18) (r : Demand) : (s.setDemand o r).channels = s.channels := rfl
@[simp] theorem State.setDemand_detectors (s : State) (o : Fin 18) (r : Demand) : (s.setDemand o r).detectors = s.detectors := rfl
@[simp] theorem State.setDemand_masters (s : State) (o : Fin 18) (r : Demand) : (s.setDemand o r).masters = s.masters := rfl
@[simp] theorem State.setDemand_health (s : State) (o : Fin 18) (r : Demand) : (s.setDemand o r).health = s.health := rfl
@[simp] theorem State.setDemand_faces (s : State) (o : Fin 18) (r : Demand) : (s.setDemand o r).faces = s.faces := rfl
@[simp] theorem State.setDemand_exposures (s : State) (o : Fin 18) (r : Demand) : (s.setDemand o r).exposures = s.exposures := rfl
@[simp] theorem State.setDemand_coils (s : State) (o : Fin 18) (r : Demand) : (s.setDemand o r).coils = s.coils := rfl
@[simp] theorem State.setDemand_units (s : State) (o : Fin 18) (r : Demand) : (s.setDemand o r).units = s.units := rfl
@[simp] theorem State.setDemand_demands (s : State) (o : Fin 18) (r : Demand) : (s.setDemand o r).demands = s.demands.put o r := rfl
@[simp] theorem State.setDemand_outputs (s : State) (o : Fin 18) (r : Demand) : (s.setDemand o r).outputs = s.outputs := rfl
@[simp] theorem State.setDemand_pins (s : State) (o : Fin 18) (r : Demand) : (s.setDemand o r).pins = s.pins := rfl
@[simp] theorem State.setDemand_inputs (s : State) (o : Fin 18) (r : Demand) : (s.setDemand o r).inputs = s.inputs := rfl
@[simp] theorem State.setDemand_alerts (s : State) (o : Fin 18) (r : Demand) : (s.setDemand o r).alerts = s.alerts := rfl
@[simp] theorem State.setDemand_alertLine (s : State) (o : Fin 18) (r : Demand) : (s.setDemand o r).alertLine = s.alertLine := rfl
@[simp] theorem State.setDemand_link (s : State) (o : Fin 18) (r : Demand) : (s.setDemand o r).link = s.link := rfl
@[simp] theorem State.setDemand_freeUses (s : State) (o : Fin 18) (r : Demand) : (s.setDemand o r).freeUses = s.freeUses := rfl
@[simp] theorem State.setDemand_pending (s : State) (o : Fin 18) (r : Demand) : (s.setDemand o r).pending = s.pending := rfl

/-! ## setInput -/

@[simp] theorem State.setInput_power (s : State) (i : Fin 15) (r : InputRec) : (s.setInput i r).power = s.power := rfl
@[simp] theorem State.setInput_mode (s : State) (i : Fin 15) (r : InputRec) : (s.setInput i r).mode = s.mode := rfl
@[simp] theorem State.setInput_strap (s : State) (i : Fin 15) (r : InputRec) : (s.setInput i r).strap = s.strap := rfl
@[simp] theorem State.setInput_validation (s : State) (i : Fin 15) (r : InputRec) : (s.setInput i r).validation = s.validation := rfl
@[simp] theorem State.setInput_plantSeconds (s : State) (i : Fin 15) (r : InputRec) : (s.setInput i r).plantSeconds = s.plantSeconds := rfl
@[simp] theorem State.setInput_tables (s : State) (i : Fin 15) (r : InputRec) : (s.setInput i r).tables = s.tables := rfl
@[simp] theorem State.setInput_image (s : State) (i : Fin 15) (r : InputRec) : (s.setInput i r).image = s.image := rfl
@[simp] theorem State.setInput_area (s : State) (i : Fin 15) (r : InputRec) : (s.setInput i r).area = s.area := rfl
@[simp] theorem State.setInput_imageInvalid (s : State) (i : Fin 15) (r : InputRec) : (s.setInput i r).imageInvalid = s.imageInvalid := rfl
@[simp] theorem State.setInput_areaDirty (s : State) (i : Fin 15) (r : InputRec) : (s.setInput i r).areaDirty = s.areaDirty := rfl
@[simp] theorem State.setInput_store (s : State) (i : Fin 15) (r : InputRec) : (s.setInput i r).store = s.store := rfl
@[simp] theorem State.setInput_sampler (s : State) (i : Fin 15) (r : InputRec) : (s.setInput i r).sampler = s.sampler := rfl
@[simp] theorem State.setInput_channels (s : State) (i : Fin 15) (r : InputRec) : (s.setInput i r).channels = s.channels := rfl
@[simp] theorem State.setInput_detectors (s : State) (i : Fin 15) (r : InputRec) : (s.setInput i r).detectors = s.detectors := rfl
@[simp] theorem State.setInput_masters (s : State) (i : Fin 15) (r : InputRec) : (s.setInput i r).masters = s.masters := rfl
@[simp] theorem State.setInput_health (s : State) (i : Fin 15) (r : InputRec) : (s.setInput i r).health = s.health := rfl
@[simp] theorem State.setInput_faces (s : State) (i : Fin 15) (r : InputRec) : (s.setInput i r).faces = s.faces := rfl
@[simp] theorem State.setInput_exposures (s : State) (i : Fin 15) (r : InputRec) : (s.setInput i r).exposures = s.exposures := rfl
@[simp] theorem State.setInput_coils (s : State) (i : Fin 15) (r : InputRec) : (s.setInput i r).coils = s.coils := rfl
@[simp] theorem State.setInput_units (s : State) (i : Fin 15) (r : InputRec) : (s.setInput i r).units = s.units := rfl
@[simp] theorem State.setInput_demands (s : State) (i : Fin 15) (r : InputRec) : (s.setInput i r).demands = s.demands := rfl
@[simp] theorem State.setInput_outputs (s : State) (i : Fin 15) (r : InputRec) : (s.setInput i r).outputs = s.outputs := rfl
@[simp] theorem State.setInput_pins (s : State) (i : Fin 15) (r : InputRec) : (s.setInput i r).pins = s.pins := rfl
@[simp] theorem State.setInput_inputs (s : State) (i : Fin 15) (r : InputRec) : (s.setInput i r).inputs = s.inputs.put i r := rfl
@[simp] theorem State.setInput_alerts (s : State) (i : Fin 15) (r : InputRec) : (s.setInput i r).alerts = s.alerts := rfl
@[simp] theorem State.setInput_alertLine (s : State) (i : Fin 15) (r : InputRec) : (s.setInput i r).alertLine = s.alertLine := rfl
@[simp] theorem State.setInput_link (s : State) (i : Fin 15) (r : InputRec) : (s.setInput i r).link = s.link := rfl
@[simp] theorem State.setInput_freeUses (s : State) (i : Fin 15) (r : InputRec) : (s.setInput i r).freeUses = s.freeUses := rfl
@[simp] theorem State.setInput_pending (s : State) (i : Fin 15) (r : InputRec) : (s.setInput i r).pending = s.pending := rfl

/-! ## setPin -/

@[simp] theorem State.setPin_power (s : State) (i : Fin 15) (h : Bool) : (s.setPin i h).power = s.power := rfl
@[simp] theorem State.setPin_mode (s : State) (i : Fin 15) (h : Bool) : (s.setPin i h).mode = s.mode := rfl
@[simp] theorem State.setPin_strap (s : State) (i : Fin 15) (h : Bool) : (s.setPin i h).strap = s.strap := rfl
@[simp] theorem State.setPin_validation (s : State) (i : Fin 15) (h : Bool) : (s.setPin i h).validation = s.validation := rfl
@[simp] theorem State.setPin_plantSeconds (s : State) (i : Fin 15) (h : Bool) : (s.setPin i h).plantSeconds = s.plantSeconds := rfl
@[simp] theorem State.setPin_tables (s : State) (i : Fin 15) (h : Bool) : (s.setPin i h).tables = s.tables := rfl
@[simp] theorem State.setPin_image (s : State) (i : Fin 15) (h : Bool) : (s.setPin i h).image = s.image := rfl
@[simp] theorem State.setPin_area (s : State) (i : Fin 15) (h : Bool) : (s.setPin i h).area = s.area := rfl
@[simp] theorem State.setPin_imageInvalid (s : State) (i : Fin 15) (h : Bool) : (s.setPin i h).imageInvalid = s.imageInvalid := rfl
@[simp] theorem State.setPin_areaDirty (s : State) (i : Fin 15) (h : Bool) : (s.setPin i h).areaDirty = s.areaDirty := rfl
@[simp] theorem State.setPin_store (s : State) (i : Fin 15) (h : Bool) : (s.setPin i h).store = s.store := rfl
@[simp] theorem State.setPin_sampler (s : State) (i : Fin 15) (h : Bool) : (s.setPin i h).sampler = s.sampler := rfl
@[simp] theorem State.setPin_channels (s : State) (i : Fin 15) (h : Bool) : (s.setPin i h).channels = s.channels := rfl
@[simp] theorem State.setPin_detectors (s : State) (i : Fin 15) (h : Bool) : (s.setPin i h).detectors = s.detectors := rfl
@[simp] theorem State.setPin_masters (s : State) (i : Fin 15) (h : Bool) : (s.setPin i h).masters = s.masters := rfl
@[simp] theorem State.setPin_health (s : State) (i : Fin 15) (h : Bool) : (s.setPin i h).health = s.health := rfl
@[simp] theorem State.setPin_faces (s : State) (i : Fin 15) (h : Bool) : (s.setPin i h).faces = s.faces := rfl
@[simp] theorem State.setPin_exposures (s : State) (i : Fin 15) (h : Bool) : (s.setPin i h).exposures = s.exposures := rfl
@[simp] theorem State.setPin_coils (s : State) (i : Fin 15) (h : Bool) : (s.setPin i h).coils = s.coils := rfl
@[simp] theorem State.setPin_units (s : State) (i : Fin 15) (h : Bool) : (s.setPin i h).units = s.units := rfl
@[simp] theorem State.setPin_demands (s : State) (i : Fin 15) (h : Bool) : (s.setPin i h).demands = s.demands := rfl
@[simp] theorem State.setPin_outputs (s : State) (i : Fin 15) (h : Bool) : (s.setPin i h).outputs = s.outputs := rfl
@[simp] theorem State.setPin_pins (s : State) (i : Fin 15) (h : Bool) : (s.setPin i h).pins = s.pins.put i h := rfl
@[simp] theorem State.setPin_inputs (s : State) (i : Fin 15) (h : Bool) : (s.setPin i h).inputs = s.inputs := rfl
@[simp] theorem State.setPin_alerts (s : State) (i : Fin 15) (h : Bool) : (s.setPin i h).alerts = s.alerts := rfl
@[simp] theorem State.setPin_alertLine (s : State) (i : Fin 15) (h : Bool) : (s.setPin i h).alertLine = s.alertLine := rfl
@[simp] theorem State.setPin_link (s : State) (i : Fin 15) (h : Bool) : (s.setPin i h).link = s.link := rfl
@[simp] theorem State.setPin_freeUses (s : State) (i : Fin 15) (h : Bool) : (s.setPin i h).freeUses = s.freeUses := rfl
@[simp] theorem State.setPin_pending (s : State) (i : Fin 15) (h : Bool) : (s.setPin i h).pending = s.pending := rfl

/-! ## setAlerts -/

@[simp] theorem State.setAlerts_power (s : State) (a : Alerts) : (s.setAlerts a).power = s.power := rfl
@[simp] theorem State.setAlerts_mode (s : State) (a : Alerts) : (s.setAlerts a).mode = s.mode := rfl
@[simp] theorem State.setAlerts_strap (s : State) (a : Alerts) : (s.setAlerts a).strap = s.strap := rfl
@[simp] theorem State.setAlerts_validation (s : State) (a : Alerts) : (s.setAlerts a).validation = s.validation := rfl
@[simp] theorem State.setAlerts_plantSeconds (s : State) (a : Alerts) : (s.setAlerts a).plantSeconds = s.plantSeconds := rfl
@[simp] theorem State.setAlerts_tables (s : State) (a : Alerts) : (s.setAlerts a).tables = s.tables := rfl
@[simp] theorem State.setAlerts_image (s : State) (a : Alerts) : (s.setAlerts a).image = s.image := rfl
@[simp] theorem State.setAlerts_area (s : State) (a : Alerts) : (s.setAlerts a).area = s.area := rfl
@[simp] theorem State.setAlerts_imageInvalid (s : State) (a : Alerts) : (s.setAlerts a).imageInvalid = s.imageInvalid := rfl
@[simp] theorem State.setAlerts_areaDirty (s : State) (a : Alerts) : (s.setAlerts a).areaDirty = s.areaDirty := rfl
@[simp] theorem State.setAlerts_store (s : State) (a : Alerts) : (s.setAlerts a).store = s.store := rfl
@[simp] theorem State.setAlerts_sampler (s : State) (a : Alerts) : (s.setAlerts a).sampler = s.sampler := rfl
@[simp] theorem State.setAlerts_channels (s : State) (a : Alerts) : (s.setAlerts a).channels = s.channels := rfl
@[simp] theorem State.setAlerts_detectors (s : State) (a : Alerts) : (s.setAlerts a).detectors = s.detectors := rfl
@[simp] theorem State.setAlerts_masters (s : State) (a : Alerts) : (s.setAlerts a).masters = s.masters := rfl
@[simp] theorem State.setAlerts_health (s : State) (a : Alerts) : (s.setAlerts a).health = s.health := rfl
@[simp] theorem State.setAlerts_faces (s : State) (a : Alerts) : (s.setAlerts a).faces = s.faces := rfl
@[simp] theorem State.setAlerts_exposures (s : State) (a : Alerts) : (s.setAlerts a).exposures = s.exposures := rfl
@[simp] theorem State.setAlerts_coils (s : State) (a : Alerts) : (s.setAlerts a).coils = s.coils := rfl
@[simp] theorem State.setAlerts_units (s : State) (a : Alerts) : (s.setAlerts a).units = s.units := rfl
@[simp] theorem State.setAlerts_demands (s : State) (a : Alerts) : (s.setAlerts a).demands = s.demands := rfl
@[simp] theorem State.setAlerts_outputs (s : State) (a : Alerts) : (s.setAlerts a).outputs = s.outputs := rfl
@[simp] theorem State.setAlerts_pins (s : State) (a : Alerts) : (s.setAlerts a).pins = s.pins := rfl
@[simp] theorem State.setAlerts_inputs (s : State) (a : Alerts) : (s.setAlerts a).inputs = s.inputs := rfl
@[simp] theorem State.setAlerts_alerts (s : State) (a : Alerts) : (s.setAlerts a).alerts = a := rfl
@[simp] theorem State.setAlerts_alertLine (s : State) (a : Alerts) : (s.setAlerts a).alertLine = s.alertLine := rfl
@[simp] theorem State.setAlerts_link (s : State) (a : Alerts) : (s.setAlerts a).link = s.link := rfl
@[simp] theorem State.setAlerts_freeUses (s : State) (a : Alerts) : (s.setAlerts a).freeUses = s.freeUses := rfl
@[simp] theorem State.setAlerts_pending (s : State) (a : Alerts) : (s.setAlerts a).pending = s.pending := rfl

/-! ## setLink -/

@[simp] theorem State.setLink_power (s : State) (l : Link) : (s.setLink l).power = s.power := rfl
@[simp] theorem State.setLink_mode (s : State) (l : Link) : (s.setLink l).mode = s.mode := rfl
@[simp] theorem State.setLink_strap (s : State) (l : Link) : (s.setLink l).strap = s.strap := rfl
@[simp] theorem State.setLink_validation (s : State) (l : Link) : (s.setLink l).validation = s.validation := rfl
@[simp] theorem State.setLink_plantSeconds (s : State) (l : Link) : (s.setLink l).plantSeconds = s.plantSeconds := rfl
@[simp] theorem State.setLink_tables (s : State) (l : Link) : (s.setLink l).tables = s.tables := rfl
@[simp] theorem State.setLink_image (s : State) (l : Link) : (s.setLink l).image = s.image := rfl
@[simp] theorem State.setLink_area (s : State) (l : Link) : (s.setLink l).area = s.area := rfl
@[simp] theorem State.setLink_imageInvalid (s : State) (l : Link) : (s.setLink l).imageInvalid = s.imageInvalid := rfl
@[simp] theorem State.setLink_areaDirty (s : State) (l : Link) : (s.setLink l).areaDirty = s.areaDirty := rfl
@[simp] theorem State.setLink_store (s : State) (l : Link) : (s.setLink l).store = s.store := rfl
@[simp] theorem State.setLink_sampler (s : State) (l : Link) : (s.setLink l).sampler = s.sampler := rfl
@[simp] theorem State.setLink_channels (s : State) (l : Link) : (s.setLink l).channels = s.channels := rfl
@[simp] theorem State.setLink_detectors (s : State) (l : Link) : (s.setLink l).detectors = s.detectors := rfl
@[simp] theorem State.setLink_masters (s : State) (l : Link) : (s.setLink l).masters = s.masters := rfl
@[simp] theorem State.setLink_health (s : State) (l : Link) : (s.setLink l).health = s.health := rfl
@[simp] theorem State.setLink_faces (s : State) (l : Link) : (s.setLink l).faces = s.faces := rfl
@[simp] theorem State.setLink_exposures (s : State) (l : Link) : (s.setLink l).exposures = s.exposures := rfl
@[simp] theorem State.setLink_coils (s : State) (l : Link) : (s.setLink l).coils = s.coils := rfl
@[simp] theorem State.setLink_units (s : State) (l : Link) : (s.setLink l).units = s.units := rfl
@[simp] theorem State.setLink_demands (s : State) (l : Link) : (s.setLink l).demands = s.demands := rfl
@[simp] theorem State.setLink_outputs (s : State) (l : Link) : (s.setLink l).outputs = s.outputs := rfl
@[simp] theorem State.setLink_pins (s : State) (l : Link) : (s.setLink l).pins = s.pins := rfl
@[simp] theorem State.setLink_inputs (s : State) (l : Link) : (s.setLink l).inputs = s.inputs := rfl
@[simp] theorem State.setLink_alerts (s : State) (l : Link) : (s.setLink l).alerts = s.alerts := rfl
@[simp] theorem State.setLink_alertLine (s : State) (l : Link) : (s.setLink l).alertLine = s.alertLine := rfl
@[simp] theorem State.setLink_link (s : State) (l : Link) : (s.setLink l).link = l := rfl
@[simp] theorem State.setLink_freeUses (s : State) (l : Link) : (s.setLink l).freeUses = s.freeUses := rfl
@[simp] theorem State.setLink_pending (s : State) (l : Link) : (s.setLink l).pending = s.pending := rfl

/-! ## setStore -/

@[simp] theorem State.setStore_power (s : State) (t : Store) : (s.setStore t).power = s.power := rfl
@[simp] theorem State.setStore_mode (s : State) (t : Store) : (s.setStore t).mode = s.mode := rfl
@[simp] theorem State.setStore_strap (s : State) (t : Store) : (s.setStore t).strap = s.strap := rfl
@[simp] theorem State.setStore_validation (s : State) (t : Store) : (s.setStore t).validation = s.validation := rfl
@[simp] theorem State.setStore_plantSeconds (s : State) (t : Store) : (s.setStore t).plantSeconds = s.plantSeconds := rfl
@[simp] theorem State.setStore_tables (s : State) (t : Store) : (s.setStore t).tables = s.tables := rfl
@[simp] theorem State.setStore_image (s : State) (t : Store) : (s.setStore t).image = s.image := rfl
@[simp] theorem State.setStore_area (s : State) (t : Store) : (s.setStore t).area = s.area := rfl
@[simp] theorem State.setStore_imageInvalid (s : State) (t : Store) : (s.setStore t).imageInvalid = s.imageInvalid := rfl
@[simp] theorem State.setStore_areaDirty (s : State) (t : Store) : (s.setStore t).areaDirty = s.areaDirty := rfl
@[simp] theorem State.setStore_store (s : State) (t : Store) : (s.setStore t).store = t := rfl
@[simp] theorem State.setStore_sampler (s : State) (t : Store) : (s.setStore t).sampler = s.sampler := rfl
@[simp] theorem State.setStore_channels (s : State) (t : Store) : (s.setStore t).channels = s.channels := rfl
@[simp] theorem State.setStore_detectors (s : State) (t : Store) : (s.setStore t).detectors = s.detectors := rfl
@[simp] theorem State.setStore_masters (s : State) (t : Store) : (s.setStore t).masters = s.masters := rfl
@[simp] theorem State.setStore_health (s : State) (t : Store) : (s.setStore t).health = s.health := rfl
@[simp] theorem State.setStore_faces (s : State) (t : Store) : (s.setStore t).faces = s.faces := rfl
@[simp] theorem State.setStore_exposures (s : State) (t : Store) : (s.setStore t).exposures = s.exposures := rfl
@[simp] theorem State.setStore_coils (s : State) (t : Store) : (s.setStore t).coils = s.coils := rfl
@[simp] theorem State.setStore_units (s : State) (t : Store) : (s.setStore t).units = s.units := rfl
@[simp] theorem State.setStore_demands (s : State) (t : Store) : (s.setStore t).demands = s.demands := rfl
@[simp] theorem State.setStore_outputs (s : State) (t : Store) : (s.setStore t).outputs = s.outputs := rfl
@[simp] theorem State.setStore_pins (s : State) (t : Store) : (s.setStore t).pins = s.pins := rfl
@[simp] theorem State.setStore_inputs (s : State) (t : Store) : (s.setStore t).inputs = s.inputs := rfl
@[simp] theorem State.setStore_alerts (s : State) (t : Store) : (s.setStore t).alerts = s.alerts := rfl
@[simp] theorem State.setStore_alertLine (s : State) (t : Store) : (s.setStore t).alertLine = s.alertLine := rfl
@[simp] theorem State.setStore_link (s : State) (t : Store) : (s.setStore t).link = s.link := rfl
@[simp] theorem State.setStore_freeUses (s : State) (t : Store) : (s.setStore t).freeUses = s.freeUses := rfl
@[simp] theorem State.setStore_pending (s : State) (t : Store) : (s.setStore t).pending = s.pending := rfl

/-! ## setTables -/

@[simp] theorem State.setTables_power (s : State) (t : Tables) : (s.setTables t).power = s.power := rfl
@[simp] theorem State.setTables_mode (s : State) (t : Tables) : (s.setTables t).mode = s.mode := rfl
@[simp] theorem State.setTables_strap (s : State) (t : Tables) : (s.setTables t).strap = s.strap := rfl
@[simp] theorem State.setTables_validation (s : State) (t : Tables) : (s.setTables t).validation = s.validation := rfl
@[simp] theorem State.setTables_plantSeconds (s : State) (t : Tables) : (s.setTables t).plantSeconds = s.plantSeconds := rfl
@[simp] theorem State.setTables_tables (s : State) (t : Tables) : (s.setTables t).tables = t := rfl
@[simp] theorem State.setTables_image (s : State) (t : Tables) : (s.setTables t).image = s.image := rfl
@[simp] theorem State.setTables_area (s : State) (t : Tables) : (s.setTables t).area = s.area := rfl
@[simp] theorem State.setTables_imageInvalid (s : State) (t : Tables) : (s.setTables t).imageInvalid = s.imageInvalid := rfl
@[simp] theorem State.setTables_areaDirty (s : State) (t : Tables) : (s.setTables t).areaDirty = s.areaDirty := rfl
@[simp] theorem State.setTables_store (s : State) (t : Tables) : (s.setTables t).store = s.store := rfl
@[simp] theorem State.setTables_sampler (s : State) (t : Tables) : (s.setTables t).sampler = s.sampler := rfl
@[simp] theorem State.setTables_channels (s : State) (t : Tables) : (s.setTables t).channels = s.channels := rfl
@[simp] theorem State.setTables_detectors (s : State) (t : Tables) : (s.setTables t).detectors = s.detectors := rfl
@[simp] theorem State.setTables_masters (s : State) (t : Tables) : (s.setTables t).masters = s.masters := rfl
@[simp] theorem State.setTables_health (s : State) (t : Tables) : (s.setTables t).health = s.health := rfl
@[simp] theorem State.setTables_faces (s : State) (t : Tables) : (s.setTables t).faces = s.faces := rfl
@[simp] theorem State.setTables_exposures (s : State) (t : Tables) : (s.setTables t).exposures = s.exposures := rfl
@[simp] theorem State.setTables_coils (s : State) (t : Tables) : (s.setTables t).coils = s.coils := rfl
@[simp] theorem State.setTables_units (s : State) (t : Tables) : (s.setTables t).units = s.units := rfl
@[simp] theorem State.setTables_demands (s : State) (t : Tables) : (s.setTables t).demands = s.demands := rfl
@[simp] theorem State.setTables_outputs (s : State) (t : Tables) : (s.setTables t).outputs = s.outputs := rfl
@[simp] theorem State.setTables_pins (s : State) (t : Tables) : (s.setTables t).pins = s.pins := rfl
@[simp] theorem State.setTables_inputs (s : State) (t : Tables) : (s.setTables t).inputs = s.inputs := rfl
@[simp] theorem State.setTables_alerts (s : State) (t : Tables) : (s.setTables t).alerts = s.alerts := rfl
@[simp] theorem State.setTables_alertLine (s : State) (t : Tables) : (s.setTables t).alertLine = s.alertLine := rfl
@[simp] theorem State.setTables_link (s : State) (t : Tables) : (s.setTables t).link = s.link := rfl
@[simp] theorem State.setTables_freeUses (s : State) (t : Tables) : (s.setTables t).freeUses = s.freeUses := rfl
@[simp] theorem State.setTables_pending (s : State) (t : Tables) : (s.setTables t).pending = s.pending := rfl

/-! ## setOutputs -/

@[simp] theorem State.setOutputs_power (s : State) (o : Outputs) : (s.setOutputs o).power = s.power := rfl
@[simp] theorem State.setOutputs_mode (s : State) (o : Outputs) : (s.setOutputs o).mode = s.mode := rfl
@[simp] theorem State.setOutputs_strap (s : State) (o : Outputs) : (s.setOutputs o).strap = s.strap := rfl
@[simp] theorem State.setOutputs_validation (s : State) (o : Outputs) : (s.setOutputs o).validation = s.validation := rfl
@[simp] theorem State.setOutputs_plantSeconds (s : State) (o : Outputs) : (s.setOutputs o).plantSeconds = s.plantSeconds := rfl
@[simp] theorem State.setOutputs_tables (s : State) (o : Outputs) : (s.setOutputs o).tables = s.tables := rfl
@[simp] theorem State.setOutputs_image (s : State) (o : Outputs) : (s.setOutputs o).image = s.image := rfl
@[simp] theorem State.setOutputs_area (s : State) (o : Outputs) : (s.setOutputs o).area = s.area := rfl
@[simp] theorem State.setOutputs_imageInvalid (s : State) (o : Outputs) : (s.setOutputs o).imageInvalid = s.imageInvalid := rfl
@[simp] theorem State.setOutputs_areaDirty (s : State) (o : Outputs) : (s.setOutputs o).areaDirty = s.areaDirty := rfl
@[simp] theorem State.setOutputs_store (s : State) (o : Outputs) : (s.setOutputs o).store = s.store := rfl
@[simp] theorem State.setOutputs_sampler (s : State) (o : Outputs) : (s.setOutputs o).sampler = s.sampler := rfl
@[simp] theorem State.setOutputs_channels (s : State) (o : Outputs) : (s.setOutputs o).channels = s.channels := rfl
@[simp] theorem State.setOutputs_detectors (s : State) (o : Outputs) : (s.setOutputs o).detectors = s.detectors := rfl
@[simp] theorem State.setOutputs_masters (s : State) (o : Outputs) : (s.setOutputs o).masters = s.masters := rfl
@[simp] theorem State.setOutputs_health (s : State) (o : Outputs) : (s.setOutputs o).health = s.health := rfl
@[simp] theorem State.setOutputs_faces (s : State) (o : Outputs) : (s.setOutputs o).faces = s.faces := rfl
@[simp] theorem State.setOutputs_exposures (s : State) (o : Outputs) : (s.setOutputs o).exposures = s.exposures := rfl
@[simp] theorem State.setOutputs_coils (s : State) (o : Outputs) : (s.setOutputs o).coils = s.coils := rfl
@[simp] theorem State.setOutputs_units (s : State) (o : Outputs) : (s.setOutputs o).units = s.units := rfl
@[simp] theorem State.setOutputs_demands (s : State) (o : Outputs) : (s.setOutputs o).demands = s.demands := rfl
@[simp] theorem State.setOutputs_outputs (s : State) (o : Outputs) : (s.setOutputs o).outputs = o := rfl
@[simp] theorem State.setOutputs_pins (s : State) (o : Outputs) : (s.setOutputs o).pins = s.pins := rfl
@[simp] theorem State.setOutputs_inputs (s : State) (o : Outputs) : (s.setOutputs o).inputs = s.inputs := rfl
@[simp] theorem State.setOutputs_alerts (s : State) (o : Outputs) : (s.setOutputs o).alerts = s.alerts := rfl
@[simp] theorem State.setOutputs_alertLine (s : State) (o : Outputs) : (s.setOutputs o).alertLine = s.alertLine := rfl
@[simp] theorem State.setOutputs_link (s : State) (o : Outputs) : (s.setOutputs o).link = s.link := rfl
@[simp] theorem State.setOutputs_freeUses (s : State) (o : Outputs) : (s.setOutputs o).freeUses = s.freeUses := rfl
@[simp] theorem State.setOutputs_pending (s : State) (o : Outputs) : (s.setOutputs o).pending = s.pending := rfl

end Sys2Proof.Machine
end

