-- ==== Sys2Proof/Laws/Alerts.lean ====
section
/-! SUPPORT. What each operation of the Alert Resolver does to one source record, to the stack and to the pointers. -/

namespace Sys2Proof.Machine

open Sys2Proof

/-! ## A source moved, a condition recorded -/

theorem Alerts.move_at (a : Alerts) (x y : Fin 65) (m : Membership) :
    (a.move x m).sources.at y = if y = x then { a.sources.at x with membership := m } else a.sources.at y :=
  Tab.at_put _ _ _ _

@[simp] theorem Alerts.move_stack (a : Alerts) (x : Fin 65) (m : Membership) : (a.move x m).stack = a.stack := rfl
@[simp] theorem Alerts.move_pointers (a : Alerts) (x : Fin 65) (m : Membership) :
    (a.move x m).pointers = a.pointers := rfl
@[simp] theorem Alerts.move_due (a : Alerts) (x : Fin 65) (m : Membership) : (a.move x m).selectionDue = true := rfl

theorem Alerts.record_at (a : Alerts) (x y : Fin 65) (c : Bool) :
    (a.record x c).sources.at y = if y = x then { a.sources.at x with condition := c } else a.sources.at y :=
  Tab.at_put _ _ _ _

@[simp] theorem Alerts.record_stack (a : Alerts) (x : Fin 65) (c : Bool) : (a.record x c).stack = a.stack := rfl
@[simp] theorem Alerts.record_pointers (a : Alerts) (x : Fin 65) (c : Bool) :
    (a.record x c).pointers = a.pointers := rfl
@[simp] theorem Alerts.record_due (a : Alerts) (x : Fin 65) (c : Bool) :
    (a.record x c).selectionDue = a.selectionDue := rfl

/-! ## Edge events (R142) -/

/-- An edge event is absorbed, or it puts a source of no collection into the pending set. -/
theorem Alerts.raiseEdge_cases (a : Alerts) (x : Fin 65) :
    ((a.sources.at x).membership = .none ∧ a.raiseEdge x = a.move x .pending) ∨
    ((a.sources.at x).membership ≠ .none ∧ a.raiseEdge x = a) := by
  unfold Alerts.raiseEdge
  split <;> simp_all

theorem Alerts.raiseEdge_other (a : Alerts) {x y : Fin 65} (h : y ≠ x) :
    (a.raiseEdge x).sources.at y = a.sources.at y := by
  rcases a.raiseEdge_cases x with ⟨-, e⟩ | ⟨-, e⟩ <;> rw [e]
  rw [Alerts.move_at, if_neg h]

theorem Alerts.raiseEdge_condition (a : Alerts) (x y : Fin 65) :
    ((a.raiseEdge x).sources.at y).condition = (a.sources.at y).condition := by
  rcases a.raiseEdge_cases x with ⟨-, e⟩ | ⟨-, e⟩ <;> rw [e]
  rw [Alerts.move_at]
  split
  · rename_i h
    rw [h]
  · rfl

@[simp] theorem Alerts.raiseEdge_stack (a : Alerts) (x : Fin 65) : (a.raiseEdge x).stack = a.stack := by
  rcases a.raiseEdge_cases x with ⟨-, e⟩ | ⟨-, e⟩ <;> rw [e]
  rfl

@[simp] theorem Alerts.raiseEdge_pointers (a : Alerts) (x : Fin 65) : (a.raiseEdge x).pointers = a.pointers := by
  rcases a.raiseEdge_cases x with ⟨-, e⟩ | ⟨-, e⟩ <;> rw [e]
  rfl

/-! ## Level conditions (R143, R144) -/

/-- A level condition handed over does nothing, is recorded, raises its source, or withdraws or clears it. -/
theorem Alerts.handLevel_cases (a : Alerts) (x : Fin 65) (c : Bool) :
    ((a.sources.at x).condition = c ∧ a.handLevel x c = a) ∨
    ((a.sources.at x).condition ≠ c ∧
      ((c = true ∧ (a.sources.at x).membership = .none ∧ a.handLevel x c = (a.record x c).move x .pending) ∨
       (c = false ∧ ((a.sources.at x).membership = .pending ∨ (a.sources.at x).membership = .standing) ∧
         a.handLevel x c = (a.record x c).move x .none) ∨
       (((c = true ∧ (a.sources.at x).membership ≠ .none) ∨
         (c = false ∧ (a.sources.at x).membership ≠ .pending ∧ (a.sources.at x).membership ≠ .standing)) ∧
         a.handLevel x c = a.record x c))) := by
  unfold Alerts.handLevel
  by_cases h : (a.sources.at x).condition = c
  · simp [h]
  · cases c <;> cases e : (a.sources.at x).membership <;> simp [h]

/-- The resolver holds the condition that its owner handed over last. -/
theorem Alerts.handLevel_condition (a : Alerts) (x : Fin 65) (c : Bool) :
    ((a.handLevel x c).sources.at x).condition = c := by
  rcases a.handLevel_cases x c with ⟨h, e⟩ | ⟨-, ⟨-, -, e⟩ | ⟨-, -, e⟩ | ⟨-, e⟩⟩ <;> rw [e]
  · exact h
  all_goals simp [Alerts.move_at, Alerts.record_at]

theorem Alerts.handLevel_other (a : Alerts) {x y : Fin 65} (h : y ≠ x) (c : Bool) :
    (a.handLevel x c).sources.at y = a.sources.at y := by
  rcases a.handLevel_cases x c with ⟨-, e⟩ | ⟨-, ⟨-, -, e⟩ | ⟨-, -, e⟩ | ⟨-, e⟩⟩ <;> rw [e]
  all_goals simp [Alerts.move_at, Alerts.record_at, h]

@[simp] theorem Alerts.handLevel_stack (a : Alerts) (x : Fin 65) (c : Bool) : (a.handLevel x c).stack = a.stack := by
  rcases a.handLevel_cases x c with ⟨-, e⟩ | ⟨-, ⟨-, -, e⟩ | ⟨-, -, e⟩ | ⟨-, e⟩⟩ <;> rw [e] <;> rfl

@[simp] theorem Alerts.handLevel_pointers (a : Alerts) (x : Fin 65) (c : Bool) :
    (a.handLevel x c).pointers = a.pointers := by
  rcases a.handLevel_cases x c with ⟨-, e⟩ | ⟨-, ⟨-, -, e⟩ | ⟨-, -, e⟩ | ⟨-, e⟩⟩ <;> rw [e] <;> rfl

/-- A level condition handed over takes no source into or out of service. -/
theorem Alerts.handLevel_inService (a : Alerts) (x y : Fin 65) (c : Bool) :
    ((a.handLevel x c).sources.at y).membership = .inService ↔ (a.sources.at y).membership = .inService := by
  by_cases hy : y = x
  · subst hy
    rcases a.handLevel_cases y c with ⟨-, e⟩ | ⟨-, ⟨-, m, e⟩ | ⟨-, m, e⟩ | ⟨-, e⟩⟩ <;> rw [e]
    · simp [Alerts.move_at, m]
    · rcases m with m | m <;> simp [Alerts.move_at, m]
    · simp [Alerts.record_at]
  · rw [Alerts.handLevel_other a hy]

/-- Handing over a condition that stands already changes nothing. -/
theorem Alerts.handLevel_same {a : Alerts} {x : Fin 65} {c : Bool} (h : (a.sources.at x).condition = c) :
    a.handLevel x c = a := by
  simp [Alerts.handLevel, h]

/-! ## Selection (R146, R147) and acknowledgment (R149) -/

theorem Alerts.select_other (a : Alerts) {x y : Fin 65} (h : y ≠ x) (c : Fin 8) (l : Nat) :
    (a.select x c l).sources.at y = a.sources.at y := by
  unfold Alerts.select
  split
  · simp [Alerts.move_at, h]
  · split <;> simp [Alerts.move_at, h]

theorem Alerts.select_condition (a : Alerts) (x y : Fin 65) (c : Fin 8) (l : Nat) :
    ((a.select x c l).sources.at y).condition = (a.sources.at y).condition := by
  by_cases h : y = x
  · subst h
    unfold Alerts.select
    split
    · simp [Alerts.move_at]
    · split <;> simp [Alerts.move_at]
  · rw [Alerts.select_other a h]

theorem Alerts.select_stack (a : Alerts) (x : Fin 65) (c : Fin 8) (l : Nat) :
    (a.select x c l).stack = if classNumber c < l then ⟨x, c⟩ :: a.stack else a.stack := by
  unfold Alerts.select
  split
  · rfl
  · split <;> rfl

theorem Alerts.select_pointers (a : Alerts) (x : Fin 65) (c : Fin 8) (l : Nat) :
    (a.select x c l).pointers = a.pointers.put c (Fin.ofNat 65 (x.val + 1)) := by
  unfold Alerts.select
  split
  · rfl
  · split <;> rfl

theorem Alerts.acknowledge_other (a : Alerts) {x y : Fin 65} (h : y ≠ x) :
    (a.acknowledge x).sources.at y = a.sources.at y := by
  simp [Alerts.acknowledge, Alerts.move_at, h]

theorem Alerts.acknowledge_self (a : Alerts) (x : Fin 65) :
    ((a.acknowledge x).sources.at x).membership =
      if isLevel x && (a.sources.at x).condition then .standing else .none := by
  simp [Alerts.acknowledge, Alerts.move_at]

@[simp] theorem Alerts.acknowledge_stack (a : Alerts) (x : Fin 65) :
    (a.acknowledge x).stack = a.stack.filter fun e => e.source != x := rfl
@[simp] theorem Alerts.acknowledge_pointers (a : Alerts) (x : Fin 65) : (a.acknowledge x).pointers = a.pointers := rfl

/-- The winner of a selection is pending, unmasked and eligible, and the queue has room for two items (R145, R146). -/
theorem winner_eligible {s : State} {x : Fin 65} (h : s.winner = some x) : s.eligible x = true ∧ 2 ≤ s.txFree := by
  unfold State.winner at h
  split at h
  · cases h
  · split at h
    · cases h
    · rename_i hf _ c _
      have e := List.find?_some h
      simp only [Bool.and_eq_true] at e
      exact ⟨e.1, by omega⟩

end Sys2Proof.Machine
end

