-- ==== Sys2Proof/Laws/Frames.lean ====
section
/-! SUPPORT. What the operations of the Coil Sequencer, the Unit Sequencer, the Output Merge and the Store queue leave as
it stands: one lemma for each, in the form `seqFrame s t`. -/

namespace Sys2Proof.Machine

open Sys2Proof

/-- `t` is `s` but for the coil, exposure and unit records, the output pins, the resolver and the store queue. -/
def seqFrame (s t : State) : Prop :=
  t = { s with coils := t.coils, exposures := t.exposures, units := t.units, outputs := t.outputs, alerts := t.alerts,
               store := t.store }

theorem seqFrame_refl (s : State) : seqFrame s s := rfl

theorem seqFrame_trans {s t u : State} (h : seqFrame s t) (k : seqFrame t u) : seqFrame s u :=
  Eq.trans k (by rw [h])

theorem seqFrame_setCoil (s : State) (k : Fin 6) (r : CoilSeq) : seqFrame s (s.setCoil k r) := rfl
theorem seqFrame_setExposure (s : State) (k : Fin 6) (r : Exposure) : seqFrame s (s.setExposure k r) := rfl
theorem seqFrame_setUnit (s : State) (u : Fin 3) (r : UnitRec) : seqFrame s (s.setUnit u r) := rfl
theorem seqFrame_setAlerts (s : State) (a : Alerts) : seqFrame s (s.setAlerts a) := rfl
theorem seqFrame_setOutputs (s : State) (o : Outputs) : seqFrame s (s.setOutputs o) := rfl
theorem seqFrame_setStore (s : State) (t : Store) : seqFrame s (s.setStore t) := rfl
theorem seqFrame_handLevel (s : State) (x : Fin 65) (c : Bool) : seqFrame s (s.handLevel x c) := rfl
theorem seqFrame_raiseEdge (s : State) (x : Fin 65) : seqFrame s (s.raiseEdge x) := rfl
theorem seqFrame_setProve (s : State) (k : Fin 6) (p : Prove) (t : Option Nat) : seqFrame s (s.setProve k p t) := rfl
theorem seqFrame_writeCoil (s : State) (k : Fin 6) (r : CoilSeq) : seqFrame s (s.writeCoil k r) := rfl
theorem seqFrame_setBand (s : State) (k : Fin 6) (b : Band) : seqFrame s (s.setBand k b) := rfl

/-- A fold of framed operations is framed. -/
theorem seqFrame_foldl {α : Type} (f : State → α → State) (h : ∀ s a, seqFrame s (f s a)) (l : List α) (s : State) :
    seqFrame s (l.foldl f s) := by
  induction l generalizing s with
  | nil => exact seqFrame_refl s
  | cons a l ih => exact seqFrame_trans (h s a) (ih (f s a))

/-- A choice between framed results is framed. -/
theorem seqFrame_ite {c : Prop} [Decidable c] {s a b : State} (h : seqFrame s a) (k : seqFrame s b) :
    seqFrame s (if c then a else b) := by
  split
  · exact h
  · exact k

/-! ## Fields read through a frame -/

theorem seqFrame_power {s t : State} (h : seqFrame s t) : t.power = s.power := by
  rw [show t = _ from h]

theorem seqFrame_mode {s t : State} (h : seqFrame s t) : t.mode = s.mode := by
  rw [show t = _ from h]

theorem seqFrame_tables {s t : State} (h : seqFrame s t) : t.tables = s.tables := by
  rw [show t = _ from h]

theorem seqFrame_link {s t : State} (h : seqFrame s t) : t.link = s.link := by
  rw [show t = _ from h]

theorem seqFrame_inputs {s t : State} (h : seqFrame s t) : t.inputs = s.inputs := by
  rw [show t = _ from h]

theorem seqFrame_demands {s t : State} (h : seqFrame s t) : t.demands = s.demands := by
  rw [show t = _ from h]

theorem seqFrame_faces {s t : State} (h : seqFrame s t) : t.faces = s.faces := by
  rw [show t = _ from h]

theorem seqFrame_masters {s t : State} (h : seqFrame s t) : t.masters = s.masters := by
  rw [show t = _ from h]

theorem seqFrame_seconds {s t : State} (h : seqFrame s t) : t.plantSeconds = s.plantSeconds := by
  rw [show t = _ from h]

theorem seqFrame_alertLine {s t : State} (h : seqFrame s t) : t.alertLine = s.alertLine := by
  rw [show t = _ from h]

theorem seqFrame_pending {s t : State} (h : seqFrame s t) : t.pending = s.pending := by
  rw [show t = _ from h]


/-! ## The Unit Sequencer -/

theorem seqFrame_enterSecured (s : State) (u : Fin 3) : seqFrame s (s.enterSecured u) := rfl
theorem seqFrame_enterSecureFault (s : State) (u : Fin 3) : seqFrame s (s.enterSecureFault u) := rfl
theorem seqFrame_leaveRestartHold (s : State) (u : Fin 3) : seqFrame s (s.leaveRestartHold u) := rfl
theorem seqFrame_setConditions (s : State) (u : Fin 3) : seqFrame s (s.setConditions u) := rfl

theorem seqFrame_enterClosing (s : State) (u : Fin 3) : seqFrame s (s.enterClosing u) := by
  have h : seqFrame s ((s.setUnit u { s.units.at u with
      stage := .closing, stroke := some (s.tables.units.at u).strokeLimit,
      fan := some (s.tables.units.at u).fanStopLimit, holdOff := none, missingDamper := false, missingFan := false,
      closingSecond := some s.plantSeconds }).handSecureFault u) := rfl
  exact seqFrame_ite (seqFrame_trans h (seqFrame_enterSecured _ u)) h

theorem seqFrame_enterRestartHold (s : State) (u : Fin 3) : seqFrame s (s.enterRestartHold u) := by
  have h : seqFrame s ((s.setUnit u { s.units.at u with
      stage := .restartHold, stroke := none, fan := none, holdOff := some (s.tables.units.at u).holdOff,
      missingDamper := false, missingFan := false }).handSecureFault u) := rfl
  exact seqFrame_ite (seqFrame_trans h (seqFrame_leaveRestartHold _ u)) h

/-- A move of a unit's stage. -/
theorem seqFrame_moveUnit (s : State) (u : Fin 3) : seqFrame s (s.moveUnit u) := by
  unfold State.moveUnit
  dsimp only
  split <;> (repeat' split) <;>
    first
      | rfl
      | exact seqFrame_enterClosing s u
      | exact seqFrame_enterRestartHold s u

/-- An event of R110. -/
theorem seqFrame_unitEvent (s : State) (u : Fin 3) : seqFrame s (s.unitEvent u) := by
  unfold State.unitEvent
  split
  · rfl
  · exact seqFrame_trans (seqFrame_setConditions s u) (seqFrame_moveUnit _ u)
  · exact seqFrame_trans (seqFrame_setConditions s u) (seqFrame_moveUnit _ u)

/-- A change of a proof. -/
theorem seqFrame_proofEvent (s : State) (u : Fin 3) (d p : Bool) : seqFrame s (s.proofEvent u d p) := by
  unfold State.proofEvent
  dsimp only
  split <;> (repeat' split) <;> rfl

/-- The placing of a unit. -/
theorem seqFrame_placeUnit (s : State) (u : Fin 3) : seqFrame s (s.placeUnit u) := by
  unfold State.placeUnit
  dsimp only
  split
  · exact seqFrame_trans (seqFrame_setConditions s u) (seqFrame_enterClosing _ u)
  · split <;> rfl

/-- A unit's stage at a start. -/
theorem seqFrame_startUnit (s : State) (u : Fin 3) : seqFrame s (s.startUnit u) := by
  have h : seqFrame s ((s.setUnit u UnitRec.start).handSecureFault u) := rfl
  unfold State.startUnit
  dsimp only
  split
  · exact h
  · exact seqFrame_trans h (seqFrame_placeUnit _ u)
  · exact seqFrame_trans h (seqFrame_placeUnit _ u)

/-! ## The Output Merge and pump proving -/

theorem seqFrame_pumpTurned (s : State) (k : Fin 6) (on : Bool) : seqFrame s (s.pumpTurned k on) := by
  unfold State.pumpTurned
  split
  · split <;> (repeat' split) <;> rfl
  · rfl

theorem seqFrame_handPump (b : Outputs) (s : State) (k : Fin 6) : seqFrame s (handPump b s k) := by
  unfold handPump
  split
  · rfl
  · exact seqFrame_pumpTurned s k _

/-- A recompute of the outputs. -/
theorem seqFrame_recompute (s : State) : seqFrame s s.recompute :=
  seqFrame_trans (seqFrame_setOutputs s s.effective) (seqFrame_foldl _ (seqFrame_handPump s.outputs) _ _)

theorem seqFrame_proveFresh (s : State) (k : Fin 6) : seqFrame s (s.proveFresh k) := by
  unfold State.proveFresh
  repeat' split
  all_goals rfl

theorem seqFrame_handDemandsStale (s : State) : seqFrame s s.handDemandsStale :=
  seqFrame_foldl State.handDemandStale (fun s u => seqFrame_handLevel s (srcDemandStale u) _) allUnits s

/-! ## The Coil Sequencer -/

theorem seqFrame_coilMoved (s : State) (k : Fin 6) : seqFrame s (s.coilMoved k) :=
  seqFrame_trans (seqFrame_unitEvent s _) (seqFrame_recompute _)

theorem seqFrame_enterStage (s : State) (k : Fin 6) (st : CoilStage) : seqFrame s (s.enterStage k st) :=
  seqFrame_trans (seqFrame_writeCoil s k _) (seqFrame_coilMoved _ k)

theorem seqFrame_demote (s : State) (k : Fin 6) : seqFrame s (s.demote k) := by
  unfold State.demote
  dsimp only
  split
  · exact seqFrame_enterStage s k _
  · rfl

theorem seqFrame_promote (s : State) (k : Fin 6) (st : CoilStage) : seqFrame s (s.promote k st) := by
  unfold State.promote
  dsimp only
  split
  · exact seqFrame_trans (seqFrame_trans (seqFrame_writeCoil s k _) (seqFrame_coilMoved _ k)) (seqFrame_demote _ k)
  · exact seqFrame_trans (seqFrame_writeCoil s k _) (seqFrame_coilMoved _ k)

theorem seqFrame_lockoutChange (s : State) : seqFrame s s.lockoutChange := by
  unfold State.lockoutChange
  split <;> rfl

/-- A trip entry. -/
theorem seqFrame_tripEntry (s : State) (k : Fin 6) (c : TripCause) : seqFrame s (s.tripEntry k c) := by
  unfold State.tripEntry
  dsimp only
  split
  · exact seqFrame_trans (seqFrame_setBand s k .trip)
      (seqFrame_trans (seqFrame_writeCoil _ k _) (seqFrame_coilMoved _ k))
  · exact seqFrame_trans (seqFrame_setBand s k .trip)
      (seqFrame_trans (seqFrame_writeCoil _ k _) (seqFrame_trans (seqFrame_lockoutChange _) (seqFrame_coilMoved _ k)))

theorem seqFrame_workingOutcome (s : State) (k : Fin 6) (c : TripCause) : seqFrame s (s.workingOutcome k c) := by
  unfold State.workingOutcome
  split
  · exact seqFrame_tripEntry s k c
  · exact seqFrame_promote s k _
  · exact seqFrame_promote s k _
  · exact seqFrame_promote s k _
  · exact seqFrame_demote s k

theorem seqFrame_settleOutcome (s : State) (k : Fin 6) (a : Bool) (c : TripCause) :
    seqFrame s (s.settleOutcome k a c) := by
  unfold State.settleOutcome
  dsimp only
  split
  · exact seqFrame_tripEntry s k c
  · split <;> split
    · split
      · exact seqFrame_trans (seqFrame_setCoil s k _) (seqFrame_enterStage _ k _)
      · exact seqFrame_trans (seqFrame_setCoil s k _) (seqFrame_promote _ k _)
    · rfl
    · split
      · exact seqFrame_trans (seqFrame_setCoil s k _) (seqFrame_enterStage _ k _)
      · exact seqFrame_trans (seqFrame_setCoil s k _) (seqFrame_promote _ k _)
    · rfl

/-- An update outcome. -/
theorem seqFrame_updateOutcome (s : State) (k : Fin 6) (a : Bool) (c : Option TripCause) :
    seqFrame s (s.updateOutcome k a c) := by
  unfold State.updateOutcome
  dsimp only
  split
  · rfl
  · split
    · exact seqFrame_settleOutcome s k a _
    · exact seqFrame_workingOutcome s k _
    · exact seqFrame_workingOutcome s k _
    · exact seqFrame_workingOutcome s k _
    all_goals rfl

theorem seqFrame_escalate (s : State) (k : Fin 6) : seqFrame s (s.escalate k) := by
  unfold State.escalate
  dsimp only
  split
  · rfl
  · split
    · exact seqFrame_promote s k _
    · exact seqFrame_tripEntry s k _
    · exact seqFrame_tripEntry s k _
    all_goals rfl

theorem seqFrame_pumpFails (s : State) (k : Fin 6) : seqFrame s (s.pumpFails k) :=
  seqFrame_trans (seqFrame_setProve s k _ _) (seqFrame_escalate _ k)

theorem seqFrame_flowEvent (s : State) (k : Fin 6) (on : Bool) : seqFrame s (s.flowEvent k on) := by
  unfold State.flowEvent
  split
  · split
    · rfl
    · exact seqFrame_pumpFails s k
    all_goals rfl
  · rfl

theorem seqFrame_proveExpires (s : State) (k : Fin 6) : seqFrame s (s.proveExpires k) := by
  unfold State.proveExpires
  split
  · exact seqFrame_pumpFails s k
  · rfl

theorem seqFrame_holdDownExpires (s : State) (k : Fin 6) : seqFrame s (s.holdDownExpires k) := by
  unfold State.holdDownExpires
  dsimp only
  split
  · rfl
  · exact seqFrame_trans (seqFrame_setCoil s k _) (seqFrame_demote _ k)

theorem seqFrame_resetCoil (s : State) (k : Fin 6) : seqFrame s (s.resetCoil k) :=
  seqFrame_trans (seqFrame_setExposure s k _) (seqFrame_promote _ k _)

theorem seqFrame_localResetCoil (u : Fin 3) (s : State) (k : Fin 6) : seqFrame s (State.localResetCoil u s k) := by
  unfold State.localResetCoil
  dsimp only
  split
  · split
    · exact seqFrame_trans (seqFrame_setCoil s k _) (seqFrame_trans (seqFrame_lockoutChange _) (seqFrame_resetCoil _ k))
    · exact seqFrame_trans (seqFrame_setCoil s k _) (seqFrame_resetCoil _ k)
  · rfl

/-- A local reset. -/
theorem seqFrame_localReset (s : State) (u : Fin 3) : seqFrame s (s.localReset u) :=
  seqFrame_foldl _ (seqFrame_localResetCoil u) _ s

/-! ## The Exposure Engine -/

theorem seqFrame_raiseBandEdge (s : State) (k : Fin 6) (b b' : Band) : seqFrame s (s.raiseBandEdge k b b') := by
  unfold State.raiseBandEdge
  split <;> rfl

/-- A frame report at the engine. -/
theorem seqFrame_frameUpdate (s : State) (k : Fin 6) (r : FrameReport) : seqFrame s (s.frameUpdate k r) := by
  have h : seqFrame s (s.updateExposure k r) :=
    seqFrame_trans (seqFrame_setExposure s k _)
      (seqFrame_trans (seqFrame_raiseBandEdge _ k _ _) (seqFrame_updateOutcome _ k _ _))
  unfold State.frameUpdate
  split
  · rfl
  · exact h
  · exact h

end Sys2Proof.Machine
end

