-- ==== Sys2Proof/Laws/Blocks.lean ====
section
/-! SUPPORT. What the shared operations of the store, the Output Merge, the coils and the bus masters do, each said once. -/

namespace Sys2Proof.Machine

open Sys2Proof

/-! ## The store (R19) -/

/-- A lockout change starts a LOCKOUT-WRITE on an idle store, and leaves one pending behind a job. -/
theorem lockoutChange_cases (s : State) :
    (s.store.job = none ∧ s.lockoutChange = s.setStore { s.store with job := some s.lockoutJob }) ∨
    (∃ j, s.store.job = some j ∧ s.lockoutChange = s.setStore { s.store with pendingLockout := true }) := by
  unfold State.lockoutChange
  split <;> simp_all

/-- The end of a job starts the pending LOCKOUT-WRITE, otherwise the pending SAVE, otherwise leaves the store idle. -/
theorem nextJob_cases (s : State) :
    (s.store.pendingLockout = true ∧
      s.nextJob = s.setStore { s.store with job := some s.lockoutJob, pendingLockout := false }) ∨
    (∃ t, s.store.pendingLockout = false ∧ s.store.pendingSave = some t ∧
      s.nextJob = s.setStore { s.store with job := some ⟨.save t, .imageErase⟩, pendingSave := none }) ∨
    (s.store.pendingLockout = false ∧ s.store.pendingSave = none ∧
      s.nextJob = s.setStore { s.store with job := none }) := by
  unfold State.nextJob
  split
  · exact .inl ⟨‹_›, rfl⟩
  · rename_i h
    split
    · exact .inr (.inl ⟨_, Bool.eq_false_iff.2 h, ‹_›, rfl⟩)
    · exact .inr (.inr ⟨Bool.eq_false_iff.2 h, ‹_›, rfl⟩)

/-! ## Pump proving touches no stage (R97) -/

/-- A coil record of which only pump proving has moved. -/
def proveFrame (s t : State) : Prop :=
  t = { s with coils := t.coils, alerts := t.alerts } ∧
  ∀ j, ∃ p n, t.coils.at j = { s.coils.at j with prove := p, proveTimer := n }

theorem proveFrame_refl (s : State) : proveFrame s s := ⟨rfl, fun _ => ⟨_, _, rfl⟩⟩

theorem proveFrame_trans {s t u : State} (h : proveFrame s t) (k : proveFrame t u) : proveFrame s u := by
  refine ⟨Eq.trans k.1 (by rw [h.1]), fun j => ?_⟩
  obtain ⟨p, n, e⟩ := k.2 j
  obtain ⟨p', n', e'⟩ := h.2 j
  exact ⟨p, n, by rw [e, e']⟩

theorem proveFrame_setProve (s : State) (k : Fin 6) (p : Prove) (n : Option Nat) :
    proveFrame s (s.setProve k p n) := by
  refine ⟨rfl, fun j => ?_⟩
  change ∃ p' n', (s.coils.put k _).at j = _
  rw [Tab.at_put]
  split
  · rename_i h
    exact ⟨p, n, by rw [h]⟩
  · exact ⟨_, _, rfl⟩

theorem proveFrame_pumpTurned (s : State) (k : Fin 6) (on : Bool) : proveFrame s (s.pumpTurned k on) := by
  unfold State.pumpTurned
  split
  · split <;> (repeat' split) <;>
      first
        | exact proveFrame_refl s
        | exact proveFrame_setProve s k _ _
  · exact proveFrame_refl s

theorem proveFrame_handPump (b : Outputs) (s : State) (k : Fin 6) : proveFrame s (handPump b s k) := by
  unfold handPump
  split
  · exact proveFrame_refl s
  · exact proveFrame_pumpTurned s k _

theorem proveFrame_foldl {α : Type} (f : State → α → State) (h : ∀ s a, proveFrame s (f s a)) (l : List α) (s : State) :
    proveFrame s (l.foldl f s) := by
  induction l generalizing s with
  | nil => exact proveFrame_refl s
  | cons a l ih => exact proveFrame_trans (h s a) (ih (f s a))

/-- A recompute sets the pins, and moves pump proving alone beside them. -/
theorem recompute_proves (s : State) : proveFrame (s.setOutputs s.effective) s.recompute :=
  proveFrame_foldl _ (proveFrame_handPump s.outputs) _ _

/-- After a recompute the pins stand at the effective outputs (R130). -/
theorem recompute_outputs (s : State) : s.recompute.outputs = s.effective := by
  rw [(recompute_proves s).1]
  rfl

/-! ## Trip history (R94) -/

theorem tripHistory_last (h : List Seconds) (now : Seconds) (w l : Nat) :
    (tripHistory h now w l).getLast? = some now := by
  simp [tripHistory]

theorem tripHistory_pos (h : List Seconds) (now : Seconds) (w l : Nat) : 1 ≤ (tripHistory h now w l).length := by
  simp [tripHistory]

/-- A history within the lockout limit stays within it. -/
theorem tripHistory_length {h : List Seconds} {l : Nat} (hl : h.length ≤ l) (l1 : 1 ≤ l) (now : Seconds) (w : Nat) :
    (tripHistory h now w l).length ≤ l := by
  have hf := List.length_filter_le (fun e => decide (ageOf now e ≤ (w : Int) * 3600)) h
  simp only [tripHistory]
  split <;> simp <;> omega

/-- The trimmed history holds the limit at most (R4). -/
theorem trimHistory_length (h : List Seconds) (l : Nat) : (trimHistory h l).length ≤ l := by
  simp only [trimHistory, List.length_drop]
  omega

/-! ## The band ladder (R78) -/

/-- TRIP is latched. -/
@[simp] theorem ladder_trip (c : CoilCfg) (e : Nat) : ladder c .trip e = .trip := by simp [ladder]

/-! ## Frames of a segment (R42, R45, R47) -/

theorem markEntry_length (p : Fin 48) (r : PointResult) (l : List SnapEntry) : (markEntry p r l).length = l.length := by
  simp [markEntry]

/-- An entry given its result is no longer untried. -/
theorem markEntry_tried (p : Fin 48) (r : PointResult) (l : List SnapEntry) :
    ∀ e ∈ markEntry p r l, e.point = p → e.untried = false := by
  intro e he hp
  obtain ⟨e', -, rfl⟩ := List.mem_map.1 he
  by_cases h : e'.point = p ∧ e'.untried = true
  · rw [if_pos h]
    rfl
  · rw [if_neg h] at hp ⊢
    exact Bool.eq_false_iff.2 fun c => h ⟨hp, c⟩

end Sys2Proof.Machine
end

