-- ==== Sys2Proof/Laws/Link.lean ====
section
/-! SUPPORT. The end of an event and the dispatch of a request: what a selection adds, that a settled state is left as it
stands, and what a request does on a link that is ready for it. -/

namespace Sys2Proof.Machine

open Sys2Proof

/-! ## Selection and the end of an event -/

/-- The repeated selections change the resolver and add unfilled notices to the tail of the transmit queue. -/
theorem selectLoop_adds (n : Nat) (s : State) :
    ∃ l : List TxItem, (∀ i ∈ l, ∃ x c, i = .notice x c none) ∧
      selectLoop n s = { s with alerts := (selectLoop n s).alerts,
                                link := { s.link with txQueue := s.link.txQueue ++ l } } := by
  induction n generalizing s with
  | zero => exact ⟨[], by simp, by simp [selectLoop]⟩
  | succ n ih =>
    unfold selectLoop
    split
    · exact ⟨[], by simp, by simp⟩
    · rename_i x _
      obtain ⟨l, hl, e⟩ := ih (s.report x)
      refine ⟨.notice x (s.classOf x) none :: l, ?_, ?_⟩
      · intro i hi
        rcases List.mem_cons.1 hi with rfl | hi
        · exact ⟨x, _, rfl⟩
        · exact hl i hi
      · rw [e]
        simp [State.report, State.queueItem, State.setAlerts, State.setLink]

/-- Where no selection is due, none is made. -/
theorem runSelection_idle {s : State} (h : s.alerts.selectionDue = false) : s.runSelection = s := by
  simp [State.runSelection, h]

/-- A selection run leaves none due. -/
theorem runSelection_done (s : State) : s.runSelection.alerts.selectionDue = false := by
  unfold State.runSelection
  split
  · rfl
  · rename_i h
    exact Bool.eq_false_iff.2 h

/-- A head item that has begun is left as it stands. -/
theorem beginHead_begun {s : State} (h : s.headBegun) : s.beginHead = s := by
  unfold State.headBegun at h
  unfold State.beginHead
  rcases e : s.link.txQueue with _ | ⟨i, l⟩
  · rfl
  · rw [e] at h
    rcases i with f | ⟨x, c, late⟩
    · rfl
    · rcases late with _ | late
      · exact h.elim
      · rfl

/-- After `beginHead` the head item has begun. -/
theorem beginHead_begins (s : State) : s.beginHead.headBegun := by
  unfold State.beginHead
  rcases e : s.link.txQueue with _ | ⟨i, l⟩
  · simp [State.headBegun, e]
  · rcases i with f | ⟨x, c, late⟩
    · simp [State.headBegun, e]
    · rcases late with _ | late
      · simp [State.headBegun]
      · simp [State.headBegun, e]

/-- The ALERT line driven where it stands already. -/
theorem driveAlertLine_true {s : State} (h : s.alertLine = s.alertLineLevel) : s.driveAlertLine = s := by
  unfold State.driveAlertLine
  rw [← h]

/-- The end of an event leaves a settled state as it stands. -/
theorem conclude_settled {s : State} (h : s.settled) : s.conclude = s := by
  rw [State.conclude, runSelection_idle h.1, beginHead_begun h.2.1, driveAlertLine_true h.2.2]

/-- The end of an event after a selection run is the end of that event. -/
theorem conclude_runSelection (s : State) : s.runSelection.conclude = s.conclude := by
  rw [State.conclude, runSelection_idle (runSelection_done s), State.conclude]

/-- A response queued on a settled state leaves it settled. -/
theorem settled_queueItem {s : State} (h : s.settled) (f : Frame) : (s.queueItem (.response f)).settled := by
  obtain ⟨h1, h2, h3⟩ := h
  refine ⟨h1, ?_, h3⟩
  simp only [State.headBegun, State.queueItem, State.setLink_link] at h2 ⊢
  cases e : s.link.txQueue with
  | nil => simp
  | cons i l =>
    rw [e] at h2
    cases i with
    | response f => trivial
    | notice x c late =>
      cases late with
      | none => exact h2
      | some _ => trivial

/-! ## A request on a ready link -/

/-- The receive buffer emptied of nothing. -/
theorem setBuffer_self (s : State) : s.setBuffer s.link.rxBuffer = s := rfl

/-- A frame that reaches the buffer of a ready link is dispatched: its owner acts, its response is queued, and the event
ends. -/
theorem receiveFrame_ready {s : State} (h : s.ready) (f : Frame) :
    (s.receiveFrame f).conclude = (s.respond f).conclude := by
  obtain ⟨-, -, hb, hq, hr⟩ := h
  have hfree : ({ s.link with rxBuffer := [f] } : Link).txQueue.length < 4 := hq
  have e : (s.setBuffer [f]).canDispatch = true := by
    simp only [State.canDispatch, State.txFree, State.setBuffer, State.setLink_link, hr, Config.txCapacity] at *
    simp
    omega
  have e2 : (s.setBuffer [f]).setBuffer [] = s := by
    have : (s.setBuffer [f]).setBuffer [] = s.setBuffer s.link.rxBuffer := by rw [hb]; rfl
    rw [this, setBuffer_self]
  have e3 : s.receiveFrame f = (s.respond f).runSelection := by
    unfold State.receiveFrame State.dispatch
    rw [hb]
    simp only [List.nil_append, List.length_nil, Config.rxCapacity, Nat.not_le.2 (by omega : (0 : Nat) < 2), if_false]
    rw [show (s.setBuffer [f]).link.rxBuffer = [f] from rfl]
    simp only [List.length_singleton, drain]
    rw [show (s.setBuffer [f]).link.rxBuffer = [f] from rfl]
    simp only [e, if_true, e2]
  rw [e3, conclude_runSelection]

/-- A request command on a ready link. -/
theorem arrive_ready {s : State} (h : s.ready) (kind tag : Byte) (payload : List Byte) :
    arrive kind tag payload s = .next (s.respond ⟨kind, tag, payload⟩).conclude := by
  unfold arrive whileRunning
  rw [h.1]
  simp only
  rw [receiveFrame_ready h]

/-- A request whose owner changes nothing: the response joins the queue, and nothing else happens. -/
theorem arrive_answered {s : State} (h : s.ready) (kind tag : Byte) (payload body : List Byte)
    (e : handleRequest ⟨kind, tag, payload⟩ s = ⟨body, s⟩) :
    arrive kind tag payload s = .next (s.queueItem (.response ⟨kind + 0x80, tag, body⟩)) := by
  rw [arrive_ready h, State.respond, e]
  exact congrArg Host.Outcome.next (conclude_settled (settled_queueItem h.2.1 _))

end Sys2Proof.Machine
end

