-- ==== Sys2Proof/Laws/Regions.lean ====
section
/-! SUPPORT. The CRC-16 as a fold, and the check of a region that has been written or spoiled (R18). -/

namespace Sys2Proof.Machine

open Sys2Proof

/-! ## The CRC-16 -/

@[simp] theorem evaluated_eq {α : Type} (v : Half) (f : Half → α) : evaluated v f = f v := by
  unfold evaluated
  split
  · rename_i h
    rw [BitVec.eq_of_toNat_eq (show v.toNat = (0 : Half).toNat from h)]
  · rename_i n h
    rw [show n + 1 = v.toNat from h.symm, BitVec.ofNat_toNat, BitVec.setWidth_eq]

/-- The CRC-16 is a fold of its bytes from 0xFFFF. -/
theorem crc16_eq_foldl (l : List Byte) : crc16 l = l.foldl (fun c b => crcBits 8 (c ^^^ (b ++ (0 : Byte)))) 0xFFFF := by
  have h : ∀ c, crcBytes l c = l.foldl (fun c b => crcBits 8 (c ^^^ (b ++ (0 : Byte)))) c := by
    induction l with
    | nil => exact fun c => rfl
    | cons b l ih => intro c; rw [crcBytes, evaluated_eq, ih, List.foldl_cons]
  exact h _

/-! ## The check of a region -/

@[simp] theorem Image.written_crcMatches (t : Tables) : (Image.written t).crcMatches = true := by
  simp [Image.crcMatches, Image.written]

@[simp] theorem Image.spoiled_crcMatches (i : Image) : i.spoiled.crcMatches = false := by
  simp [Image.crcMatches, Image.spoiled]

@[simp] theorem Area.written_crcMatches (f : Tab Bool 6) : (Area.written f).crcMatches = true := by
  simp [Area.crcMatches, Area.written]

@[simp] theorem Area.spoiled_crcMatches (a : Area) : a.spoiled.crcMatches = false := by
  simp [Area.crcMatches, Area.spoiled]

@[simp] theorem Image.written_format (t : Tables) : (Image.written t).format = Config.imageFormat := rfl
@[simp] theorem Image.written_tables (t : Tables) : (Image.written t).tables = t := rfl
@[simp] theorem Image.spoiled_format (i : Image) : i.spoiled.format = i.format := rfl
@[simp] theorem Image.spoiled_tables (i : Image) : i.spoiled.tables = i.tables := rfl
@[simp] theorem Area.written_flags (f : Tab Bool 6) : (Area.written f).flags = f := rfl
@[simp] theorem Area.spoiled_flags (a : Area) : a.spoiled.flags = a.flags := rfl

@[simp] theorem State.spoilImage_image (s : State) : s.spoilImage.image = s.image.spoiled := rfl
@[simp] theorem State.spoilImage_area (s : State) : s.spoilImage.area = s.area := rfl
@[simp] theorem State.spoilArea_image (s : State) : s.spoilArea.image = s.image := rfl
@[simp] theorem State.spoilArea_area (s : State) : s.spoilArea.area = s.area.spoiled := rfl

end Sys2Proof.Machine
end

