-- ==== Sys2Proof/Laws/Reports.lean ====
section
/-! SUPPORT. Where a field of a report stands, and what its encoding reads back as (R168). -/

namespace Sys2Proof.Machine

open Sys2Proof

/-! ## Places -/

/-- A field inside the first part of a report. -/
theorem fieldAt_append_left (l m : List Byte) (i n : Nat) (h : i + n ≤ l.length) : fieldAt (l ++ m) i n = fieldAt l i n := by
  unfold fieldAt
  rw [List.drop_append_of_le_length (by omega), List.take_append_of_le_length (by simp; omega)]

/-- A field past the first part of a report. -/
theorem fieldAt_append_right (l m : List Byte) (i n : Nat) (h : l.length ≤ i) : fieldAt (l ++ m) i n = fieldAt m (i - l.length) n := by
  unfold fieldAt
  rw [List.drop_append, List.drop_eq_nil_of_le h, List.nil_append]

@[simp] theorem fieldAt_cons_succ (b : Byte) (l : List Byte) (i n : Nat) : fieldAt (b :: l) (i + 1) n = fieldAt l i n := rfl

@[simp] theorem fieldAt_cons_zero (b : Byte) (l : List Byte) : fieldAt (b :: l) 0 1 = b.toNat := by simp [fieldAt]

/-- A field of entries that are all `w` bytes long, inside the entry of index `i`. -/
theorem fieldAt_flatMap {α : Type} (f : α → List Byte) (w : Nat) (l : List α) (h : ∀ x ∈ l, (f x).length = w) (i j n : Nat) (x : α)
    (hx : l[i]? = some x) (hj : j + n ≤ w) : fieldAt (l.flatMap f) (w * i + j) n = fieldAt (f x) j n := by
  induction l generalizing i with
  | nil => simp at hx
  | cons y t ih =>
    have hy := h y (by simp)
    rw [List.flatMap_cons]
    cases i with
    | zero =>
      obtain rfl : y = x := by simpa using hx
      rw [Nat.mul_zero, Nat.zero_add, fieldAt_append_left _ _ _ _ (by omega)]
    | succ i =>
      rw [fieldAt_append_right _ _ _ _ (by rw [hy, Nat.mul_add]; omega), hy,
        show w * (i + 1) + j - w = w * i + j by rw [Nat.mul_add]; omega]
      exact ih (fun z hz => h z (by simp [hz])) i (by simpa using hx)

@[simp] theorem padTo_length (n : Nat) (l : List Byte) : (padTo n l).length = n := by simp [padTo]

/-- A filled field of a padded list. -/
theorem fieldAt_padTo_filled (n : Nat) (l : List Byte) (i k : Nat) (hn : i + k ≤ n) (hl : i + k ≤ l.length) :
    fieldAt (padTo n l) i k = fieldAt l i k := by
  unfold fieldAt padTo
  rw [List.drop_take, List.take_take, Nat.min_eq_left (by omega), List.drop_append_of_le_length (by omega),
    List.take_append_of_le_length (by simp; omega)]

/-- An unused field of a padded list is 0. -/
theorem fieldAt_padTo_unused (n : Nat) (l : List Byte) (i k : Nat) (hl : l.length ≤ i) : fieldAt (padTo n l) i k = 0 := by
  have zero : ∀ m : List Byte, (∀ b ∈ m, b = 0) → m.foldl (fun v b => 256 * v + b.toNat) 0 = 0 := by
    intro m hm
    induction m with
    | nil => rfl
    | cons b t ih =>
      rw [List.foldl_cons, hm b (by simp)]
      exact ih fun c hc => hm c (by simp [hc])
  unfold fieldAt padTo
  refine zero _ fun b hb => ?_
  have hb := List.mem_of_mem_take hb
  rw [List.drop_take, List.drop_append, List.drop_eq_nil_of_le hl, List.nil_append] at hb
  exact (List.mem_replicate.1 (List.mem_of_mem_drop (List.mem_of_mem_take hb))).2

/-! ## Numbers -/

@[simp] theorem bytesBE_length (n v : Nat) : (bytesBE n v).length = n := by
  induction n with
  | zero => rfl
  | succ n ih => simp [bytesBE, ih]

theorem foldl_bytesBE (n v a : Nat) :
    (bytesBE n v).foldl (fun v b => 256 * v + b.toNat) a = 256 ^ n * a + v % 256 ^ n := by
  induction n generalizing a with
  | zero => simp [bytesBE, Nat.mod_one]
  | succ n ih =>
    simp only [bytesBE, List.foldl_cons, ih, BitVec.toNat_ofNat, Nat.reducePow]
    rw [pow_succ, Nat.mod_mul]
    ring

/-- A number of `n` bytes reads back as itself, modulo what its field holds. -/
@[simp] theorem fieldAt_bytesBE (n v : Nat) : fieldAt (bytesBE n v) 0 n = v % 256 ^ n := by
  unfold fieldAt
  rw [List.drop_zero, List.take_of_length_le (by simp), foldl_bytesBE]
  simp

@[simp] theorem u8_toNat (v : Nat) : (u8 v).toNat = v % 256 := by simp [u8]

/-! ## Absent values -/

theorem tempBytes_length (t : Option Int) : (tempBytes t).length = 2 := by cases t <;> simp [tempBytes, i16]

theorem secondBytes_length (t : Option Seconds) : (secondBytes t).length = 4 := by cases t <;> simp [secondBytes]

theorem timerBytes_length (t : Option Nat) : (timerBytes t).length = 2 := by cases t <;> simp [timerBytes]

/-- A temperature reads back as itself, an absent one as 0x8000. -/
theorem tempIs_tempBytes (t : Option Int) : tempIs (tempBytes t) 0 t := by
  cases t with
  | none => rfl
  | some v =>
    intro hl hh
    simp only [tempBytes, i16, fieldAt_bytesBE, BitVec.toNat_ofInt]
    split <;> omega

/-- A plant second reads back as itself, an absent one as 0xFFFFFFFF. -/
theorem secondIs_secondBytes (t : Option Seconds) : secondIs (secondBytes t) 0 t := by
  cases t with
  | none => rfl
  | some v =>
    have := v.isLt
    simp only [secondIs, secondBytes, fieldAt_bytesBE]
    omega

/-- A running timer reads back as itself and never as 0, a stopped one as 0xFFFF. -/
theorem timerIs_timerBytes (t : Option Nat) : timerIs (timerBytes t) 0 t := by
  cases t with
  | none => rfl
  | some v =>
    intro h
    simp only [timerBytes, fieldAt_bytesBE]
    split <;> omega

/-! ## Flags and sets -/

theorem flagBits_lt (l : List Bool) : flagBits l < 2 ^ l.length := by
  induction l with
  | nil => simp [flagBits]
  | cons b t ih =>
    rw [flagBits, List.length_cons, pow_succ]
    split <;> omega

/-- Bit `j` of a byte of flags is the flag of that index. -/
theorem flagBits_testBit (l : List Bool) (j : Nat) : (flagBits l).testBit j = l.getD j false := by
  induction l generalizing j with
  | nil => simp [flagBits]
  | cons b t ih =>
    cases j with
    | zero => cases b <;> simp [flagBits, Nat.testBit_zero, Nat.add_mod]
    | succ j =>
      rw [Nat.testBit_succ, List.getD_cons_succ, ← ih, flagBits]
      congr 1
      cases b <;> simp
      omega

/-- A byte of up to eight flags reads back as its flags. -/
theorem flagsAre_flagBits (f : List Bool) (h : f.length ≤ 8) : flagsAre [u8 (flagBits f)] 0 f := by
  intro j hj
  have hb : flagBits f < 256 := lt_of_lt_of_le (flagBits_lt f) (Nat.pow_le_pow_right (by omega) h)
  rw [fieldAt_cons_zero, u8_toNat, Nat.mod_eq_of_lt hb, flagBits_testBit]

theorem pointSetBytes_length (l : List (Fin 48)) : (pointSetBytes l).length = 6 := by simp [pointSetBytes]

theorem sourceSetBytes_length (f : Fin 65 → Bool) : (sourceSetBytes f).length = 9 := by simp [sourceSetBytes]

/-- A point set reads back as its members. -/
theorem pointsAre_pointSetBytes (l : List (Fin 48)) : pointsAre (pointSetBytes l) 0 l := by
  intro p
  have hb := flagBits_lt ((List.finRange 48).map fun p => l.contains p)
  have h6 : (256 : Nat) ^ 6 = 2 ^ ((List.finRange 48).map fun p => l.contains p).length := by simp
  rw [pointSetBytes, fieldAt_bytesBE, Nat.mod_eq_of_lt (by rw [h6]; exact hb), flagBits_testBit, List.getD_eq_getElem?_getD]
  simp

/-- A source set reads back as its members. -/
theorem sourceSetBytes_testBit (f : Fin 65 → Bool) (x : Fin 65) : (fieldAt (sourceSetBytes f) 0 9).testBit x.val = f x := by
  have hb := flagBits_lt ((List.finRange 65).map f)
  have h9 : 2 ^ ((List.finRange 65).map f).length ≤ 256 ^ 9 := by simp
  rw [sourceSetBytes, fieldAt_bytesBE, Nat.mod_eq_of_lt (lt_of_lt_of_le hb h9), flagBits_testBit, List.getD_eq_getElem?_getD]
  simp

end Sys2Proof.Machine
end

