-- ==== Sys2Proof/Laws/Units.lean ====
section
/-! SUPPORT. What an event of R110 does to a unit's record, said once, and what a coil's leaving does to the open frames. -/

namespace Sys2Proof.Machine

open Sys2Proof

/-! ## Unit `u`'s record and the resolver alone -/

/-- Only unit `u`'s record and the resolver differ. -/
def unitFrame (u : Fin 3) (s t : State) : Prop :=
  t = { s with units := t.units, alerts := t.alerts } ∧ ∀ v, v ≠ u → t.units.at v = s.units.at v

theorem unitFrame_refl (u : Fin 3) (s : State) : unitFrame u s s := ⟨rfl, fun _ _ => rfl⟩

theorem unitFrame_trans {u : Fin 3} {s t w : State} (h : unitFrame u s t) (k : unitFrame u t w) : unitFrame u s w :=
  ⟨Eq.trans k.1 (by rw [h.1]), fun v hv => (k.2 v hv).trans (h.2 v hv)⟩

theorem unitFrame_setUnit (u : Fin 3) (s : State) (r : UnitRec) : unitFrame u s (s.setUnit u r) :=
  ⟨rfl, fun _ hv => Tab.at_put_of_ne _ _ hv⟩

theorem unitFrame_handSecureFault (u v : Fin 3) (s : State) : unitFrame u s (s.handSecureFault v) := ⟨rfl, fun _ _ => rfl⟩

theorem unitFrame_raiseEdge (u : Fin 3) (s : State) (x : Fin 65) : unitFrame u s (s.raiseEdge x) := ⟨rfl, fun _ _ => rfl⟩

theorem unitFrame_enterSecured (u : Fin 3) (s : State) : unitFrame u s (s.enterSecured u) :=
  unitFrame_trans (unitFrame_trans (unitFrame_setUnit u s _) (unitFrame_handSecureFault u u _)) (unitFrame_raiseEdge u _ _)

/-- The record after the entry to SECURED (R115). -/
theorem enterSecured_record (u : Fin 3) (s : State) : (s.enterSecured u).units.at u = { s.units.at u with
    stage := .secured, stroke := none, fan := none, missingDamper := false, missingFan := false } :=
  Tab.at_put_self _ _ _

theorem unitFrame_enterClosing (u : Fin 3) (s : State) : unitFrame u s (s.enterClosing u) := by
  unfold State.enterClosing
  dsimp only
  split
  · exact unitFrame_trans (unitFrame_trans (unitFrame_setUnit u s _) (unitFrame_handSecureFault u u _)) (unitFrame_enterSecured u _)
  · exact unitFrame_trans (unitFrame_setUnit u s _) (unitFrame_handSecureFault u u _)

/-- The record after the entry to CLOSING (R113): SECURED at once where both proofs are present. -/
theorem enterClosing_record (u : Fin 3) (s : State) :
    (s.enterClosing u).units.at u =
      if s.damperProof u && s.fanProof u then { s.units.at u with
        stage := .secured, stroke := none, fan := none, holdOff := none, missingDamper := false, missingFan := false,
        closingSecond := some s.plantSeconds }
      else { s.units.at u with
        stage := .closing, stroke := some (s.tables.units.at u).strokeLimit, fan := some (s.tables.units.at u).fanStopLimit,
        holdOff := none, missingDamper := false, missingFan := false, closingSecond := some s.plantSeconds } := by
  unfold State.enterClosing
  dsimp only
  split
  · rename_i h
    rw [enterSecured_record, if_pos (show (s.damperProof u && s.fanProof u) = true from h)]
    simp [State.handSecureFault, State.handLevel]
  · rename_i h
    rw [if_neg (show ¬ (s.damperProof u && s.fanProof u) = true from h)]
    exact Tab.at_put_self _ _ _

theorem unitFrame_leaveRestartHold (u : Fin 3) (s : State) : unitFrame u s (s.leaveRestartHold u) := unitFrame_setUnit u s _

theorem unitFrame_enterRestartHold (u : Fin 3) (s : State) : unitFrame u s (s.enterRestartHold u) := by
  unfold State.enterRestartHold
  dsimp only
  split
  · exact unitFrame_trans (unitFrame_trans (unitFrame_setUnit u s _) (unitFrame_handSecureFault u u _)) (unitFrame_leaveRestartHold u _)
  · exact unitFrame_trans (unitFrame_setUnit u s _) (unitFrame_handSecureFault u u _)

/-- The record after the entry to RESTART_HOLD (R118): with a hold-off of 0 s it is left at once (R119). -/
theorem enterRestartHold_record (u : Fin 3) (s : State) :
    (s.enterRestartHold u).units.at u =
      if (s.tables.units.at u).holdOff = 0 then { s.units.at u with
        stage := if (s.units.at u).temper then .temper else .run, stroke := none, fan := none, holdOff := none,
        missingDamper := false, missingFan := false }
      else { s.units.at u with
        stage := .restartHold, stroke := none, fan := none, holdOff := some (s.tables.units.at u).holdOff,
        missingDamper := false, missingFan := false } := by
  unfold State.enterRestartHold
  dsimp only
  split
  · simp [State.leaveRestartHold, State.handSecureFault, State.handLevel]
  · exact Tab.at_put_self _ _ _

theorem unitFrame_moveUnit (u : Fin 3) (s : State) : unitFrame u s (s.moveUnit u) := by
  unfold State.moveUnit
  dsimp only
  (repeat' split) <;>
    first
      | exact unitFrame_refl u s
      | exact unitFrame_setUnit u s _
      | exact unitFrame_enterClosing u s
      | exact unitFrame_enterRestartHold u s

theorem unitFrame_unitEvent (u : Fin 3) (s : State) : unitFrame u s (s.unitEvent u) := by
  unfold State.unitEvent
  split
  · exact unitFrame_refl u s
  · exact unitFrame_trans (unitFrame_setUnit u s _) (unitFrame_moveUnit u _)
  · exact unitFrame_trans (unitFrame_setUnit u s _) (unitFrame_moveUnit u _)

/-! ## The unit's event (R110, R112, R113, R118, R119) -/

/-- An event of R110 does to its unit's record what `unitMoved` says, outside FALLBACK. -/
theorem unitEvent_moved {s : State} (h : s.mode ≠ .fallback) (u : Fin 3) : unitMoved s (s.unitEvent u) u := by
  have e := (unitFrame_unitEvent u s).1
  have e1 : (s.unitEvent u).temperOf u = s.temperOf u := by rw [e]; rfl
  have e2 : (s.unitEvent u).tripOf u = s.tripOf u := by rw [e]; rfl
  have e3 : (s.unitEvent u).damperProof u = s.damperProof u := by rw [e]; rfl
  have e4 : (s.unitEvent u).fanProof u = s.fanProof u := by rw [e]; rfl
  have em : s.unitEvent u = (s.setConditions u).moveUnit u := by
    unfold State.unitEvent
    split
    · exact absurd ‹_› h
    · rfl
    · rfl
  intro c r hc hr
  subst hc
  rw [e1, e2] at hr
  have hq : (s.setConditions u).units.at u = r := by rw [hr]; exact Tab.at_put_self _ _ _
  have hx := enterClosing_record u (s.setConditions u)
  have hy := enterRestartHold_record u (s.setConditions u)
  rw [hq] at hx hy
  rw [show (s.setConditions u).damperProof u = s.damperProof u from rfl,
    show (s.setConditions u).fanProof u = s.fanProof u from rfl,
    show (s.setConditions u).tables = s.tables from rfl,
    show (s.setConditions u).plantSeconds = s.plantSeconds from rfl] at hx
  rw [show (s.setConditions u).tables = s.tables from rfl] at hy
  rw [e3, e4, em]
  unfold State.moveUnit
  dsimp only
  rw [hq]
  clear hr e e1 e2 e3 e4 em
  obtain ⟨stage, temper, trip, _, _, _, _, _, _⟩ := r
  cases hd : s.damperProof u <;> cases hf : s.fanProof u <;> cases stage <;> cases trip <;> cases temper <;>
    simp [UnitStage.shut, State.setUnit, hx, hy, hd, hf] <;> omega

/-- Outside FALLBACK an event of R110 moves its unit alone. -/
theorem unitEvent_onlyUnitMoved (s : State) (u : Fin 3) : onlyUnitMoved s (s.unitEvent u) u :=
  ⟨fun h => unitEvent_moved h u, (unitFrame_unitEvent u s).2⟩

/-! ## The open frames (R38, R47, R48, R67, R175) -/

/-- A coil that stays present on its unit leaves no frame; one that goes leaves the coil set of every master. -/
theorem leaveFrames_cases (s : State) (k : Fin 6) (old new : CoilCfg) :
    ((old.present = false ∨ new.present = true ∧ new.unit = old.unit) ∧ s.leaveFrames k old new = s) ∨
    (old.present = true ∧ (new.present = false ∨ new.unit ≠ old.unit) ∧
      s.leaveFrames k old new =
        { s with masters := s.masters.each fun m => { m with coilSet := m.coilSet.filter fun j => j != k } }) := by
  unfold State.leaveFrames
  cases old.present <;> cases new.present <;> by_cases h : new.unit = old.unit <;> simp [h]

/-- A coil filtered out of a coil set is in it no more. -/
theorem not_mem_coilSet_left (l : List (Fin 6)) (k : Fin 6) : k ∉ l.filter fun j => j != k := by simp

/-- The address byte of an address on the bus is twice the address plus the read flag (R175). -/
theorem addressByte_toNat {a : Nat} (h : a < 128) : (addressByte a).toNat = 2 * a + 1 := by
  simp [addressByte, u8]
  omega

/-- A master that reads an entry sends that entry's address byte, and no other master sends one. -/
theorem addressSent_cases (m : Master) :
    (m.position = none ∧ m.addressSent = none) ∨
    ∃ e, m.position = some e ∧ m.addressSent = some (addressByte e.address) := by
  unfold Master.addressSent
  cases m.position <;> simp

/-- A snapshot whose rest has been given a result has no entry left. -/
theorem restGiven_tried {r : PointResult} {l : List SnapEntry} {f : SnapEntry} (h : f ∈ restGiven r l) : f.result ≠ none := by
  obtain ⟨e, -, rfl⟩ := List.mem_map.mp h
  cases he : e.result <;> simp [he]

/-- A snapshot without an entry left stands where the rest is given a result. -/
theorem restGiven_of_tried (r : PointResult) {l : List SnapEntry} (h : ∀ f ∈ l, f.result ≠ none) : restGiven r l = l := by
  unfold restGiven
  rw [List.map_congr_left (g := id) fun f hf => by simp [h f hf], List.map_id]

/-- The entries of a closing snapshot are the points of the snapshot, in its order. -/
theorem restGiven_point (r : PointResult) (l : List SnapEntry) : (restGiven r l).map (·.point) = l.map (·.point) := by
  simp only [restGiven, List.map_map]
  exact List.map_congr_left fun f _ => by simp only [Function.comp]; split <;> rfl

/-- A frame result is handed to a coil of the segment's unit alone (R47, R51). -/
theorem handFrame_cases (g : Fin 3) (l : List SnapEntry) (n : Nat) (s : State) (k : Fin 6) :
    (s.coilOf g k = false ∧ State.handFrame g l n s k = s) ∨
    (s.coilOf g k = true ∧ State.handFrame g l n s k = s.closeCoilFrame k (l.filter fun e => e.coil == some k) n) := by
  unfold State.handFrame
  cases s.coilOf g k <;> simp

end Sys2Proof.Machine
end

