-- ==== Sys2Proof/Tests/Slice0.lean ====
section
/-! SUPPORT. The tests: the WellFormed smoke test, single operations and single steps with the manual's own numbers, and for each
statement with hypotheses a state and operands that meet them. -/

namespace Sys2Proof.Tests

open Sys2Proof Sys2Proof.Machine

/- One theorem after another: each kernel evaluation in a thread of its own would pass the memory limit of the check. -/
set_option Elab.async false

/-! ## States for the tests -/

/-- A running part in a mode, with nothing on the link and nothing raised, from the values of reset. -/
def quiet (m : PlantMode) : State := { State.reset with power := .running, mode := m }

/-- The state with coil C1's record written and its sequencer and exposure records replaced. -/
def withC1 (c : CoilCfg) (r : CoilSeq) (x : Exposure) (s : State) : State :=
  ((s.setTables { s.tables with coils := s.tables.coils.put 0 c }).setCoil 0 r).setExposure 0 x

/-- The default coil record, present. -/
def present : CoilCfg := { CoilCfg.default with present := true }

/-- The outputs put at their rules. -/
def driven (s : State) : State := s.setOutputs s.effective

/-- A part with nothing raised and an idle link is settled. -/
theorem settled_of_start {s : State} (ha : s.alerts = Alerts.start) (hl : s.alertLine = false) (hk : s.link = Link.start) :
    s.settled := by
  refine ⟨by rw [ha]; rfl, ?_, ?_⟩
  · simp [State.headBegun, hk, Link.start]
  · simp [State.alertLineLevel, ha, hl, Alerts.start]

/-- A running part with nothing raised and an idle link is ready. -/
theorem ready_of_start {s : State} (hp : s.power = .running) (ha : s.alerts = Alerts.start) (hl : s.alertLine = false)
    (hk : s.link = Link.start) : s.ready :=
  ⟨hp, settled_of_start ha hl hk, by rw [hk]; rfl, by rw [hk]; decide, by rw [hk]; rfl⟩

theorem quiet_ready (m : PlantMode) : (quiet m).ready := ready_of_start rfl rfl rfl rfl

/-! ## WellFormed smoke -/

/-- The KIND of a request is no unknown KIND (R161). -/
theorem smoke_known_kind : (Instr.unknownRequest 0x01 0 []).wellFormed = false := by decide
/-- A payload of 241 bytes fits no frame (R155). -/
theorem smoke_long_payload : (Instr.unknownRequest 0x55 0 (List.replicate 241 0)).wellFormed = false := by decide +kernel
theorem smoke_long_demand : (Instr.putDemand 0 (List.replicate 80 (1, 0))).wellFormed = false := by decide +kernel
theorem smoke_long_scan : (Instr.setScan 0 (List.replicate 240 0)).wellFormed = false := by decide +kernel
theorem smoke_good : (Instr.unknownRequest 0x55 0 [1]).wellFormed = true := by decide

/-! ## Single operations, with the manual's numbers -/

/-- The check value of this CRC-16 over the digits 1 to 9 (R155's polynomial and initial value). -/
theorem test_crc : crc16 [0x31, 0x32, 0x33, 0x34, 0x35, 0x36, 0x37, 0x38, 0x39] = 0x29B1 := by decide +kernel
/-- R27: before trim the lowest code gives −793 tc and the highest +792 tc. -/
theorem test_codes : codeTemp 20 0 = -793 ∧ codeTemp 4075 0 = 792 ∧ codeTemp 4075 127 = 800 := by decide
/-- R26: 19 and 4076 are wiring faults, 20 and 4075 are not. -/
theorem test_wiring : [19, 20, 4075, 4076].map wiringFault = [true, false, false, true] := by decide
/-- R74: the highest gain is 640 × 40 × 2. -/
theorem test_gain : gainE 0 160 (-960) 40 2 = 51200 ∧ gainE 16777200 48 8 4 1 = 16777215 := by decide
/-- R75: the highest loss is 640 × 40 × 16 / 4, and a C_eff at the threshold drains n. -/
theorem test_loss : lossE 200000 (-160) 960 40 16 = 97600 ∧ lossE 100 48 48 4 4 = 96 := by decide
/-- R78: ADVISE2 holds until A1 and then falls to ADVISE1; a fall to RECOVER goes to CLEAR. -/
theorem test_ladder : ladder CoilCfg.default .advise2 11521 = .advise2 ∧ ladder CoilCfg.default .advise2 11520 = .advise1 ∧
    ladder CoilCfg.default .advise2 3840 = .clear ∧ ladder CoilCfg.default .clear 46080 = .trip := by decide
/-- R58: the mean is taken toward negative infinity. -/
theorem test_mean : meanOf [-3, -4] = -4 ∧ coldSpot [5, -4, 9] = -4 ∧ hotSpot [5, -4, 9] = 9 := by decide
/-- R49: three misses in a row drop a point that has never answered. -/
theorem test_drop : (((Health.start.miss .timeout).miss .noAnswer).miss .stuck).state = .dropped := by decide
/-- R50: the second GOOD in a row brings a dropped point back. -/
theorem test_return : (((Health.start.miss .timeout).miss .noAnswer).miss .stuck |>.hit 40 7 |>.state) = .dropped ∧
    ((((Health.start.miss .timeout).miss .noAnswer).miss .stuck |>.hit 40 7).hit 41 8).state = .ok := by decide
/-- R94: an entry one window old is kept, an older one dropped. -/
theorem test_history : tripHistory [0, 1, 5] 3601 1 3 = [1, 5, 3601] ∧ tripHistory [1, 2, 3] 10 1 3 = [2, 3, 10] := by decide
/-- R172: a valve or damper clamps at 1000, a pump or fan is on for any value but 0. -/
theorem test_values : demandValue 0 2000 = 1000 ∧ demandValue 6 2000 = 1 ∧ demandValue 17 0 = 0 ∧ demandValue 14 999 = 999 := by
  decide
/-- R140: sources 20 (BLIND of C3), 51 (DEMAND_STALE of U1), 62 (STORE_DONE): level, level, edge. -/
theorem test_sources : srcBlind 2 = 20 ∧ srcDemandStale 0 = 51 ∧ isLevel 20 = true ∧ isLevel 51 = true ∧ isLevel 62 = false := by
  decide
/-- R6: the default of P17 is segment S2 at address 8. -/
theorem test_point : (PointCfg.default 16).segment = 1 ∧ (PointCfg.default 16).address = 8 ∧ (PointCfg.default 47).address = 23 := by
  decide

/-! ## Single steps -/

/-- R164, R177: GET-STATUS answers DONE and 210 bytes under KIND 0x81. -/
theorem test_status : (match exec (.getStatus 9 0) (quiet .test) with
    | .next t => t.link.txQueue.map fun i => match i with
      | .response f => (f.kind, f.tag, f.payload.length)
      | .notice _ _ _ => (0, 0, 0)
    | .fault _ => []
    | .refused _ => []) = [(0x81, 9, 211)] := by decide +kernel

/-- R16: a cold start from reset with a FIELD strap and an image that fails its check ends in FALLBACK, with the lockout area
marked dirty and its rewrite in flight. -/
theorem test_start : (match exec (.startComplete .field) State.reset with
    | .next t => (t.mode, t.imageInvalid, t.areaDirty, t.store.job.isSome, t.outputs == Outputs.posture)
    | .fault _ => (.test, false, false, false, false)
    | .refused _ => (.test, false, false, false, false)) = (.fallback, true, true, true, true) := by decide +kernel

/-- R93, R95: the third pump trip in BOOST inside the window locks the coil out. -/
theorem test_lockout : (match exec (.proveTimerExpiry 0)
      (withC1 present { CoilSeq.start with stage := .boost, prove := .proving, proveTimer := some 1, history := [0, 0] }
        { e := 5, band := .advise2, confirm := 0 } (quiet .armed)) with
    | .next t => ((t.coils.at 0).stage, (t.coils.at 0).lockout, (t.exposures.at 0).band, t.store.job.isSome)
    | .fault _ => (.idle, false, .clear, false)
    | .refused _ => (.idle, false, .clear, false)) = (.lockout, true, .trip, true) := by decide +kernel

/-- R114: a stroke timer that expires with the damper proof missing faults the unit, and names that proof. -/
theorem test_stroke : (match exec (.strokeTimerExpiry 1) ((quiet .armed).setUnit 1 { UnitRec.start with stage := .closing, stroke := some 1 }) with
    | .next t => ((t.units.at 1).stage, (t.units.at 1).missingDamper, (t.units.at 1).missingFan)
    | .fault _ => (.idle, false, false)
    | .refused _ => (.idle, false, false)) = (.secureFault, true, false) := by decide +kernel

/-- R137, R9: with the default debounce time of 2 steps a change starts 200 ms. -/
theorem test_debounce : (match exec (.inputLevelChange 4 true) (quiet .armed) with
    | .next t => t.inputs.at 4
    | .fault _ => { debounced := true, timer := none }
    | .refused _ => { debounced := true, timer := none }) = { debounced := false, timer := some 200 } := by decide +kernel

/-! ## Witnesses of the statements' hypotheses -/

theorem witness_StepTakesTheFrontCommand : (∃ (s : State) (c : Instr) (rest : List Instr), s.pending = c :: rest) ∧
    ∃ s : State, s.pending = [] :=
  ⟨⟨State.reset.setPending [.powerLoss], .powerLoss, [], rfl⟩, ⟨State.reset, rfl⟩⟩

/-- A running part in ARMED whose C1 is tripped and whose unit is closing, with a tick waiting. -/
def shutting : State :=
  let s := withC1 present { CoilSeq.start with stage := .tripped } { e := 16777215, band := .trip, confirm := 4 } (quiet .armed)
  let s := (s.setUnit 0 { UnitRec.start with stage := .closing, trip := true }).setUnit 1 { UnitRec.start with stage := .run }
  (driven (s.setUnit 2 { UnitRec.start with stage := .run })).setPending [.plantSecondTick]

theorem witness_EveryStepSettlesAndDrivesTheAlertLine : ∃ s t : State, s.settled ∧ step s = .next t :=
  ⟨shutting, _, settled_of_start rfl rfl rfl, rfl⟩

/-- A link with both queues full. -/
def fullLink : Link :=
  { Link.start with rxBuffer := [⟨2, 1, [1]⟩, ⟨2, 2, [1]⟩], txQueue := List.replicate 4 (.response ⟨0x82, 0, [3]⟩) }

theorem witness_EveryStepKeepsTheLinkWithinItsQueues : ∃ s t : State, s.linkBounded ∧ step s = .next t :=
  ⟨(shutting.setLink fullLink).setPending [.txItemSent], _, ⟨by decide, by decide, fun _ _ => rfl⟩, rfl⟩

/-- A resolver with source 0 in service and source 2 standing. -/
def servedAlerts : Alerts :=
  { Alerts.start with
    sources := (Alerts.start.sources.put 0 ⟨false, .inService⟩).put 2 ⟨true, .standing⟩, stack := [⟨0, 5⟩] }

theorem witness_EveryStepKeepsTheAlertCollectionsOrdered : ∃ s t : State, s.alertsOrdered ∧ step s = .next t :=
  ⟨shutting.setAlerts servedAlerts, _, by unfold State.alertsOrdered; decide +kernel, rfl⟩

theorem witness_EveryStepKeepsExposureInRange : ∃ s t : State, s.exposureBounded ∧ step s = .next t :=
  ⟨shutting, _, by unfold State.exposureBounded; decide +kernel, rfl⟩

theorem witness_EveryStepKeepsTheOutputsAtTheirRules : ∃ s t : State, s.outputsTrue ∧ s.power = .running ∧ step s = .next t :=
  ⟨shutting, _, ⟨fun _ => by decide +kernel, fun _ h => nomatch h⟩, rfl, rfl⟩

theorem witness_EveryStepHoldsTheEnginesInFallback :
    ∃ s t : State, s.fallbackHeld ∧ s.power = .running ∧ s.mode = .fallback ∧ step s = .next t :=
  ⟨(quiet .fallback).setPending [.frameTimerExpiry 0], _, fun _ _ => by decide +kernel, rfl, rfl, rfl⟩

theorem witness_EveryStepKeepsTripAndShutdownTogether :
    ∃ s t : State, s.tripShuts ∧ s.power = .running ∧ s.mode ≠ .fallback ∧ s.tripOf 0 = true ∧ step s = .next t :=
  ⟨shutting, _, fun _ _ => by decide +kernel, rfl, by decide, by decide +kernel, rfl⟩

theorem witness_EveryStepKeepsTheStoreQueueInOrder : ∃ s t : State, s.storeOrdered ∧ s.store.job = none ∧ step s = .next t :=
  ⟨shutting, _, fun _ => ⟨rfl, rfl⟩, rfl, rfl⟩

theorem witness_FrameBytesActAsTheFramesArrival :
    ∃ (s : State) (f g : Frame), s.power = .running ∧ s.settled ∧ s.link.receiver = .idle ∧
      f.payload.length = Config.maxPayload ∧ g.payload = [] :=
  ⟨quiet .test, ⟨0x55, 1, List.replicate 240 7⟩, ⟨0x05, 1, []⟩, rfl, settled_of_start rfl rfl rfl, rfl, by decide +kernel, rfl⟩

theorem witness_DamagedCrcIsDiscardedAndCounted :
    ∃ (s : State) (f : Frame) (b : Byte), s.power = .running ∧ s.settled ∧ s.link.receiver = .idle ∧
      f.payload.length ≤ Config.maxPayload ∧ f.wire.getLast? ≠ some b :=
  ⟨quiet .test, ⟨0x05, 1, []⟩, (Frame.wire ⟨0x05, 1, []⟩).getLast! + 1, rfl, settled_of_start rfl rfl rfl, rfl,
    by decide +kernel, by decide +kernel⟩

theorem witness_FieldsAreReadBackFromTheirBytes : CoilCfg.default.valid = true ∧
    ({ CoilCfg.default with theta := -160, phi := -161 } : CoilCfg).valid = false := by decide +kernel

/-- A quiet part whose receiver is in a state. -/
def receiving (r : Receiver) : State := (quiet .test).setLink { Link.start with receiver := r }

theorem receiving_settled (r : Receiver) : (receiving r).settled :=
  ⟨rfl, trivial, (settled_of_start (s := quiet .test) rfl rfl rfl).2.2⟩

theorem witness_ReceiverMovesByTheByteAndTheGapTimer :
    (∀ r, (receiving r).power = .running ∧ (receiving r).settled ∧ (receiving r).link.receiver = r) ∧
    ((0 : Byte) ≠ 0x5A ∧ 2 ≤ (2 : Byte).toNat ∧ (242 : Byte).toNat ≤ 242 ∧ (1 : Byte).toNat < 2 ∧ 242 < (243 : Byte).toNat) ∧
    (∃ (len : Byte) (rest : List Byte), len = 2 ∧ rest.length = 2 ∧ rest.length + 2 < len.toNat + 3) :=
  ⟨fun r => ⟨rfl, receiving_settled r, rfl⟩, by decide, 2, [5, 9], rfl, rfl, by decide⟩

/-- A link whose transmit queue holds these items. -/
def sending (l : List TxItem) (w : List Frame) : State :=
  (quiet .test).setLink { Link.start with rxBuffer := w, txQueue := l }

/-- The link's item that the next tests send. -/
def reply1 : TxItem := .response ⟨0x82, 0, [3]⟩

theorem sending_settled (l : List TxItem) (w : List Frame) : (sending (reply1 :: l) w).settled :=
  ⟨rfl, trivial, (settled_of_start (s := quiet .test) rfl rfl rfl).2.2⟩

theorem witness_ItemSentFreesAnEntry :
    (∃ (s : State) (i : TxItem) (rest : List TxItem), s.power = .running ∧ s.settled ∧ s.link.txQueue = i :: rest ∧
      s.link.rxBuffer = [] ∧ (s.setLink { s.link with txQueue := rest }).winner = none) ∧
    ∃ (s : State) (i : TxItem) (rest : List TxItem) (f : Frame) (more : List Frame), s.power = .running ∧ s.settled ∧
      s.link.txQueue = i :: rest ∧ s.link.rxBuffer = f :: more ∧ rest.length = 3 ∧ s.link.restartAccepted = false :=
  ⟨⟨sending [reply1, .notice 4 2 none] [], _, _, rfl, sending_settled _ _, rfl, rfl, by decide +kernel⟩,
    ⟨sending [reply1, reply1, reply1, reply1] [⟨5, 1, []⟩, ⟨7, 2, []⟩], _, _, _, _, rfl, sending_settled _ _, rfl, rfl, rfl, rfl⟩⟩

/-- A part with nothing in service whose sources 5 and 7 (RAGGED and WATER_COLD of C1, classes 7 and 5) are pending, its ALERT line asserted; the link holds these items and frames,
with a RESTART accepted or not. -/
def winning (l : List TxItem) (w : List Frame) (b : Bool) : State :=
  { quiet .test with
    alerts := { Alerts.start with
      sources := (Alerts.start.sources.put 5 ⟨false, .pending⟩).put 7 ⟨false, .pending⟩ },
    alertLine := true, link := { Link.start with txQueue := l, rxBuffer := w, restartAccepted := b } }

theorem winning_settled (l : List TxItem) (w : List Frame) (b : Bool) : (winning (reply1 :: l) w b).settled := by
  refine ⟨rfl, trivial, ?_⟩
  show true = State.alertLineLevel _
  simp only [State.alertLineLevel, winning]
  decide +kernel

/-- A winner with an empty queue behind the item, with a rest behind it, with requests held by a RESTART, and a request that waits
with entries free. -/
theorem witness_ItemSentFreesAnEntry_winner :
    (∀ l w b, (winning (reply1 :: l) w b).power = .running ∧ (winning (reply1 :: l) w b).settled ∧
      (winning (reply1 :: l) w b).link.rxBuffer = w ∧ (winning (reply1 :: l) w b).link.restartAccepted = b) ∧
    (∀ l ∈ [[], [reply1, reply1]], (let s := winning (reply1 :: l) [] false
      (s.setLink { s.link with txQueue := l }).winner.isSome) = true) ∧
    (let s := winning [reply1] [⟨5, 1, []⟩] true
     (s.setLink { s.link with txQueue := [] }).winner.isSome = true) ∧
    4 ≤ [reply1, reply1, reply1, reply1].length ∧ ([] : List TxItem).length ≤ 3 :=
  ⟨fun l w b => ⟨rfl, winning_settled l w b, rfl, rfl⟩, by decide +kernel, by decide +kernel, by decide, by decide⟩

/-- R145, R147, R159: the winner's notice becomes the head and begins. -/
theorem test_winner : (match exec .txItemSent (winning [reply1] [] false) with
    | .next t => t.link.txQueue.map fun i => match i with
      | .notice x _ late => (x.val, late.isSome)
      | .response _ => (99, false)
    | .fault _ => []
    | .refused _ => []) = [(7, true)] := by decide +kernel

theorem witness_NoticeLateFieldsFollowTheSource :
    coilSource 5 7 = 47 ∧ unitSource 0 0 = 48 ∧ unitSource 2 3 = 59 ∧ 60 ≤ (60 : Fin 65).val := by decide

theorem witness_ReportsHaveTheirLengths : (State.reset.coils.at 0).tripRecord = none ∧
    ∃ r, ((withC1 present { CoilSeq.start with tripRecord := some (State.reset.tripRecordOf 0 .pump 1) } Exposure.start
      (quiet .test)).coils.at 0).tripRecord = some r := ⟨rfl, _, rfl⟩

/-- A part with a trip record, an excluded point, a frame in progress, a SAVE in flight and a notice behind it. -/
def telling : State :=
  let s := withC1 present { CoilSeq.start with tripRecord := some (State.reset.tripRecordOf 0 .pump 1), history := [7] }
    Exposure.start (quiet .test)
  { s with
    store := { Store.idle with job := some ⟨.save Tables.default, .imageVerify⟩ },
    faces := s.faces.put 0 { s.faces.at 0 with excludedSet := [(47, .good (-3)), (2, .stuck)], raggedMask := some [47] },
    masters := s.masters.put 0 { s.masters.at 0 with
      state := .reading, snapshot := [⟨2, 10, some 0, true, some .timeout⟩, ⟨15, 23, some 0, true, none⟩] },
    sampler := { s.sampler with passList := [15, 0] },
    alerts := { s.alerts with stack := [⟨0, 3⟩, ⟨64, 7⟩] } }

theorem witness_ReportsHaveTheirLengths_fields :
    telling.store.job = some ⟨.save Tables.default, .imageVerify⟩ ∧
    (telling.coils.at 0).history[0]? = some 7 ∧ (telling.coils.at 0).history[1]? = none ∧
    (telling.faces.at 0).excludedSet[0]? = some (47, .good (-3)) ∧ (telling.faces.at 0).excludedSet[2]? = none ∧
    (telling.faces.at 0).raggedMask = some [47] ∧ (telling.faces.at 1).raggedMask = none ∧
    (telling.coils.at 0).tripRecord = some (State.reset.tripRecordOf 0 .pump 1) ∧ (telling.masters.at 1).position = none ∧
    (telling.masters.at 0).position = some ⟨15, 23, some 0, true, none⟩ ∧ (telling.pointsFrom 0 0)[15]? = some 15 ∧
    (telling.pointsFrom 0 0)[16]? = none ∧
    (((quiet .test).setTables { Tables.default with
      points := Tab.build fun p => { PointCfg.default p with segment := 0 } }).pointsFrom 0 1)[16]? = some 17 ∧
    (telling.masters.at 0).snapshot.find? (fun e => e.point == 2) = some ⟨2, 10, some 0, true, some .timeout⟩ ∧
    (∀ e ∈ (telling.masters.at 0).snapshot, e.point ≠ 0) ∧
    telling.sampler.passList[1]? = some 0 ∧ telling.sampler.passList[2]? = none ∧
    telling.alerts.stack.reverse[0]? = some ⟨64, 7⟩ ∧ telling.alerts.stack.reverse[2]? = none := by decide +kernel

/-- R168, R173, R176, R178, R180: TEST is code 2; SAVING is code 1 in phase 3; a GOOD excluded entry of P48 at −3 sixteenths; an
absent temperature, second and timer; P16 being read, in the sixteenth entry, and a result TIMEOUT of P3; source 64 with class 8 on top of the stack. -/
theorem test_report_fields :
    fieldAt telling.statusReport 0 1 = 2 ∧ fieldAt telling.statusReport 4 2 = 0x0103 ∧
    fieldAt (telling.coilReport 0) 59 4 = 0x3001FFFD ∧ fieldAt (telling.coilReport 0) 5 2 = 0xFFFF ∧
    fieldAt (telling.coilReport 0) 37 2 = 0x8000 ∧ fieldAt (telling.coilReport 0) 91 6 = 2 ^ 47 ∧
    fieldAt (telling.coilReport 0) 101 4 = 0xFFFFFFFF ∧ fieldAt (telling.tripReport 0) 6 1 = 3 ∧
    fieldAt (telling.pointReport 0 0) 3 1 = 16 ∧ fieldAt (telling.pointReport 0 0) (11 + 14 * 15) 1 = 16 ∧
    fieldAt (telling.pointReport 0 0) (24 + 14 * 2) 1 = 3 ∧
    fieldAt telling.alertReport 0 5 = 0x0240080004 := by decide +kernel

theorem witness_ReportRequestsAnswerFromTheState : (quiet .armed).ready ∧ encNumber (5 : Fin 6) = 6 ∧ encNumber (47 : Fin 48) = 48 :=
  ⟨quiet_ready _, by decide, by decide⟩

theorem witness_EmptyRequestsAreAnsweredAndChangeNothing :
    (quiet .fallback).ready ∧ 6 < (7 : Byte).toNat ∧ 3 < (4 : Byte).toNat ∧ 1 < (2 : Byte).toNat ∧ 48 < (49 : Byte).toNat ∧
    requestKinds.contains (0x08 : Byte) = false ∧ (List.replicate 240 (0 : Byte)).length ≤ 240 ∧
    240 < (List.replicate 241 (0 : Byte)).length ∧ 18 < (List.replicate 19 ((1, 0) : Byte × Half)).length ∧
    16 < (List.replicate 17 (0 : Byte)).length := by
  refine ⟨quiet_ready _, ?_⟩
  decide +kernel

/-- R169, R161: one byte too few and one too many for a kind of a fixed length, the empty payload and two bytes for TRIP-RESET, and for
the two kinds that count, no count, a count out of range and a count that disagrees with the length. -/
theorem witness_EmptyRequestsAreAnsweredAndChangeNothing_lengths :
    (([] : List Byte).length ≠ 1 ∧ (List.replicate 38 (0 : Byte)).length ≠ 39 ∧ (List.replicate 40 (0 : Byte)).length ≠ 39 ∧
      ([0, 0] : List Byte).length ≠ 1) ∧
    (∀ l ∈ [([] : List Byte), [0], 19 :: List.replicate 57 0, [1, 1, 0]], ∀ count rest, l = count :: rest →
      1 ≤ count.toNat → count.toNat ≤ 18 → rest.length ≠ 3 * count.toNat) ∧
    ∀ l ∈ [([] : List Byte), 17 :: List.replicate 17 0, [2, 5], [0, 5]], ∀ count rest, l = count :: rest →
      count.toNat ≤ 16 → rest.length ≠ count.toNat := by
  refine ⟨by decide, ?_, ?_⟩ <;> intro l hl count rest h <;> subst h <;>
    simp only [List.mem_cons, List.cons.injEq, List.not_mem_nil, or_false, reduceCtorEq, false_or] at hl <;>
    rcases hl with ⟨rfl, rfl⟩ | ⟨rfl, rfl⟩ | ⟨rfl, rfl⟩ <;> decide

theorem witness_RequestsWaitOrAreDiscarded :
    (∃ s : State, s.power = .running ∧ s.settled ∧ s.link.rxBuffer.length = 1 ∧ s.link.txQueue.length = 4) ∧
    ∃ s : State, s.power = .running ∧ s.settled ∧ s.link.rxBuffer.length = 2 :=
  ⟨⟨sending [reply1, reply1, reply1, reply1] [⟨5, 1, []⟩], rfl, sending_settled _ _, rfl, rfl⟩,
    ⟨sending [reply1, reply1, reply1, reply1] [⟨5, 1, []⟩, ⟨5, 2, []⟩], rfl, sending_settled _ _, rfl⟩⟩

/-- A part with a SAVE in flight. -/
def saving : State := (quiet .test).setStore { Store.idle with job := some ⟨.save Tables.default, .imageErase⟩ }

theorem witness_ConfigurationIsBusyDuringASave : saving.ready ∧ saving.saveBusy = true :=
  ⟨ready_of_start rfl rfl rfl rfl, rfl⟩

theorem witness_StructuralChangesAreRefusedOutsideTest : (quiet .armed).ready ∧ (quiet .armed).mode ≠ .test ∧
    (quiet .armed).saveBusy = false ∧
    (∀ w ∈ [present.toWire, { CoilCfg.default.toWire with lockoutLimit := 2 }, { CoilCfg.default.toWire with unit := 3 },
        { CoilCfg.default.toWire with quorum := 1 }, { CoilCfg.default.toWire with lwt := 0 }, { CoilCfg.default.toWire with lat := 15 }],
      structuralBytes w ≠ structuralBytes ((quiet .armed).cfg 0).toWire) ∧
    (∀ st : Byte, st = 2 ∨ st = 5 → 2 ≤ st.toNat ∧ st.toNat ≤ 5) :=
  ⟨quiet_ready _, by decide, rfl, by decide +kernel, by rintro st (rfl | rfl) <;> decide⟩

theorem witness_RefusedSettingsChangeNothing :
    (reqSetCoil 7 present.toWire (quiet .test)).payload ≠ [0] ∧ (reqSetUnit 4 0 10 5 0 (quiet .test)).payload ≠ [0] ∧
    (reqSetSegment 1 41 (quiet .test)).payload ≠ [0] ∧ (reqSetPoint 1 1 1 120 0xFF 1 (quiet .test)).payload ≠ [0] ∧
    (reqSetChannel 0 0 5 5 (quiet .test)).payload ≠ [0] ∧ (reqSetScan [3, 3] (quiet .test)).payload ≠ [0] ∧
    (reqSetOutput 7 30 1 2 (quiet .test)).payload ≠ [0] ∧ (reqSetInput 1 0 16 (quiet .test)).payload ≠ [0] ∧
    (reqSetSource 65 1 0 (quiet .test)).payload ≠ [0] ∧ (reqSetResolver 10 (quiet .test)).payload ≠ [0] := by decide +kernel

/-- R1, R2: a link at work in TEST; for each field of SET-COIL a value just outside its range, an equality at each place of the cross-field
conditions with the single ranges met, and a record whose structural bytes stand, for the refusal outside TEST. -/
theorem witness_RefusedSettingsChangeNothing_coil :
    (quiet .test).ready ∧ (quiet .test).saveBusy = false ∧ (quiet .test).mode = .test ∧
    ((0 : Byte).toNat = 0 ∧ 6 < (7 : Byte).toNat) ∧
    (∀ w ∈ [{ present.toWire with present := 2 }, { present.toWire with unit := 0 }, { present.toWire with quorum := 9 },
        { present.toWire with theta := 161 }, { present.toWire with phi := -81 }, { present.toWire with confirm := 5 },
        { present.toWire with lambda := -1 }, { present.toWire with weight := 17 }, { present.toWire with recover := 0 },
        { present.toWire with settleFrames := 31 }, { present.toWire with staleLimit := 0 }, { present.toWire with g1 := 1001 },
        { present.toWire with holdDown := 3601 }, { present.toWire with proveLimit := 4 }, { present.toWire with lockoutLimit := 6 },
        { present.toWire with lockoutWindow := 49 }, { present.toWire with blindOffset := 161 },
        { present.toWire with blindFloor := 81 }, { present.toWire with lwt := 16 }, { present.toWire with lat := 0xFE },
        { present.toWire with a1 := present.toWire.a2 }, { present.toWire with a2 := present.toWire.trip },
        { present.toWire with recover := present.toWire.a1 }, { present.toWire with phi := present.toWire.theta }],
      coilCfgOf w = none) ∧
    (∃ c, coilCfgOf present.toWire = some c) ∧ (quiet .armed).ready ∧ (quiet .armed).saveBusy = false ∧
    structuralBytes { ((quiet .armed).cfg 0).toWire with g1 := 1001 } = structuralBytes ((quiet .armed).cfg 0).toWire :=
  ⟨quiet_ready _, rfl, rfl, by decide, by decide +kernel, ⟨present, by decide +kernel⟩, quiet_ready _, rfl, by decide +kernel⟩

/-- R5 to R7, R9, R10, R13: a value just outside each range, the scan lists that are refused, and a mode code that is no code. -/
theorem witness_RefusedSettingsChangeNothing_ranges :
    (3 < (4 : Byte).toNat ∧ 1000 < (1001 : Half).toNat ∧ (9 : Half).toNat < 10 ∧ 180 < (181 : Byte).toNat ∧ 1800 < (1801 : Half).toNat) ∧
    (40 < (41 : Byte).toNat ∧ 48 < (49 : Byte).toNat ∧ (7 : Byte).toNat < 8 ∧ 119 < (120 : Byte).toNat ∧ 6 < (7 : Byte).toNat) ∧
    (15 < (16 : Byte).toNat ∧ (-801 : Half).toInt < -800 ∧ ¬ (5 : Half).toInt < (5 : Half).toInt ∧ 800 < (801 : Half).toInt) ∧
    (([] : List Byte).length ≤ 16 ∧ (∃ b ∈ [(15 : Byte), 16], 15 < b.toNat) ∧ [(3 : Byte), 15, 3] ≠ [] ∧
      (∀ b ∈ [(3 : Byte), 15, 3], b.toNat ≤ 15) ∧ ¬ [(3 : Byte), 15, 3].Nodup) ∧
    (18 < (19 : Byte).toNat ∧ (2 : Byte) ≠ 0 ∧ (2 : Byte) ≠ 1 ∧ 1 < (2 : Half).toNat) ∧
    (64 < (65 : Byte).toNat ∧ 8 < (9 : Byte).toNat ∧ 9 < (10 : Byte).toNat ∧ (3 : Byte) ≠ 1 ∧ (3 : Byte) ≠ 2) := by decide

theorem witness_PlainSettingsReplaceOneRecord :
    (quiet .test).ready ∧ (quiet .test).saveBusy = false ∧ (quiet .test).mode = .test ∧
    (1 ≤ (40 : Byte).toNat ∧ (40 : Byte).toNat ≤ 40) ∧
    (-800 ≤ (BitVec.ofInt 16 (-800) : Half).toInt ∧ (BitVec.ofInt 16 (-800) : Half).toInt < (800 : Half).toInt ∧
      (800 : Half).toInt ≤ 800) ∧ (1 ≤ (9 : Byte).toNat ∧ (9 : Byte).toNat ≤ 9) ∧
    (([15, 0] : List (Fin 16)) ≠ [] ∧ ([15, 0] : List (Fin 16)).Nodup) ∧
    PointCfg.valid Tables.default.coils { PointCfg.default 0 with enabled := true, address := 119, coil := some 5 } = true ∧
    pointsConsistent (Tables.default.points.put 0 { PointCfg.default 0 with enabled := true, address := 119, coil := some 5 }) =
      true := by
  refine ⟨quiet_ready _, ?_⟩
  decide +kernel

/-- A part in TEST whose point P2 is enabled at its default place. -/
def pointed : State :=
  (quiet .test).setTables { Tables.default with
    points := Tables.default.points.put 1 { PointCfg.default 1 with enabled := true } }

/-- A part in TEST whose first `n` points are enabled at their default places, for the given coil. -/
def crowded (n : Nat) (k : Option (Fin 6)) : State :=
  (quiet .test).setTables { Tables.default with
    points := Tab.build fun p => { PointCfg.default p with enabled := decide (p.val < n), coil := k } }

theorem witness_PointWritesKeepTheirConditions :
    (quiet .test).ready ∧ (quiet .test).saveBusy = false ∧
    ((7 : Byte).toNat < 8 ∧ 119 < (120 : Byte).toNat) ∧
    (∃ (c : PointCfg) (k : Fin 6), 8 ≤ c.address ∧ c.address ≤ 119 ∧ c.coil = some k ∧ ((quiet .test).cfg k).unit ≠ c.segment) ∧
    pointed.ready ∧ pointed.saveBusy = false ∧ pointed.mode = .test ∧
    ∃ c : PointCfg, 8 ≤ c.address ∧ c.address ≤ 119 ∧ c.coil = none ∧
      ∃ q r, q ≠ r ∧ ((pointed.tables.points.put 0 c).at q).enabled = true ∧
        ((pointed.tables.points.put 0 c).at r).enabled = true ∧
        ((pointed.tables.points.put 0 c).at q).segment = ((pointed.tables.points.put 0 c).at r).segment ∧
        ((pointed.tables.points.put 0 c).at q).address = ((pointed.tables.points.put 0 c).at r).address :=
  ⟨quiet_ready _, rfl, by decide, ⟨{ PointCfg.default 16 with coil := some 0 }, 0, by decide +kernel⟩,
    ready_of_start rfl rfl rfl rfl, rfl, rfl, { PointCfg.default 1 with enabled := true }, by decide, by decide, rfl, 0, 1,
    by decide +kernel⟩

/-- R6: a ninth enabled point for one coil, and a seventeenth on one segment at an address of its own. -/
theorem witness_PointWritesKeepTheirConditions_counts :
    (∀ n, (crowded n none).ready ∧ (crowded n none).saveBusy = false ∧ (crowded n none).mode = .test) ∧
    (let s := crowded 8 (some 0)
     let c : PointCfg := { PointCfg.default 15 with enabled := true, coil := some 0 }
     s.ready ∧ s.saveBusy = false ∧ s.mode = .test ∧ 8 ≤ c.address ∧ c.address ≤ 119 ∧ (s.cfg 0).unit = c.segment ∧
      (s.tables.points.toList.countP fun q => q.enabled && q.coil == some 0) = 8 ∧
      8 < (s.tables.points.put 15 c).toList.countP fun q => q.enabled && q.coil == some 0) ∧
    (let s := crowded 16 none
     let c : PointCfg := { PointCfg.default 47 with enabled := true, segment := 0, address := 119 }
     (∀ k, c.coil = some k → (s.cfg k).unit = c.segment) ∧
      (s.tables.points.toList.countP fun q => q.enabled && q.segment == 0) = 16 ∧
      16 < (s.tables.points.put 47 c).toList.countP fun q => q.enabled && q.segment == 0) :=
  ⟨fun _ => ⟨ready_of_start rfl rfl rfl rfl, rfl, rfl⟩, ⟨ready_of_start rfl rfl rfl rfl, rfl, rfl, by decide +kernel⟩,
    by decide +kernel⟩

theorem witness_UnitAndOutputSettingsReachTheOutputs :
    (quiet .armed).ready ∧ (quiet .armed).saveBusy = false ∧
    ((1000 : Half).toNat ≤ 1000 ∧ 10 ≤ (10 : Half).toNat ∧ (300 : Half).toNat ≤ 300 ∧ 5 ≤ (5 : Byte).toNat ∧
      (180 : Byte).toNat ≤ 180 ∧ (1800 : Half).toNat ≤ 1800) ∧
    (isPosition 14 = true ∧ (1000 : Half).toNat ≤ (if isPosition 14 then 1000 else 1)) ∧
    (isPosition 15 = false ∧ (1 : Half).toNat ≤ (if isPosition 15 then 1000 else 1)) :=
  ⟨quiet_ready _, rfl, by decide, by decide, by decide⟩

/-- A part whose input is debounced at a state while its pin is low. -/
def waiting (i : Fin 15) (b : Bool) : State := (quiet .armed).setInput i { debounced := b, timer := some 200 }

theorem witness_InputSettingInvertsTheLevel :
    (quiet .armed).saveBusy = false ∧ (∀ b, (waiting 14 b).ready ∧ (waiting 14 b).saveBusy = false) ∧
    ((15 : Byte).toNat ≤ 15 ∧ 0 < (1 : Byte).toNat ∧ (0 : Byte).toNat = 0) ∧
    (true ≠ ((waiting 14 true).tables.inputs.at 14).activeLow ∧
      ((waiting 14 true).inputs.at 14).debounced = ((waiting 14 true).pins.at 14 != true)) ∧
    (true ≠ ((waiting 14 false).tables.inputs.at 14).activeLow ∧
      ((waiting 14 false).inputs.at 14).debounced ≠ ((waiting 14 false).pins.at 14 != true)) ∧
    false = ((waiting 14 true).tables.inputs.at 14).activeLow :=
  ⟨rfl, fun _ => ⟨ready_of_start rfl rfl rfl rfl, rfl⟩, by decide, by decide +kernel, by decide +kernel, by decide +kernel⟩

theorem witness_SourceSettingSelectsOnAMaskChange : (quiet .fallback).ready ∧ (quiet .fallback).saveBusy = false ∧
    false = ((quiet .fallback).tables.sources.at 0).masked ∧ true ≠ ((quiet .fallback).tables.sources.at 64).masked :=
  ⟨quiet_ready _, rfl, by decide +kernel, by decide +kernel⟩

/-- A part with C1 present in SETTLE. -/
def planted (m : PlantMode) : State := withC1 present { CoilSeq.start with stage := .settle, settle := 3 } Exposure.start (quiet m)

theorem planted_ready (m : PlantMode) : (planted m).ready := ready_of_start rfl rfl rfl rfl

theorem witness_CoilRetuningKeepsStagesAndExposure :
    (planted .armed).ready ∧ (planted .armed).saveBusy = false ∧
    (∃ (w : CoilWire) (c : CoilCfg), coilCfgOf w = some c ∧ c.present = ((planted .armed).cfg 0).present ∧
      c.unit = ((planted .armed).cfg 0).unit ∧ structuralBytes w = structuralBytes ((planted .armed).cfg 0).toWire ∧
      c.g1 ≠ ((planted .armed).cfg 0).g1) ∧
    (planted .test).mode = .test ∧
    ∃ (w : CoilWire) (c : CoilCfg), coilCfgOf w = some c ∧ c.present = ((planted .test).cfg 0).present ∧
      c.unit = ((planted .test).cfg 0).unit ∧ c.lwt ≠ ((planted .test).cfg 0).lwt :=
  ⟨planted_ready _, rfl, ⟨{ present.toWire with g1 := 1000 }, { present with g1 := 1000 }, by decide +kernel⟩, rfl,
    { present.toWire with lwt := 0 }, { present with lwt := some 0 }, by decide +kernel⟩

/-- R31: a new LWT channel sets a LATCHED detector READY. -/
theorem test_new_lwt : (match exec (.setCoil 0 1 { present.toWire with lwt := 0 }) ((planted .test).setDetector 0 .latched) with
    | .next t => t.detectors.at 0
    | .fault _ => .latched
    | .refused _ => .latched) = .ready := by decide +kernel

theorem witness_PresenceChangesPlaceTheCoil :
    (planted .test).ready ∧ (planted .test).saveBusy = false ∧ (planted .test).mode = .test ∧
    (∃ (w : CoilWire) (c : CoilCfg), coilCfgOf w = some c ∧ ((planted .test).cfg 1).present = false ∧ c.present = true) ∧
    (∃ (w : CoilWire) (c : CoilCfg), coilCfgOf w = some c ∧ ((planted .test).cfg 0).present = true ∧ c.present = false ∧
      ((planted .test).coils.at 0).lockout = false) ∧
    (∃ (w : CoilWire) (c : CoilCfg), coilCfgOf w = some c ∧ ((planted .test).cfg 0).present = true ∧ c.present = true ∧
      c.unit ≠ ((planted .test).cfg 0).unit) ∧
    (let s := (planted .test).setCoil 0 { CoilSeq.start with stage := .lockout, lockout := true }
     s.ready ∧ (s.cfg 0).present = true ∧ (s.coils.at 0).lockout = true) :=
  ⟨planted_ready _, rfl, rfl, ⟨present.toWire, present, by decide +kernel⟩,
    ⟨CoilCfg.default.toWire, CoilCfg.default, by decide +kernel⟩,
    ⟨{ present.toWire with unit := 3 }, { present with unit := 2 }, by decide +kernel⟩,
    ready_of_start rfl rfl rfl rfl, by decide +kernel⟩

/-- R4, R48: moving C1 to unit U3 takes it from the open frame's coil set and keeps its stage. -/
theorem test_move : (match exec (.setCoil 0 1 { present.toWire with unit := 3 })
      ((planted .test).setMaster 0 { Master.start with state := .reading, coilSet := [0, 1] }) with
    | .next t => ((t.masters.at 0).coilSet, (t.cfg 0).unit, (t.coils.at 0).stage)
    | .fault _ => ([], 0, .idle)
    | .refused _ => ([], 0, .idle)) = ([1], 2, .settle) := by decide +kernel

/-- Two included points for C1, so that its quorum can be met. -/
def armable : State :=
  (planted .test).setTables { (planted .test).tables with
    points := (Tables.default.points.put 0 { PointCfg.default 0 with enabled := true, coil := some 0 }).put 1
      { PointCfg.default 1 with enabled := true, coil := some 0 } }

/-- R11: C1 present fails by its quorum, by a point on another unit's segment, by a channel outside the scan, and by none. -/
theorem witness_ValidationNamesTheFirstFailingCoil :
    ((planted .test).tables.coils.at 0).present = true ∧ (planted .test).tables.failure 0 = some 1 ∧
    (∀ k, (Tables.default.coils.at k).present = true → Tables.default.failure k = none) ∧
    ({ armable.tables with coils := armable.tables.coils.put 0 { present with unit := 1 } } : Tables).failure 0 = some 2 ∧
    ({ armable.tables with scan := [4], coils := armable.tables.coils.put 0 { present with lat := some 3 } } : Tables).failure 0 =
      some 3 ∧ armable.tables.failure 0 = none := by decide +kernel

theorem witness_ArmingPlacesEveryCoil :
    (∀ m, (planted m).ready ∧ (planted m).saveBusy = false ∧ (planted m).mode = m) ∧
    (planted .test).tables.validate.reason ≠ 0 ∧ armable.ready ∧ armable.saveBusy = false ∧ armable.mode = .test ∧
    armable.tables.validate.reason = 0 ∧
    (let s := (armable.setCoil 0 { CoilSeq.start with stage := .tripped, forced := true }).setUnit 0
      { UnitRec.start with stage := .secured, trip := true }
     s.ready ∧ s.saveBusy = false ∧ s.mode = .test ∧ s.tables.validate.reason = 0 ∧ (s.units.at 0).stage.shut = true ∧
      s.coilOf 0 0 = true ∧ 0 < (s.tables.units.at 0).holdOff) :=
  ⟨fun m => ⟨planted_ready m, rfl, rfl⟩, by decide +kernel, ready_of_start rfl rfl rfl rfl, rfl, rfl, by decide +kernel,
    ready_of_start rfl rfl rfl rfl, rfl, rfl, by decide +kernel⟩

/-- R121: the forced trip of the last theorem ends at the arming, and its unit takes RESTART_HOLD. -/
theorem test_arming_hold : (match exec (.setModeArmed 0) ((armable.setCoil 0 { CoilSeq.start with stage := .tripped, forced := true }).setUnit 0
      { UnitRec.start with stage := .secured, trip := true }) with
    | .next t => (t.tripOf 0, (t.units.at 0).stage, (t.coils.at 0).stage)
    | .fault _ => (true, .idle, .idle)
    | .refused _ => (true, .idle, .idle)) = (false, .restartHold, .settle) := by decide +kernel

theorem witness_TestEntryFromEveryMode : ∀ m, (planted m).ready ∧ (planted m).saveBusy = false ∧ (planted m).mode = m :=
  fun m => ⟨planted_ready m, rfl, rfl⟩

/-- A part with a job in flight in a phase. -/
def working (k : JobKind) (p : StorePhase) : State := (quiet .armed).setStore { Store.idle with job := some ⟨k, p⟩ }

/-- A running part whose link holds these items, with a RESTART accepted or not. -/
def restarting (l : List TxItem) (b : Bool) : State := (quiet .test).setLink { Link.start with txQueue := l, restartAccepted := b }

/-- The store phases of the two regions, in flight and abandoned. -/
theorem witness_StartsAndPowerLossAbandonWorkInFlight :
    ((∀ p : StorePhase, (working (.save Tables.default) p).store.job = some ⟨.save Tables.default, p⟩) ∧
      saving.storeBusy = true ∧ (∃ j, saving.store.job = some j ∧ j.phase = .imageErase)) ∧
    (∃ (s : State) (j : Job) (f : Tab Bool 6), s.store.job = some j ∧ j.phase = .areaProgram f) ∧
    ((quiet .test).storeBusy = false ∧ ∀ j, (quiet .test).store.job = some j → j.phase ≠ .imageErase) :=
  ⟨⟨fun _ => rfl, rfl, _, rfl, rfl⟩,
    ⟨(quiet .test).setStore { Store.idle with job := some (quiet .test).lockoutJob }, _, _, rfl, rfl⟩, rfl, by
      intro j hj; cases hj⟩

/-- R17: a warm start is due with an accepted RESTART and an answer of another request still queued, and is not due while the RESTART's
own DONE response waits, while a store job is in flight, without a RESTART, or outside running. -/
theorem witness_StartsAndPowerLossAbandonWorkInFlight_warm :
    (∀ (l : List TxItem) (b : Bool), (restarting l b).power = .running ∧ (restarting l b).link.restartAccepted = b ∧
      (restarting l b).link.txQueue = l ∧ (restarting l b).storeBusy = false) ∧
    (∀ f, .response f ∈ [reply1, .response ⟨0xC1, 7, [1]⟩] → ¬ (f.kind = 0xC1 ∧ f.payload = [0])) ∧
    (∃ f, .response f ∈ [reply1, .response ⟨0xC1, 7, [0]⟩] ∧ f.kind = 0xC1 ∧ f.payload = [0]) ∧ saving.storeBusy = true ∧
    State.reset.power ≠ .running := by
  refine ⟨fun _ _ => ⟨rfl, rfl, rfl, rfl⟩, ?_, ⟨⟨0xC1, 7, [0]⟩, by decide⟩, rfl, by decide⟩
  intro f hf
  simp only [reply1, List.mem_cons, TxItem.response.injEq, List.not_mem_nil, or_false] at hf
  rcases hf with rfl | rfl <;> decide

theorem witness_RestartHoldsDispatch : saving.ready ∧ saving.storeBusy = true ∧ (quiet .test).ready ∧
    (quiet .test).storeBusy = false :=
  ⟨ready_of_start rfl rfl rfl rfl, rfl, quiet_ready _, rfl⟩

theorem witness_StartCompletionLoadsAndChoosesTheMode :
    (State.reset.power = .starting true ∧ State.reset.store = Store.idle ∧ State.reset.image.passes = false) ∧
    ∃ s : State, s.power = .starting false ∧ s.store = Store.idle ∧ s.image.passes = true ∧ s.area.crcMatches = true ∧
      s.image.tables.validate.reason = 0 :=
  ⟨⟨rfl, rfl, by decide +kernel⟩,
    { State.reset with power := .starting false, image := Image.written armable.tables, area := Area.written (Tab.build fun _ => true) },
    rfl, rfl, by decide +kernel, rfl, by decide +kernel⟩

/-- R18, R20: a completed image PROGRAM leaves format 1 with the snapshot and a matching CRC-16, which one changed setting no longer matches;
an area PROGRAM leaves the six flags, C1's first, with the CRC-16 of their byte. -/
theorem test_regions :
    (match exec (.storePhaseComplete (.ofPhase true)) (working (.save Tables.default) .imageProgram) with
      | .next t => t.image.passes && t.image.format == 1 && t.image.tables == Tables.default &&
          !({ t.image with tables := { t.image.tables with autoAck := 7 } } : Image).crcMatches
      | .fault _ => false
      | .refused _ => false) = true ∧
    (match exec (.storePhaseComplete (.ofPhase true)) (working .lockoutWrite (.areaProgram (Tab.build fun k => k == 0))) with
      | .next t => t.area.crc == crc16 [1] && t.area.flags.at 0 && !t.area.spoiled.crcMatches
      | .fault _ => false
      | .refused _ => false) = true := by decide +kernel

theorem witness_StartCompletionSetsEveryRecord :
    (∃ (s : State) (cold : Bool), s.power = .starting cold ∧ s.alerts = Alerts.start) ∧
    ∃ (s : State) (cold : Bool), s.power = .starting cold ∧ s.alerts ≠ Alerts.start :=
  ⟨⟨State.reset, _, rfl, rfl⟩, State.reset.setAlerts servedAlerts, _, rfl, by decide +kernel⟩

/-- A warm start from an image with C1 present and an area with C1's flag set; its unit's fan is stopped and its damper is closed or
not. -/
def relocked (closed : Bool) : State :=
  ({ State.reset with
    power := .starting false, image := Image.written armable.tables, area := Area.written (Tab.build fun k => k == 0) } : State).setPin
      (damperInput 0) closed

/-- R113, R115, R120: a coil locked out at a start brings its unit to CLOSING, or with both proofs to SECURED. -/
theorem test_start_locked : [false, true].map (fun b => match exec (.startComplete .field) (relocked b) with
    | .next t => ((t.coils.at 0).stage, (t.units.at 0).stage, (t.units.at 0).stroke.isSome, t.mode)
    | .fault _ => (.idle, .idle, false, .test)
    | .refused _ => (.idle, .idle, false, .test)) =
    [(.lockout, .closing, true, .armed), (.lockout, .secured, false, .armed)] := by decide +kernel

theorem witness_PlantSecondAdvancesTheClock : (quiet .armed).power = .running ∧
    (quiet .armed).plantSeconds ≠ BitVec.allOnes 32 ∧
    (let s : State := { quiet .armed with plantSeconds := BitVec.allOnes 32 }
     s.power = .running ∧ s.plantSeconds = BitVec.allOnes 32) := ⟨rfl, by decide, rfl, rfl⟩

theorem witness_SaveTakesItsSnapshotAtAcceptance :
    ((quiet .armed).ready ∧ (quiet .armed).saveBusy = false ∧ (quiet .armed).store.job = none) ∧
    ∃ (s : State) (j : Job), s.ready ∧ s.saveBusy = false ∧ s.store.job = some j :=
  ⟨⟨quiet_ready _, rfl, rfl⟩,
    (quiet .armed).setStore { Store.idle with job := some (quiet .armed).lockoutJob }, _, ready_of_start rfl rfl rfl rfl, rfl, rfl⟩

theorem witness_StorePhasesFollowTheirTable :
    (quiet .armed).settled ∧ (quiet .armed).power = .running ∧ (quiet .armed).store.job = none ∧
    (∀ k p, (working k p).power = .running ∧ (working k p).store.job = some ⟨k, p⟩) ∧ (quiet .armed).areaDirty = false ∧
    ({ quiet .armed with areaDirty := true } : State).areaDirty = true :=
  ⟨settled_of_start rfl rfl rfl, rfl, rfl, fun _ _ => ⟨rfl, rfl⟩, rfl, rfl⟩

/-- R20: after an expiry has failed a SAVE's ERASE and the pending LOCKOUT-WRITE has started, the ERASE's late completion is disregarded. -/
theorem test_late : (match exec .storePhaseLimitExpiry ((quiet .armed).setStore
      { job := some ⟨.save Tables.default, .imageErase⟩, pendingSave := none, pendingLockout := true }) with
    | .next s => (match exec (.storePhaseComplete .late) s with
      | .next t => t.store == s.store && t.store.job.isSome && t.imageInvalid
      | .fault _ => false
      | .refused _ => false)
    | .fault _ => false
    | .refused _ => false) = true := by decide +kernel

theorem witness_DemandsAreStoredWholeAndExpire :
    (quiet .test).ready ∧ (∃ p ∈ [((1, 5) : Byte × Half), (19, 1)], p.1.toNat = 0 ∨ 18 < p.1.toNat) ∧
    (1 ≤ ([(0, 1001), (17, 2), (0, 4)] : List (Fin 18 × Half)).length) ∧
    (∃ front back, ([(0, 1001), (17, 2), (0, 4)] : List (Fin 18 × Half)) = front ++ (0, 4) :: back ∧ ∀ p ∈ back, p.1 ≠ 0) ∧
    (quiet .test).settled ∧ ((quiet .test).demands.at 17).timer = none ∧
    (let s := (quiet .test).setDemand 17 { value := 1, received := true, fresh := true, timer := some 1 }
     s.power = .running ∧ (s.demands.at 17).timer = some 1) :=
  ⟨quiet_ready _, by decide +kernel, by decide, ⟨[(0, 1001), (17, 2)], [], rfl, by simp⟩, settled_of_start rfl rfl rfl,
    by decide +kernel, rfl, by decide +kernel⟩

/-- A part with source 0 in service and source 2 standing, its ALERT line asserted. -/
def served : State := { quiet .test with alerts := servedAlerts, alertLine := true }

theorem served_ready : served.ready :=
  ⟨rfl, ⟨rfl, trivial, by decide +kernel⟩, rfl, by decide, rfl⟩

theorem witness_AcknowledgmentTakesTheSourceOutOfService :
    served.ready ∧ 64 < (65 : Byte).toNat ∧ (∀ e ∈ served.alerts.stack, e.source ≠ 64) ∧
    (∃ e ∈ served.alerts.stack, e.source = 0) ∧ (∃ top rest, served.alerts.stack = top :: rest) ∧
    (quiet .test).ready ∧ (quiet .test).alerts.stack = [] :=
  ⟨served_ready, by decide, by decide, by decide, ⟨_, _, rfl⟩, quiet_ready _, rfl⟩

/-- A part with C1 in a stage, a band, a face and an exposure. -/
def coiled (m : PlantMode) (r : CoilSeq) (x : Exposure) (f : Face) : State := (withC1 present r x (quiet m)).setFace 0 f

theorem coiled_ready (m : PlantMode) (r : CoilSeq) (x : Exposure) (f : Face) : (coiled m r x f).ready :=
  ready_of_start rfl rfl rfl rfl

theorem witness_TripResetChecksInOrderAndReturnsToGuard :
    (∀ m r x f, (coiled m r x f).ready ∧ ((coiled m r x f).cfg 0).present = true ∧ (coiled m r x f).coils.at 0 = r ∧
      (coiled m r x f).exposures.at 0 = x ∧ (coiled m r x f).faces.at 0 = f) ∧
    ((coiled .armed CoilSeq.start Exposure.start Face.start).cfg 1).present = false ∧ present.recover < 3841 ∧
    3840 ≤ present.recover ∧ (25 : Int) > present.phi + 16 ∧ (24 : Int) ≤ present.phi + 16 ∧ 0 < present.holdDown := by
  refine ⟨fun m r x f => ⟨coiled_ready m r x f, ?_, ?_, ?_, ?_⟩, by decide +kernel⟩
  · simp [coiled, withC1, State.cfg, State.setFace, State.setExposure, State.setCoil, State.setTables, present]
  · simp [coiled, withC1, State.setFace, State.setExposure, State.setCoil]
  · simp [coiled, withC1, State.setFace, State.setExposure]
  · simp [coiled, State.setFace]

theorem witness_ForcedStagesAreSetAndReleased :
    (∀ r x f, (coiled .test r x f).ready ∧ (coiled .test r x f).mode = .test) ∧
    (6 < (7 : Byte).toNat ∧ (1 : Byte).toNat < 2 ∧ 5 < (6 : Byte).toNat) :=
  ⟨fun r x f => ⟨coiled_ready _ r x f, rfl⟩, by decide⟩

/-- A part whose scan converts channel `passList[position - 1]`. -/
def scanning (l : List (Fin 16)) (n : Nat) : State :=
  { planted .armed with sampler := { passList := l, position := n },
                        tables := { (planted .armed).tables with scan := [3], coils := (planted .armed).tables.coils.put 0 { present with lwt := some 3 } } }

theorem witness_ConversionsFollowTheirCode :
    ((quiet .armed).power = .running ∧ (quiet .armed).settled ∧ (quiet .armed).sampler.channel = none) ∧
    ((scanning [3, 4] 1).sampler.channel = some 3 ∧ (scanning [3, 4] 1).sampler.position < 2 ∧
      ((scanning [3, 4] 1).cfg 0).lwt = some 3 ∧ ((scanning [3, 4] 1).cfg 0).present = true) ∧
    ((scanning [3, 4] 2).sampler.channel = some 4 ∧ (4 : Fin 16) ∉ (scanning [3, 4] 2).tables.scan) ∧
    ((scanning [3] 1).sampler.channel = some 3 ∧ (3 : Fin 16) ∈ (scanning [3] 1).tables.scan ∧
      (scanning [3] 1).sampler.passList.length ≤ (scanning [3] 1).sampler.position) :=
  ⟨⟨rfl, settled_of_start rfl rfl rfl, rfl⟩, by decide +kernel, by decide +kernel, by decide +kernel⟩

/-- R25, R31, R32: at the one entry of a pass, a cold OK code latches C1's detector and keeps the status; a wiring fault does neither. -/
theorem test_single_entry : [1300, 19].map (fun (n : Nat) => match exec (.conversionComplete (BitVec.ofNat 12 n)) (scanning [3] 1) with
    | .next t => ((t.channels.at 3).status, t.detectors.at 0, t.sampler.position)
    | .fault _ => (.never, .ready, 0)
    | .refused _ => (.never, .ready, 0)) = [(.ok, .latched, 1), (.wire, .ready, 1)] := by decide +kernel

/-- A part whose segment S1's master stands so. -/
def framed (m : Master) : State := armable.setMaster 0 m

theorem framed_settled (m : Master) : (framed m).power = .running ∧ (framed m).settled ∧ (framed m).masters.at 0 = m :=
  ⟨rfl, settled_of_start rfl rfl rfl, by simp [framed, State.setMaster]⟩

theorem witness_FrameTimerOpensTheNextFrame :
    (∀ m, (framed m).power = .running ∧ (framed m).settled ∧ (framed m).masters.at 0 = m) ∧
    ({ Master.start with frameTimer := some 4 } : Master).frameTimer = some 4 ∧ Master.start.frameTimer = none ∧
    (∀ e ∈ (framed Master.start).takeSnapshot 0, e.address < 128) ∧ (framed Master.start).takeSnapshot 0 ≠ [] :=
  ⟨framed_settled, rfl, rfl, by decide +kernel, by decide +kernel⟩

/-- A frame of two entries, the first of them attempted or not. -/
def twoEntries (r : Option PointResult) : List SnapEntry :=
  [⟨0, 8, some 0, true, r⟩, ⟨1, 9, some 0, true, none⟩]

theorem witness_AttemptsRecordTheirResultAndMoveTheFrame :
    (∀ m, (framed m).power = .running ∧ (framed m).settled ∧ (framed m).masters.at 0 = m) ∧ Master.start.position = none ∧
    (let m : Master := { Master.start with state := .reading, snapshot := twoEntries none, coilSet := [0] }
     m.position = some ⟨0, 8, some 0, true, none⟩ ∧ m.openPending = false ∧ m.coilSet.Nodup ∧
      ∃ f ∈ m.snapshot, f.result = none ∧ f.point ≠ 0) ∧
    (let m : Master := { Master.start with state := .reading, snapshot := twoEntries (some (.good 40)), openPending := true }
     m.position = some ⟨1, 9, some 0, true, none⟩ ∧ (∀ f ∈ m.snapshot, f.result = none → f.point = 1) ∧
      m.addressSent = some 19) ∧
    replyResult (.bytes 0 37 0x80 0x5B) = .good 37 :=
  ⟨framed_settled, rfl, ⟨rfl, rfl, by decide, by decide⟩, ⟨rfl, by decide, by decide⟩, by decide⟩

theorem witness_RecoveryFreesTheSegmentOrFaultsIt :
    (∀ m, (framed m).power = .running ∧ (framed m).settled ∧ (framed m).masters.at 0 = m) ∧
    Master.start.state ≠ .recovering ∧
    (∀ b, ({ Master.start with state := .recovering, snapshot := twoEntries (some .stuck), openPending := b } : Master).state =
      .recovering) ∧
    (∀ f ∈ ([⟨0, 8, some 0, true, some .stuck⟩] : List SnapEntry), f.result ≠ none) := ⟨framed_settled, by decide, fun _ => rfl, by decide⟩

/-- R59: with a quorum of 1, the second of two points missing makes the closed frame ragged: at the last attempt's end, at a frame cut
short, at a recovery that frees the line with a frame waiting and at one that fails. -/
theorem witness_framesClosed_ragged :
    (let s := ((framed Master.start).setTables { (framed Master.start).tables with
        coils := (framed Master.start).tables.coils.put 0 { present with quorum := 1 } })
     let m : Master := { Master.start with snapshot := twoEntries (some (.good 40)), coilSet := [0] }
     [(MasterState.reading, false, Instr.clockHoldTimeout 0), (.reading, true, .clockHoldTimeout 0), (.recovering, true, .recoveryComplete 0 true),
       (.recovering, false, .recoveryComplete 0 false)].map fun (st, waits, c) =>
      match exec c (s.setMaster 0 { m with state := st, openPending := waits }) with
      | .next t => (m.coilSet.all (s.coilOf 0), (t.faces.at 0).raggedMask, (t.faces.at 0).held,
          (t.alerts.sources.at (srcRagged 0)).membership != .none)
      | .fault _ => (false, none, none, false)
      | .refused _ => (false, none, none, false)) = List.replicate 4 (true, some [1], some 40, true) := by decide +kernel

theorem witness_RepliesAreJudgedInOrder :
    (256 * (3 : Byte).toNat + (0xC0 : Byte).toNat = 960) ∧ 256 * (0xFC : Byte).toNat + (0xE0 : Byte).toNat = 65536 - 800 := by
  decide

theorem witness_FrameStatisticsAreTheColdSpotMeanAndSpread :
    1 ≤ (State.reset.cfg 0).quorum ∧
    ((twoEntries (some (.good (-800)))).filterMap (fun e => if e.included then (match e.result with
      | some (.good v) => some v
      | _ => none) else none)) = [-800] := by decide +kernel

theorem witness_FaceStateAndEffectiveColdSpotFollowTheFrame :
    ((quiet .armed).closeFace 0 (twoEntries none)).status = .starved ∧
    (((planted .armed).setTables { (planted .armed).tables with coils := (planted .armed).tables.coils.put 0 { present with quorum := 1 } }).closeFace
      0 (twoEntries (some (.good 960)))).status = .accepted ∧
    ((quiet .armed).closeFace 0 [⟨7, 8, some 0, false, some .noAnswer⟩, ⟨8, 9, some 0, false, none⟩]).excludedSet =
      [(7, .noAnswer)] := by decide +kernel

theorem witness_GainAndLossOfAFrame :
    (-960 : Int) < (State.reset.cfg 0).theta ∧ (State.reset.cfg 0).theta ≤ 48 ∧ (State.reset.cfg 0).weight ≤ 16 := by decide +kernel

theorem witness_FrameUpdatesMoveTheBand :
    (quiet .fallback).mode = .fallback ∧ (quiet .armed).mode ≠ .fallback ∧
    (present.recover < present.a1 ∧ present.a1 < present.a2 ∧ present.a2 < present.trip) ∧
    ((coiled .armed CoilSeq.start { e := 11520, band := .clear, confirm := 0 } Face.start).exposures.at 0).band = .clear := by
  decide +kernel

/-- C1 after one frame at a stage, settle remaining and hold-down, from a band and an exposure, with the report's acceptance and cold
spot. -/
def updated (g : CoilStage) (left : Nat) (h : Option Nat) (forced : Bool) (b : Band) (e : Nat) (c : Option Int) : State :=
  (driven (coiled .armed { CoilSeq.start with stage := g, settle := left, holdDown := h, forced := forced }
    { e := e, band := b, confirm := 3 } Face.start)).frameUpdate 0
      { accepted := c.isSome, face := .sighted, cEff := 48, cold := c, mean := c, spread := c.map fun _ => 0, interval := 4, second := 0 }

/-- What the next theorem reads of C1. -/
def updatedView (s : State) : CoilStage × Nat × Option Nat × Band × Option TripCause :=
  ((s.coils.at 0).stage, (s.coils.at 0).settle, (s.coils.at 0).holdDown, (s.exposures.at 0).band, (s.coils.at 0).tripRecord.map (·.cause))

/-- R90 to R93, R103: settle counting down, its exit, promotion, a demotion that waits for the hold-down and one that does not, a
forced coil, and the two causes of trip entry; so every case of the statement has a frame that meets it. -/
theorem witness_FrameUpdatesMoveTheBand_stages :
    [updatedView (updated .settle 2 none false .clear 0 (some 40)), updatedView (updated .settle 1 none false .advise1 11000 (some 40)),
      updatedView (updated .settle 1 none false .clear 0 none), updatedView (updated .watch 0 none false .advise1 11000 (some 40)),
      updatedView (updated .boost 0 (some 9) false .advise1 11000 (some 40)), updatedView (updated .boost 0 none false .advise1 11000 (some 40)),
      updatedView (updated .watch 0 none true .advise1 11000 (some 40)), updatedView (updated .guard 0 none false .clear 0 (some (-800))),
      updatedView (updated .guard 0 none false .advise2 50000 (some 40))].map (fun v => (v.1, v.2.1, v.2.2.2)) =
    [(.settle, 1, .clear, none), (.guard, 0, .advise1, none), (.settle, 1, .clear, none), (.guard, 0, .advise1, none),
      (.boost, 0, .advise1, none), (.guard, 0, .advise1, none), (.watch, 0, .advise1, none),
      (.tripped, 0, .trip, some .hardLimit), (.tripped, 0, .trip, some .exposure)] := by decide +kernel

theorem witness_TripEntryCapturesAndLocksOut :
    ((planted .armed).coils.at 0).history = [] ∧ ([] : List Seconds).length + 1 < ((planted .armed).cfg 0).lockoutLimit ∧
    (planted .armed).store.job = none ∧ saving.store.job ≠ none ∧ (planted .armed).mode ≠ .fallback ∧
    (([] : List Seconds).length + 1 ≥ ({ present with lockoutLimit := 1 } : CoilCfg).lockoutLimit) := by decide +kernel

/-- R112, R113, R119: trip entry takes a unit in RUN, TEMPER or RESTART_HOLD to CLOSING with both timers. -/
theorem test_trip_closes : [UnitStage.run, .temper, .restartHold].map (fun g =>
      ((((planted .armed).setUnit 0 { UnitRec.start with stage := g, holdOff := some 5 }).tripEntry 0 .pump).units.at 0)) =
    List.replicate 3 { UnitRec.start with stage := .closing, trip := true, stroke := some 120, fan := some 60, closingSecond := some 0 } := by
  decide +kernel

theorem witness_CoilTimersDemoteAndEscalate :
    (∀ r x f, (coiled .armed r x f).power = .running ∧ (coiled .armed r x f).settled) ∧
    (let s := driven (coiled .armed { CoilSeq.start with stage := .boost, prove := .proving, proveTimer := some 1, holdDown := some 1 }
        { e := 0, band := .advise1, confirm := 0 } Face.start)
     s.power = .running ∧ s.settled ∧ (s.coils.at 0).holdDown = some 1 ∧ (s.coils.at 0).stage = .boost ∧
      (s.exposures.at 0).band = .advise1 ∧ (s.coils.at 0).prove = .proving ∧ (s.coils.at 0).proveTimer = some 1 ∧
      (s.cfg 0).present = true ∧ s.outputs = s.effective) ∧
    0 < present.holdDown ∧ ({ present with holdDown := 0 } : CoilCfg).holdDown = 0 :=
  ⟨fun r x f => ⟨rfl, (coiled_ready _ r x f).2.1⟩, ⟨rfl, settled_of_start rfl rfl rfl, by decide +kernel⟩, by decide, rfl⟩

/-- R92, R98, R112: with a hold-down of 0 s the promotion to BOOST is followed by the demotion to the band's stage, and the unit's temper
condition is that of the stage it ends in. -/
theorem test_hold_down_zero : [Band.clear, .advise1, .advise2].map (fun b =>
      let s := withC1 { present with holdDown := 0 } { CoilSeq.start with stage := .guard, prove := .proving, proveTimer := some 1 }
        { e := 0, band := b, confirm := 0 } ((quiet .armed).setUnit 0 { UnitRec.start with stage := .run })
      match exec (.proveTimerExpiry 0) (driven s) with
      | .next t => ((t.coils.at 0).stage, (t.units.at 0).stage)
      | .fault _ => (.idle, .idle)
      | .refused _ => (.idle, .idle)) = [(.watch, .run), (.guard, .run), (.boost, .temper)] := by decide +kernel

/-- A part whose unit U1 stands so, its outputs at their rules. -/
def housed (r : UnitRec) : State := driven ((quiet .armed).setUnit 0 r)

theorem witness_UnitTimersJudgeTheProofs :
    (∀ r, (housed r).power = .running ∧ (housed r).settled) ∧
    (let s := housed { UnitRec.start with stage := .closing, stroke := some 1, fan := some 1 }
     s.outputs = s.effective ∧ (s.units.at 0).stroke = some 1 ∧ (s.units.at 0).fan = some 1 ∧ s.damperProof 0 = false ∧
      s.fanProof 0 = true) ∧
    (let s := housed { UnitRec.start with stage := .restartHold, holdOff := some 1, temper := true }
     s.outputs = s.effective ∧ (s.units.at 0).holdOff = some 1) :=
  ⟨fun _ => ⟨rfl, settled_of_start rfl rfl rfl⟩, by decide +kernel, by decide +kernel⟩

theorem witness_InputsAreDebounced :
    ((quiet .armed).pins.at 14 = false ∧ State.reset.power ≠ .running ∧ (quiet .armed).power = .running) ∧
    (quiet .armed).settled ∧ (∀ b, (waiting 14 b).settled) ∧
    ((true != ((quiet .armed).tables.inputs.at 14).activeLow) ≠ ((quiet .armed).inputs.at 14).debounced ∧
      0 < ((quiet .armed).tables.inputs.at 14).debounce) ∧
    (true != ((waiting 14 true).tables.inputs.at 14).activeLow) = ((waiting 14 true).inputs.at 14).debounced ∧
    ((waiting 14 true).inputs.at 14).timer = some 200 ∧ ((quiet .armed).inputs.at 14).timer = none :=
  ⟨by decide +kernel, settled_of_start rfl rfl rfl, fun _ => settled_of_start rfl rfl rfl, by decide +kernel, by decide +kernel,
    by decide +kernel, by decide +kernel⟩

/-- A part with C1 locked out at a warm face, its LOCAL_RESET input asserted. -/
def resettable : State :=
  (coiled .armed { CoilSeq.start with stage := .lockout, lockout := true, history := [1, 2, 3] } { e := 3840, band := .trip, confirm := 4 }
    { Face.start with state := .sighted, held := some 25 }).setInput 12 { debounced := true, timer := none }

/-- R101, R118: the local reset of the unit's one locked-out coil takes the unit from CLOSING to RESTART_HOLD. -/
theorem witness_DebouncedChangesReachTheirBlocks_unit :
    (let s := resettable.setUnit 0 { UnitRec.start with stage := .closing, trip := true, stroke := some 9, fan := some 9 }
     let t := s.deliver 12
     ((s.units.at 0).stage.shut, (t.units.at 0).stage, (t.units.at 0).holdOff, (t.units.at 0).stroke, t.tripOf 0)) =
    (true, .restartHold, some 120, none, false) := by decide +kernel

/-- A part with a coil's FLOW lost: C1 proven in a stage, its outputs at their rules. -/
def flowless (g : CoilStage) (p : Prove) : State :=
  driven (coiled .armed { CoilSeq.start with stage := g, prove := p } { e := 0, band := .clear, confirm := 0 } Face.start)

/-- R97, R98: the FLOW loss escalates by the stage. -/
theorem test_flow_loss : [CoilStage.watch, .guard, .boost, .settle].map (fun g =>
      let t := (flowless g .proven).deliver (flowInput 0)
      ((t.coils.at 0).stage, (t.coils.at 0).prove, (t.exposures.at 0).band)) =
    [(.watch, .failed, .clear), (.boost, .failed, .clear), (.tripped, .failed, .trip), (.tripped, .failed, .trip)] := by decide +kernel

/-- R117: the last missing proof brings a faulted unit to SECURED, and one of two leaves it. -/
theorem test_secure_fault : [false, true].map (fun b =>
      let s := (housed { UnitRec.start with stage := .secureFault, trip := true, missingDamper := true, missingFan := b }).setInput
        (damperInput 0) { debounced := true, timer := none }
      let t := s.deliver (damperInput 0)
      ((t.units.at 0).stage, (t.units.at 0).missingDamper, (t.units.at 0).missingFan)) =
    [(.secured, false, false), (.secureFault, false, true)] := by decide +kernel

/-- The three ways to a delivery (R9, R137): an expiry at a level that differs, a level change with a debounce time of 0, and a
SET-INPUT that inverts the polarity. -/
theorem witness_DebouncedChangesReachTheirBlocks_delivery :
    ((waiting 14 true).power = .running ∧ ((waiting 14 true).inputs.at 14).timer = some 200 ∧
      (waiting 14 true).inputLevel 14 ≠ ((waiting 14 true).inputs.at 14).debounced) ∧
    (let s := (waiting 14 true).setTables { Tables.default with inputs := Tables.default.inputs.put 14 { activeLow := true, debounce := 0 } }
     s.power = .running ∧ s.pins.at 14 ≠ true ∧ (s.tables.inputs.at 14).debounce = 0 ∧
      (s.setPin 14 true).inputLevel 14 ≠ ((s.setPin 14 true).inputs.at 14).debounced) ∧
    (let s := quiet .armed
     let q := s.setTables { s.tables with inputs := s.tables.inputs.put 14 { activeLow := true, debounce := 0 } }
     s.ready ∧ s.saveBusy = false ∧ true ≠ (s.tables.inputs.at 14).activeLow ∧ q.inputLevel 14 ≠ (q.inputs.at 14).debounced) :=
  ⟨by decide +kernel, by decide +kernel, quiet_ready _, by decide +kernel⟩

theorem witness_DebouncedChangesReachTheirBlocks :
    ((resettable.inputs.at 12).debounced = true ∧ (resettable.cfg 0).present = true ∧ (resettable.cfg 0).unit = 0 ∧
      (resettable.coils.at 0).stage = .lockout ∧ (resettable.exposures.at 0).e ≤ (resettable.cfg 0).recover ∧
      (resettable.faces.at 0).state ≠ .blind ∧ (resettable.faces.at 0).held = some 25) ∧
    ((resettable.coils.at 0).prove = .off ∧ (resettable.inputs.at 13).debounced = false) ∧
    (let s := (housed { UnitRec.start with stage := .closing }).setInput 6 { debounced := true, timer := none }
     (s.units.at 0).stage = .closing ∧ s.damperProof 0 = true ∧ s.fanProof 0 = true) ∧
    (∀ g ∈ [CoilStage.watch, .guard, .boost, .settle], (flowless g .proven).outputs = (flowless g .proven).effective ∧
      (flowless g .proven).flow 0 = false ∧ ((flowless g .proven).cfg 0).present = true ∧ 0 < ((flowless g .proven).cfg 0).holdDown) := by decide +kernel

theorem witness_OutputsMergeHostAndProtection :
    (quiet .fallback).mode = .fallback ∧ (planted .armed).mode ≠ .fallback ∧ ((planted .armed).cfg 0).present = true ∧
    (((planted .armed).setUnit 0 { UnitRec.start with stage := .temper }).units.at 0).stage ≠ .idle ∧
    (planted .armed).hostValue (valveId 0) ≤ 1000 := by decide +kernel

/-- A part with sources 21 and 45 pending in class 7 of C3 and C6. -/
def pendingAlerts : State :=
  (quiet .armed).setAlerts (((quiet .armed).alerts.raiseEdge 21).raiseEdge 45)

theorem witness_SelectionTakesTheLowestClassInRotation :
    pendingAlerts.winner = some 21 ∧ (pendingAlerts.alerts.sources.at 45).membership = .pending ∧ (quiet .armed).winner = none := by
  decide +kernel

end Sys2Proof.Tests
end

section
/-! PROOF. A face sensor's reply: each of the three tests of R39, as the model computes it on words, is the test of the manual on
numbers; so the classification is the order of R39. -/

namespace Sys2Proof.Machine

open Sys2Proof

/-! ## Two bytes as one field (R168) -/

@[simp] theorem half_toNat (high low : Byte) : (half high low).toNat = 256 * high.toNat + low.toNat := by
  rw [half, BitVec.toNat_append, ← Nat.shiftLeft_add_eq_or_of_lt low.isLt, Nat.shiftLeft_eq]
  omega

/-- Two's complement of a field of two bytes, told from its bytes (R39, R168). -/
theorem half_toInt (high low : Byte) :
    (half high low).toInt =
      if 256 * high.toNat + low.toNat < 32768 then ((256 * high.toNat + low.toNat : Nat) : Int)
      else ((256 * high.toNat + low.toNat : Nat) : Int) - 65536 := by
  rw [BitVec.toInt_eq_toNat_cond, half_toNat]
  split <;> split <;> omega

/-! ## The three tests of a reply (R39) -/

/-- The sum of bytes is taken modulo 256, so it is 0 exactly when 256 divides the sum of their numbers. -/
theorem reply_sum_ne_zero_iff (high low status check : Byte) :
    high + low + status + check ≠ 0 ↔ (high.toNat + low.toNat + status.toNat + check.toNat) % 256 ≠ 0 := by
  bv_omega

/-- The valid flag is bit 7 of the status byte; the lower seven bits do not count. -/
theorem status_flag_clear_iff (status : Byte) : (!status.msb) = true ↔ status.toNat < 128 := by
  simp [BitVec.msb_eq_decide]

theorem withinInt_iff (lo hi v : Int) : withinInt lo hi v = true ↔ lo ≤ v ∧ v ≤ hi := by
  simp [withinInt]

/-- The window's test is written with its two branches the other way round in R39: first what fails it. -/
theorem window_first_failure {α : Type} (v : Int) (good bad : α) :
    (if withinInt (-800) 960 v then good else bad) = if v < -800 ∨ 960 < v then bad else good := by
  have fails_iff : withinInt (-800) 960 v = true ↔ ¬ (v < -800 ∨ 960 < v) := by
    rw [withinInt_iff]; omega
  simp only [fails_iff, ite_not]

/-- The classification as R39 orders it: the first test that fails decides, and a reply that passes all three is GOOD with the
temperature. -/
theorem classify_eq_first_failure (high low status check : Byte) :
    classify high low status check =
      if (high.toNat + low.toNat + status.toNat + check.toNat) % 256 ≠ 0 then .badCheck
      else if status.toNat < 128 then .sensorInvalid
      else if (half high low).toInt < -800 ∨ 960 < (half high low).toInt then .implausible
      else .good (half high low).toInt := by
  simp only [classify, reply_sum_ne_zero_iff, status_flag_clear_iff, window_first_failure]

/-- Settles O49: the temperature of the statement is the two's complement value of the first two bytes, on which the
classification applies the tests of R39 in order. -/
theorem repliesAreJudgedInOrder : Obligations.RepliesAreJudgedInOrder := by
  unfold Obligations.RepliesAreJudgedInOrder
  intro high low status check v hv
  have temperature : v = (half high low).toInt := hv.trans (half_toInt high low).symm
  rw [replyResult, classify_eq_first_failure, temperature]

end Sys2Proof.Machine
end

section
/-! PROOF. The statistics of a closed face frame (R58): the cold spot and the hot spot are the least and the greatest temperature of
the valid included set, and the floor mean lies between the two, so whatever bounds the temperatures bounds the statistics too. -/

namespace Sys2Proof.Machine

open Sys2Proof

/-! ## The extremes (R58) -/

theorem coldSpot_isLeast {ts : List Int} (h : ts ≠ []) : IsLeast {v | v ∈ ts} (coldSpot ts) := by
  cases ts with
  | nil => contradiction
  | cons t ts => exact List.min?_eq_some_iff.mp List.min?_cons'

theorem hotSpot_isGreatest {ts : List Int} (h : ts ≠ []) : IsGreatest {v | v ∈ ts} (hotSpot ts) := by
  cases ts with
  | nil => contradiction
  | cons t ts => exact List.max?_eq_some_iff.mp List.max?_cons'

/-! ## The mean (R58) -/

theorem length_cast_pos {ts : List Int} (h : ts ≠ []) : (0 : Int) < ts.length :=
  Int.natCast_pos.mpr (List.length_pos_of_ne_nil h)

theorem mul_length_le_sum {ts : List Int} {lo : Int} (h : ∀ v ∈ ts, lo ≤ v) : lo * (ts.length : Int) ≤ ts.sum := by
  simpa [mul_comm] using ts.card_nsmul_le_sum lo h

theorem sum_le_mul_length {ts : List Int} {hi : Int} (h : ∀ v ∈ ts, v ≤ hi) : ts.sum ≤ hi * (ts.length : Int) := by
  simpa [mul_comm] using ts.sum_le_card_nsmul hi h

/-- The mean is the floor of the quotient, also where the sum is negative. -/
theorem meanOf_floor {ts : List Int} (h : ts ≠ []) :
    meanOf ts * (ts.length : Int) ≤ ts.sum ∧ ts.sum < (meanOf ts + 1) * (ts.length : Int) :=
  ⟨Int.ediv_mul_le _ (length_cast_pos h).ne', Int.lt_ediv_add_one_mul_self _ (length_cast_pos h)⟩

theorem le_meanOf {ts : List Int} {lo : Int} (h : ts ≠ []) (bound : ∀ v ∈ ts, lo ≤ v) : lo ≤ meanOf ts :=
  (Int.le_ediv_iff_mul_le (length_cast_pos h)).mpr (mul_length_le_sum bound)

theorem meanOf_le {ts : List Int} {hi : Int} (h : ts ≠ []) (bound : ∀ v ∈ ts, v ≤ hi) : meanOf ts ≤ hi :=
  le_of_mul_le_mul_right ((meanOf_floor h).1.trans (sum_le_mul_length bound)) (length_cast_pos h)

/-- One temperature is its own cold spot, hot spot and mean. -/
theorem statistics_singleton (v : Int) : coldSpot [v] = v ∧ hotSpot [v] = v ∧ meanOf [v] = v := by
  simp [coldSpot, hotSpot, meanOf]

/-! ## The statistics in the window of R39 -/

/-- GOOD temperatures lie in the window of R39; so do the cold spot and the mean, and the spread is at most the window's width. -/
theorem statistics_in_window {ts : List Int} (h : ts ≠ []) (window : ∀ v ∈ ts, -800 ≤ v ∧ v ≤ 960) :
    -800 ≤ coldSpot ts ∧ coldSpot ts ≤ 960 ∧ -800 ≤ meanOf ts ∧ meanOf ts ≤ 960 ∧
      0 ≤ hotSpot ts - coldSpot ts ∧ hotSpot ts - coldSpot ts ≤ 1760 := by
  obtain ⟨cold_mem, cold_le⟩ := coldSpot_isLeast h
  obtain ⟨hot_mem, -⟩ := hotSpot_isGreatest h
  have cold_window := window _ cold_mem
  have hot_window := window _ hot_mem
  have cold_le_hot : coldSpot ts ≤ hotSpot ts := cold_le hot_mem
  have mean_ge := le_meanOf h fun v hv => (window v hv).1
  have mean_le := meanOf_le h fun v hv => (window v hv).2
  omega

/-- The sum of at most eight temperatures of the window of R39. -/
theorem sum_in_window {ts : List Int} (window : ∀ v ∈ ts, -800 ≤ v ∧ v ≤ 960) (few : ts.length ≤ 8) :
    -6400 ≤ ts.sum ∧ ts.sum ≤ 7680 := by
  have sum_ge := mul_length_le_sum fun v hv => (window v hv).1
  have sum_le := sum_le_mul_length fun v hv => (window v hv).2
  omega

/-! ## The three fields of a closed frame (R57, R58) -/

/-- The valid temperatures entry by entry: those of the included entries whose result is GOOD. -/
theorem validTemps_eq_filterMap (entries : List SnapEntry) :
    validTemps entries = entries.filterMap fun e => if e.included then e.temp else none :=
  List.filterMap_filter

theorem closeFace_statistics_of_starved {s : State} {k : Fin 6} {entries : List SnapEntry}
    (h : (validTemps entries).length < (s.cfg k).quorum) :
    (s.closeFace k entries).held = (s.faces.at k).held ∧ (s.closeFace k entries).mean = (s.faces.at k).mean ∧
      (s.closeFace k entries).spread = (s.faces.at k).spread := by
  simp [State.closeFace, h.not_ge]

theorem closeFace_statistics_of_accepted {s : State} {k : Fin 6} {entries : List SnapEntry}
    (h : (s.cfg k).quorum ≤ (validTemps entries).length) :
    (s.closeFace k entries).held = some (coldSpot (validTemps entries)) ∧
      (s.closeFace k entries).mean = some (meanOf (validTemps entries)) ∧
      (s.closeFace k entries).spread = some (hotSpot (validTemps entries) - coldSpot (validTemps entries)) := by
  simp [State.closeFace, h]

/-- Settles O50: below the quorum the fields are kept; at it the frame has a temperature, for the quorum is at least 1, and the
fields are the least temperature, the floor mean and the distance to the greatest. -/
theorem frameStatisticsAreTheColdSpotMeanAndSpread : Obligations.FrameStatisticsAreTheColdSpotMeanAndSpread := by
  unfold Obligations.FrameStatisticsAreTheColdSpotMeanAndSpread
  intro s k entries ts hts quorum_pos
  have temps : ts = validTemps entries := by
    rw [hts, validTemps_eq_filterMap]
    refine List.filterMap_congr fun e _ => ?_
    obtain ⟨_, _, _, _, result⟩ := e
    cases result with
    | none => rfl
    | some r => cases r <;> rfl
  subst temps
  refine ⟨closeFace_statistics_of_starved, fun accepted => ?_⟩
  have nonempty : validTemps entries ≠ [] := List.ne_nil_of_length_pos (quorum_pos.trans accepted)
  obtain ⟨held, mean, spread⟩ := closeFace_statistics_of_accepted accepted
  obtain ⟨cold_mem, cold_le⟩ := coldSpot_isLeast nonempty
  obtain ⟨hot_mem, le_hot⟩ := hotSpot_isGreatest nonempty
  obtain ⟨mean_le_sum, sum_lt⟩ := meanOf_floor nonempty
  refine ⟨_, _, _, held, mean, spread, cold_mem, cold_le, mean_le_sum, sum_lt, ?_⟩
  rw [add_sub_cancel]
  refine ⟨hot_mem, le_hot, le_meanOf nonempty cold_le, meanOf_le nonempty le_hot, fun single => ?_, fun window => ?_⟩
  · obtain ⟨v, one⟩ := List.length_eq_one_iff.mp single
    simp [one, statistics_singleton]
  · obtain ⟨cold_lo, cold_hi, mean_lo, mean_hi, spread_lo, spread_hi⟩ := statistics_in_window nonempty window
    exact ⟨cold_lo, cold_hi, mean_lo, mean_hi, spread_lo, spread_hi, sum_in_window window⟩

end Sys2Proof.Machine
end

section
/-! PROOF. Gain and loss of a frame (R73 to R75). Both integrate a clamped distance between C_eff and Θ: the depth below it or the
warmth above it. The clamp at 640 bounds what one frame moves; a depth of at least 1 and the loss's own floor of n keep the move
from being 0. -/

namespace Sys2Proof.Machine

open Sys2Proof

/-! ## The water multiplier (R30, R73) -/

theorem validTemp_eq_some_iff {s : State} {o : Option (Fin 16)} {t : Int} :
    s.validTemp o = some t ↔ ∃ c, o = some c ∧ (s.channels.at c).status = .ok ∧ (s.channels.at c).temperature = t := by
  cases o <;> simp [State.validTemp]

theorem waterMultiplier_eq_one_or_two (s : State) (k : Fin 6) : s.waterMultiplier k = 1 ∨ s.waterMultiplier k = 2 := by
  unfold State.waterMultiplier
  split
  · exact .inl rfl
  · split
    · exact .inr rfl
    · exact .inl rfl

/-- Water counts double exactly where it has a valid temperature and that is below Λ. -/
theorem waterMultiplier_eq_two_iff_validTemp {s : State} {k : Fin 6} :
    s.waterMultiplier k = 2 ↔ ∃ t, s.validTemp (s.cfg k).lwt = some t ∧ t < (s.cfg k).lambda := by
  unfold State.waterMultiplier
  cases s.validTemp (s.cfg k).lwt <;> simp

theorem waterMultiplier_eq_two_iff {s : State} {k : Fin 6} :
    s.waterMultiplier k = 2 ↔ ∃ c, (s.cfg k).lwt = some c ∧ (s.channels.at c).status = .ok ∧
      (s.channels.at c).temperature < (s.cfg k).lambda := by
  rw [waterMultiplier_eq_two_iff_validTemp]
  constructor
  · rintro ⟨t, valid, below⟩
    obtain ⟨c, bound, ok, rfl⟩ := validTemp_eq_some_iff.mp valid
    exact ⟨c, bound, ok, below⟩
  · rintro ⟨c, bound, ok, below⟩
    exact ⟨_, validTemp_eq_some_iff.mpr ⟨c, bound, ok, rfl⟩, below⟩

/-! ## The distance from Θ that one frame may use (R74, R75) -/

/-- The depth below Θ or the warmth above it, clamped to what one frame may use. -/
def clampedDistance (x : Int) : Nat := min x.toNat Config.maxDepth

theorem clampedDistance_spec {x : Int} (nonneg : 0 ≤ x) :
    (clampedDistance x : Int) = x ∧ clampedDistance x ≤ 640 ∨ clampedDistance x = 640 ∧ 640 < x := by
  rw [clampedDistance, Config.maxDepth]
  omega

theorem clampedDistance_le (x : Int) : clampedDistance x ≤ 640 := Nat.min_le_right _ _

/-- A C_eff below Θ has a depth of at least 1. -/
theorem clampedDistance_pos {x : Int} (pos : 0 < x) : 0 < clampedDistance x :=
  lt_min (Int.pos_iff_toNat_pos.mp pos) (by decide)

/-! ## The gain (R74) -/

/-- E saturates at its top. -/
theorem gainE_eq (e : Nat) (theta cEff : Int) (n m : Nat) :
    gainE e theta cEff n m =
      if 16777215 < e + clampedDistance (theta - cEff) * n * m then 16777215
      else e + clampedDistance (theta - cEff) * n * m :=
  (min_comm _ _).trans (min_def_lt _ _)

/-- The upper bound is 640 × 40 × 2. -/
theorem gain_bounds {d n m : Nat} (d_pos : 0 < d) (d_le : d ≤ 640) (n_pos : 1 ≤ n) (n_le : n ≤ 40) (m_pos : 1 ≤ m)
    (m_le : m ≤ 2) : 1 ≤ d * n * m ∧ d * n * m ≤ 51200 :=
  ⟨Nat.mul_pos (Nat.mul_pos d_pos n_pos) m_pos, Nat.mul_le_mul (Nat.mul_le_mul d_le n_le) m_le⟩

/-! ## The loss (R75) -/

/-- The loss of a warm frame: the floored quotient, and n where that is smaller. -/
def warmLoss (u n weight : Nat) : Nat := if u * n * weight / 4 < n then n else u * n * weight / 4

/-- E ends at 0 where the loss is more than it holds. -/
theorem lossE_eq (e : Nat) (theta cEff : Int) (n weight : Nat) :
    lossE e theta cEff n weight =
      if e < warmLoss (clampedDistance (cEff - theta)) n weight then 0
      else e - warmLoss (clampedDistance (cEff - theta)) n weight := by
  have loss_eq : max n (clampedDistance (cEff - theta) * n * weight / 4) =
      warmLoss (clampedDistance (cEff - theta)) n weight := (max_comm _ _).trans (max_def_lt _ _)
  rw [lossE, ← clampedDistance, loss_eq]
  split <;> omega

/-- The upper bound is 640 × 40 × 16 divided by 4. -/
theorem warmLoss_bounds {u n weight : Nat} (u_le : u ≤ 640) (n_le : n ≤ 40) (weight_le : weight ≤ 16) :
    n ≤ warmLoss u n weight ∧ warmLoss u n weight ≤ 102400 := by
  have product_le : u * n * weight ≤ 640 * 40 * 16 := Nat.mul_le_mul (Nat.mul_le_mul u_le n_le) weight_le
  rw [warmLoss]
  split <;> omega

/-! ## Step 2 of a frame update (R72) -/

theorem stepE_of_below {s : State} {k : Fin 6} {r : FrameReport} (below : r.cEff < (s.cfg k).theta) :
    s.stepE k r = gainE (s.exposures.at k).e (s.cfg k).theta r.cEff r.interval (s.waterMultiplier k) := if_pos below

theorem stepE_of_not_below {s : State} {k : Fin 6} {r : FrameReport} (warm : (s.cfg k).theta ≤ r.cEff) :
    s.stepE k r = lossE (s.exposures.at k).e (s.cfg k).theta r.cEff r.interval (s.cfg k).weight := if_neg warm.not_gt

/-- Settles O52: C_eff on either side of Θ chooses gain or loss, whose distance is the clamped one. -/
theorem gainAndLossOfAFrame : Obligations.GainAndLossOfAFrame := by
  unfold Obligations.GainAndLossOfAFrame
  intro s k r
  have multiplier := waterMultiplier_eq_one_or_two s k
  refine ⟨multiplier, waterMultiplier_eq_two_iff, fun below => ?gain, fun warm => ?loss⟩
  case gain =>
    have depth_pos : 0 < (s.cfg k).theta - r.cEff := Int.sub_pos_of_lt below
    refine ⟨clampedDistance ((s.cfg k).theta - r.cEff), clampedDistance_spec depth_pos.le,
      (stepE_of_below below).trans (gainE_eq ..), fun n_pos n_le => ?_⟩
    exact gain_bounds (clampedDistance_pos depth_pos) (clampedDistance_le _) n_pos n_le (by omega) (by omega)
  case loss =>
    have warmth_nonneg : 0 ≤ r.cEff - (s.cfg k).theta := Int.sub_nonneg_of_le warm
    refine ⟨clampedDistance (r.cEff - (s.cfg k).theta), warmLoss _ r.interval (s.cfg k).weight,
      clampedDistance_spec warmth_nonneg, rfl, (stepE_of_not_below warm).trans (lossE_eq ..), ?_⟩
    exact fun _ n_le weight_le => warmLoss_bounds (clampedDistance_le _) n_le weight_le

end Sys2Proof.Machine
end

section
/-! PROOF. What the operations of the sequencers do to a state, said once: `Moves k u` holds the shared updates that coil `k`'s and
unit `u`'s events are made of, and every operation of the Coil Sequencer, the Unit Sequencer, the Output Merge and the Exposure
Engine is a run of them. What such a run keeps is then one induction. -/

namespace Sys2Proof.Machine

open Sys2Proof

/-! ## The updates of an event -/

/-- The state reached from `s` by updates that an event of coil `k` and unit `u` makes: coil `k`'s own records, pump proving of
every coil, unit `u`'s record, the pins, the edges and levels of the two sequencers, and lockout changes. -/
inductive Moves (k : Fin 6) (u : Fin 3) (s : State) : State → Prop
  | refl : Moves k u s s
  | coil {t : State} (h : Moves k u s t) (r : CoilSeq) : Moves k u s (t.setCoil k r)
  | prove {t : State} (h : Moves k u s t) (j : Fin 6) (p : Prove) (n : Option Nat) :
      Moves k u s (t.setCoil j { t.coils.at j with prove := p, proveTimer := n })
  | exposure {t : State} (h : Moves k u s t) (r : Exposure)
      (bounded : t.exposureBounded → r.e ≤ Config.maxExposure ∧ r.confirm ≤ 4) : Moves k u s (t.setExposure k r)
  | unit {t : State} (h : Moves k u s t) (r : UnitRec) : Moves k u s (t.setUnit u r)
  | outputs {t : State} (h : Moves k u s t) (o : Outputs) : Moves k u s (t.setOutputs o)
  | edge {t : State} (h : Moves k u s t) {x : Fin 65} (hx : x = srcAdvise1 k ∨ x = srcAdvise2 k ∨ x = srcSecured u) :
      Moves k u s (t.raiseEdge x)
  | level {t : State} (h : Moves k u s t) {x : Fin 65} (c : Bool)
      (hx : x = srcTrip k ∨ x = srcLockout k ∨ (∃ j, x = srcPumpFail j) ∨ x = srcSecureFault u) :
      Moves k u s (t.handLevel x c)
  | lockout {t : State} (h : Moves k u s t) : Moves k u s t.lockoutChange

theorem Moves.trans {k : Fin 6} {u : Fin 3} {s t w : State} (h : Moves k u s t) (h' : Moves k u t w) : Moves k u s w := by
  induction h' with
  | refl => exact h
  | coil _ r ih => exact ih.coil r
  | prove _ j p n ih => exact ih.prove j p n
  | exposure _ r bounded ih => exact ih.exposure r bounded
  | unit _ r ih => exact ih.unit r
  | outputs _ o ih => exact ih.outputs o
  | edge _ hx ih => exact ih.edge hx
  | level _ c hx ih => exact ih.level c hx
  | lockout _ ih => exact ih.lockout

/-- What `Moves` is made of is framed. -/
theorem Moves.frame {k : Fin 6} {u : Fin 3} {s t : State} (h : Moves k u s t) : seqFrame s t := by
  induction h with
  | refl => exact seqFrame_refl s
  | coil _ r ih => exact seqFrame_trans ih (seqFrame_setCoil _ _ _)
  | prove _ j p n ih => exact seqFrame_trans ih (seqFrame_setCoil _ _ _)
  | exposure _ r _ ih => exact seqFrame_trans ih (seqFrame_setExposure _ _ _)
  | unit _ r ih => exact seqFrame_trans ih (seqFrame_setUnit _ _ _)
  | outputs _ o ih => exact seqFrame_trans ih (seqFrame_setOutputs _ _)
  | edge _ hx ih => exact seqFrame_trans ih (seqFrame_raiseEdge _ _)
  | level _ c hx ih => exact seqFrame_trans ih (seqFrame_handLevel _ _ _)
  | lockout _ ih => exact seqFrame_trans ih (seqFrame_lockoutChange _)

theorem moves_foldl {α : Type} {k : Fin 6} {u : Fin 3} (f : State → α → State) (h : ∀ s a, Moves k u s (f s a)) (l : List α)
    (s : State) : Moves k u s (l.foldl f s) := by
  induction l generalizing s with
  | nil => exact .refl
  | cons a l ih => exact (h s a).trans (ih (f s a))

theorem moves_ite {k : Fin 6} {u : Fin 3} {s a b : State} {c : Prop} [Decidable c] (h : Moves k u s a) (h' : Moves k u s b) :
    Moves k u s (if c then a else b) := by
  split
  · exact h
  · exact h'

/-! ## The Unit Sequencer -/

section
variable (k : Fin 6) (u : Fin 3) (s : State)

theorem moves_handSecureFault : Moves k u s (s.handSecureFault u) := Moves.refl.level _ (by simp)

theorem moves_enterSecured : Moves k u s (s.enterSecured u) :=
  ((Moves.refl.unit _).trans (moves_handSecureFault k u _)).edge (by simp)

theorem moves_enterSecureFault : Moves k u s (s.enterSecureFault u) :=
  (Moves.refl.unit _).trans (moves_handSecureFault k u _)

theorem moves_enterClosing : Moves k u s (s.enterClosing u) := by
  unfold State.enterClosing
  dsimp only
  split
  · exact ((Moves.refl.unit _).trans (moves_handSecureFault k u _)).trans (moves_enterSecured k u _)
  · exact (Moves.refl.unit _).trans (moves_handSecureFault k u _)

theorem moves_enterRestartHold : Moves k u s (s.enterRestartHold u) := by
  unfold State.enterRestartHold
  dsimp only
  split
  · exact ((Moves.refl.unit _).trans (moves_handSecureFault k u _)).unit _
  · exact (Moves.refl.unit _).trans (moves_handSecureFault k u _)

theorem moves_moveUnit : Moves k u s (s.moveUnit u) := by
  unfold State.moveUnit
  dsimp only
  (repeat' split) <;>
    first
      | exact .refl
      | exact Moves.refl.unit _
      | exact moves_enterClosing k u s
      | exact moves_enterRestartHold k u s

theorem moves_unitEvent : Moves k u s (s.unitEvent u) := by
  unfold State.unitEvent
  split
  · exact .refl
  · exact (Moves.refl.unit _).trans (moves_moveUnit k u _)
  · exact (Moves.refl.unit _).trans (moves_moveUnit k u _)

theorem moves_proofEvent (damper present : Bool) : Moves k u s (s.proofEvent u damper present) := by
  unfold State.proofEvent
  dsimp only
  split
  case h_1 => exact moves_ite (moves_enterSecured k u s) .refl
  case h_2 => exact moves_ite .refl (moves_enterSecureFault k u s)
  case h_3 => exact moves_ite (Moves.refl.unit _) ((Moves.refl.unit _).trans (moves_enterSecured k u _))
  all_goals exact .refl

theorem moves_strokeExpires : Moves k u s (s.strokeExpires u) := by
  unfold State.strokeExpires
  split
  · exact Moves.refl.unit _
  · exact moves_enterSecureFault k u s

theorem moves_fanExpires : Moves k u s (s.fanExpires u) := by
  unfold State.fanExpires
  split
  · exact Moves.refl.unit _
  · exact moves_enterSecureFault k u s

/-! ## The Output Merge and pump proving -/

theorem moves_setProve (j : Fin 6) (p : Prove) (n : Option Nat) : Moves k u s (s.setProve j p n) :=
  (Moves.refl.prove j p n).level _ (.inr (.inr (.inl ⟨j, rfl⟩)))

theorem moves_pumpTurned (j : Fin 6) (on : Bool) : Moves k u s (s.pumpTurned j on) := by
  unfold State.pumpTurned
  (repeat' split) <;>
    first
      | exact .refl
      | exact moves_setProve k u s j _ _

theorem moves_handPump (before : Outputs) (j : Fin 6) : Moves k u s (handPump before s j) := by
  unfold handPump
  split
  · exact .refl
  · exact moves_pumpTurned k u s j _

theorem moves_recompute : Moves k u s s.recompute :=
  (Moves.refl.outputs _).trans (moves_foldl _ (fun t j => moves_handPump k u t s.outputs j) _ _)

end

/-! ## The Coil Sequencer -/

section
variable (k : Fin 6) (s : State)

theorem moves_writeCoil (r : CoilSeq) : Moves k (s.cfg k).unit s (s.writeCoil k r) :=
  (((Moves.refl.coil r).level _ (by simp)).level _ (by simp)).level _ (.inr (.inr (.inl ⟨k, rfl⟩)))

theorem moves_coilMoved : Moves k (s.cfg k).unit s (s.coilMoved k) :=
  (moves_unitEvent k _ s).trans (moves_recompute k _ _)

/-- An operation after which coil `k`'s configuration stands is followed by one that moves the same unit. -/
theorem Moves.thenMoves {s t w : State} {k : Fin 6} (h : Moves k (s.cfg k).unit s t) (h' : Moves k (t.cfg k).unit t w) :
    Moves k (s.cfg k).unit s w :=
  h.trans (by rwa [State.cfg, seqFrame_tables h.frame] at h')

theorem moves_writeMoved (r : CoilSeq) : Moves k (s.cfg k).unit s ((s.writeCoil k r).coilMoved k) :=
  (moves_writeCoil k s r).thenMoves (moves_coilMoved k _)

theorem moves_enterStage (st : CoilStage) : Moves k (s.cfg k).unit s (s.enterStage k st) := moves_writeMoved k s _

theorem moves_demote : Moves k (s.cfg k).unit s (s.demote k) := by
  unfold State.demote
  dsimp only
  split
  · exact moves_enterStage k s _
  · exact .refl

theorem moves_promote (st : CoilStage) : Moves k (s.cfg k).unit s (s.promote k st) := by
  unfold State.promote
  dsimp only
  split
  · exact (moves_writeMoved k s _).thenMoves (moves_demote k _)
  · exact moves_writeMoved k s _

theorem moves_setBand (u : Fin 3) (b : Band) : Moves k u s (s.setBand k b) := Moves.refl.exposure _ fun h => h k

theorem moves_tripEntry (cause : TripCause) : Moves k (s.cfg k).unit s (s.tripEntry k cause) := by
  unfold State.tripEntry
  dsimp only
  split
  · exact (moves_setBand k s _ .trip).thenMoves (moves_writeMoved k _ _)
  · exact (((moves_setBand k s _ .trip).thenMoves (moves_writeCoil k _ _)).thenMoves (Moves.refl.lockout)).thenMoves
      (moves_coilMoved k _)

theorem moves_workingOutcome (cause : TripCause) : Moves k (s.cfg k).unit s (s.workingOutcome k cause) := by
  unfold State.workingOutcome
  split
  · exact moves_tripEntry k s cause
  · exact moves_promote k s _
  · exact moves_promote k s _
  · exact moves_promote k s _
  · exact moves_demote k s

theorem moves_settleOutcome (accepted : Bool) (cause : TripCause) :
    Moves k (s.cfg k).unit s (s.settleOutcome k accepted cause) := by
  have counted (r : CoilSeq) : Moves k (s.cfg k).unit s (s.setCoil k r) := Moves.refl.coil r
  unfold State.settleOutcome
  dsimp only
  refine moves_ite (moves_tripEntry k s cause) (moves_ite (moves_ite ?_ ?_) (counted _))
  · exact (counted _).thenMoves (moves_enterStage k _ _)
  · exact (counted _).thenMoves (moves_promote k _ _)

theorem moves_updateOutcome (accepted : Bool) (cause : Option TripCause) :
    Moves k (s.cfg k).unit s (s.updateOutcome k accepted cause) := by
  unfold State.updateOutcome
  dsimp only
  repeat' split
  all_goals
    first
      | exact .refl
      | exact moves_settleOutcome k s accepted _
      | exact moves_workingOutcome k s _

theorem moves_escalate : Moves k (s.cfg k).unit s (s.escalate k) := by
  unfold State.escalate
  dsimp only
  repeat' split
  all_goals
    first
      | exact .refl
      | exact moves_promote k s _
      | exact moves_tripEntry k s _

theorem moves_pumpFails : Moves k (s.cfg k).unit s (s.pumpFails k) :=
  (moves_setProve k _ s k _ _).thenMoves (moves_escalate k _)

theorem moves_flowEvent (on : Bool) : Moves k (s.cfg k).unit s (s.flowEvent k on) := by
  unfold State.flowEvent
  repeat' split
  all_goals
    first
      | exact .refl
      | exact moves_setProve k _ s k _ _
      | exact moves_pumpFails k s

theorem moves_proveExpires : Moves k (s.cfg k).unit s (s.proveExpires k) := by
  unfold State.proveExpires
  split
  · exact moves_pumpFails k s
  · exact .refl

theorem moves_holdDownExpires : Moves k (s.cfg k).unit s (s.holdDownExpires k) := by
  unfold State.holdDownExpires
  dsimp only
  split
  · exact .refl
  · exact (Moves.refl.coil _).thenMoves (moves_demote k _)

theorem moves_resetCoil : Moves k (s.cfg k).unit s (s.resetCoil k) :=
  have cleared : Moves k (s.cfg k).unit s (s.setExposure k { s.exposures.at k with band := .clear, confirm := 0 }) :=
    Moves.refl.exposure _ fun h => ⟨(h k).1, Nat.zero_le _⟩
  cleared.thenMoves (moves_promote k _ _)

theorem moves_localResetCoil (u : Fin 3) : Moves k (s.cfg k).unit s (State.localResetCoil u s k) := by
  unfold State.localResetCoil
  dsimp only
  repeat' split
  · exact ((Moves.refl.coil _).lockout).thenMoves (moves_resetCoil k _)
  · exact (Moves.refl.coil _).thenMoves (moves_resetCoil k _)
  · exact .refl

/-! ## The Exposure Engine -/

theorem moves_raiseBandEdge (u : Fin 3) (b b' : Band) : Moves k u s (s.raiseBandEdge k b b') := by
  unfold State.raiseBandEdge
  split
  · exact Moves.refl.edge (by simp)
  · exact Moves.refl.edge (by simp)
  · exact Moves.refl.edge (by simp)
  · exact .refl

/-- E and the confirm count stay in their ranges at a frame update (R71, R74 to R76). -/
theorem stepExposure_bounded {s : State} {k : Fin 6} (h : s.exposureBounded) (r : FrameReport) :
    (s.stepExposure k r).1.e ≤ Config.maxExposure ∧ (s.stepExposure k r).1.confirm ≤ 4 := by
  have e_le : s.stepE k r ≤ Config.maxExposure := by
    unfold State.stepE
    dsimp only
    split
    · exact Nat.min_le_right _ _
    · exact (Nat.sub_le _ _).trans (h k).1
  have count_le : stepConfirm (s.exposures.at k).confirm (s.cfg k).phi r ≤ 4 := by
    have before := (h k).2
    unfold stepConfirm
    split
    · split <;> omega
    · exact before
    · exact before
  unfold State.stepExposure
  dsimp only
  repeat' split
  all_goals exact ⟨e_le, count_le⟩

theorem moves_updateExposure (r : FrameReport) : Moves k (s.cfg k).unit s (s.updateExposure k r) :=
  ((Moves.refl.exposure _ fun h => stepExposure_bounded h r).trans (moves_raiseBandEdge k _ _ _ _)).thenMoves
    (moves_updateOutcome k _ _ _)

theorem moves_frameUpdate (r : FrameReport) : Moves k (s.cfg k).unit s (s.frameUpdate k r) := by
  unfold State.frameUpdate
  split
  · exact .refl
  · exact moves_updateExposure k s r
  · exact moves_updateExposure k s r

end

end Sys2Proof.Machine
end

section
/-! PROOF. The encodings of one byte read back (R168), what a request's owner may do to the state, and what a step may be: the
inversion lemmas from which the invariants of every step are derived. -/

namespace Sys2Proof.Machine

open Sys2Proof

/-! ## Encoded values of one byte (R168) -/

theorem decNumber_encNumber {n : Nat} (hn : n < 256) (k : Fin n) : decNumber n (encNumber k) = some k := by
  have e : (encNumber k).toNat = k.val + 1 := by simp only [encNumber, u8_toNat]; omega
  unfold decNumber
  rw [dif_pos (by omega)]
  exact congrArg some (Fin.ext (by simp [e]))

theorem decNumber_eq_none {n : Nat} {b : Byte} (h : b.toNat = 0 ∨ n < b.toNat) : decNumber n b = none :=
  dif_neg (by omega)

theorem decIndex_u8 {n : Nat} (hn : n ≤ 256) (c : Fin n) : decIndex n (u8 c.val) = some c := by
  have e : (u8 c.val).toNat = c.val := by rw [u8_toNat]; omega
  unfold decIndex
  rw [dif_pos (by omega)]
  exact congrArg some (Fin.ext e)

theorem decIndex_eq_none {n : Nat} {b : Byte} (h : n ≤ b.toNat) : decIndex n b = none := dif_neg (by omega)

@[simp] theorem decFlag_flagByte (b : Bool) : decFlag (flagByte b) = some b := by cases b <;> rfl

theorem decFlag_eq_none {b : Byte} (h : 1 < b.toNat) : decFlag b = none := by
  unfold decFlag
  rw [if_neg, if_neg]
  all_goals
    rintro rfl
    simp at h

@[simp] theorem decOptCoil_encOptCoil (c : Option (Fin 6)) : decOptCoil (encOptCoil c) = some c := by
  revert c
  decide

@[simp] theorem decOptChannel_encOptChannel (c : Option (Fin 16)) : decOptChannel (encOptChannel c) = some c := by
  revert c
  decide

theorem decForceStage_code {st : CoilStage} (h : st = .watch ∨ st = .guard ∨ st = .boost ∨ st = .tripped) :
    decForceStage st.code = some st := by
  rcases h with rfl | rfl | rfl | rfl <;> rfl

theorem decForceStage_cases {b : Byte} {st : CoilStage} (h : decForceStage b = some st) :
    st = .watch ∨ st = .guard ∨ st = .boost ∨ st = .tripped := by
  unfold decForceStage at h
  split at h <;> simp_all

/-! ## What a request's owner may do -/

/-- The states that the owner of a request may leave, with the conditions of its acceptance on which an invariant rests. -/
inductive OwnerActs (s : State) : State → Prop
  | nothing : OwnerActs s s
  | errorsCleared : OwnerActs s (s.setLink { s.link with errorCount := 0, lastError := .none })
  | countsCleared (g : Fin 3) :
      OwnerActs s (s.setMaster g { s.masters.at g with framesOpened := 0, framesCutShort := 0 })
  | demandsPut (l : List (Fin 18 × Half)) : OwnerActs s (s.applyDemands l).recompute.handDemandsStale
  | acknowledged (x : Fin 65) : OwnerActs s (s.setAlerts (s.alerts.acknowledge x))
  | tripReset (k : Fin 6) (present : (s.cfg k).present = true) (tripped : (s.coils.at k).stage = .tripped) :
      OwnerActs s (s.resetCoil k)
  | notArmed (v : Validation) : OwnerActs s { s with validation := v }
  | armed (v : Validation) (test : s.mode = .test) : OwnerActs s ({ s with validation := v } : State).arm
  | testEntered : OwnerActs s s.enterTest
  | forced (k : Fin 6) (st : CoilStage) (test : s.mode = .test) (present : (s.cfg k).present = true)
      (hst : st = .watch ∨ st = .guard ∨ st = .boost ∨ st = .tripped) :
      OwnerActs s ((s.writeCoil k { s.coils.at k with stage := st, forced := true, holdDown := none, settle := 0 }).coilMoved k)
  | released (k : Fin 6) (test : s.mode = .test) (present : (s.cfg k).present = true) :
      OwnerActs s ((s.writeCoil k ((s.coils.at k).release (s.exposures.at k).band (s.cfg k).settleFrames)).coilMoved k)
  | coilSet (k : Fin 6) (c : CoilCfg)
      (structural : s.mode = .test ∨ c.present = (s.cfg k).present ∧ c.unit = (s.cfg k).unit) : OwnerActs s (s.applyCoil k c)
  | plainSet (t : Tables) (coils : t.coils = s.tables.coils) (units : t.units = s.tables.units)
      (outputs : t.outputs = s.tables.outputs) (sources : t.sources = s.tables.sources) : OwnerActs s (s.setTables t)
  | outputsSet (t : Tables) (coils : t.coils = s.tables.coils) : OwnerActs s (s.setTables t).recompute
  | inputInverted (t : Tables) (i : Fin 15) (coils : t.coils = s.tables.coils) (units : t.units = s.tables.units)
      (outputs : t.outputs = s.tables.outputs) : OwnerActs s ((s.setTables t).levelChanged i)
  | classSet (t : Tables) (coils : t.coils = s.tables.coils) (units : t.units = s.tables.units)
      (outputs : t.outputs = s.tables.outputs)
      (masks : ∀ x, (t.sources.at x).masked = (s.tables.sources.at x).masked) : OwnerActs s (s.setTables t)
  | maskSet (t : Tables) (coils : t.coils = s.tables.coils) (units : t.units = s.tables.units)
      (outputs : t.outputs = s.tables.outputs) : OwnerActs s (s.setTables t).noteSelection
  | saveStarted : OwnerActs s s.startSave
  | restartAccepted : OwnerActs s (s.setLink { s.link with restartAccepted := true })

theorem ownerActs_ite {s : State} {c : Prop} [Decidable c] {a b : Answer} (ha : c → OwnerActs s a.state)
    (hb : ¬ c → OwnerActs s b.state) : OwnerActs s (if c then a else b).state := by
  split
  · exact ha ‹_›
  · exact hb ‹_›

theorem ownerActs_answer {s t : State} {r : Result} (h : OwnerActs s t) : OwnerActs s (answer r t).state := h

/-! ### Lengths -/

theorem take0_acts {s : State} {req : State → Answer} (h : OwnerActs s (req s).state) (l : List Byte) :
    OwnerActs s (take0 req l s).state := by
  unfold take0
  split
  · exact h
  · exact .nothing

theorem take1_acts {s : State} {req : Byte → State → Answer} (h : ∀ a, OwnerActs s (req a s).state) (l : List Byte) :
    OwnerActs s (take1 req l s).state := by
  unfold take1
  split
  · exact h _
  · exact .nothing

theorem take2_acts {s : State} {req : Byte → Byte → State → Answer} (h : ∀ a b, OwnerActs s (req a b s).state)
    (l : List Byte) : OwnerActs s (take2 req l s).state := by
  unfold take2
  split
  · exact h _ _
  · exact .nothing

theorem take3_acts {s : State} {req : Byte → Byte → Byte → State → Answer} (h : ∀ a b c, OwnerActs s (req a b c s).state)
    (l : List Byte) : OwnerActs s (take3 req l s).state := by
  unfold take3
  split
  · exact h _ _ _
  · exact .nothing

/-! ### The owners -/

section
variable (s : State)

theorem reqGetStatus_acts (clear : Byte) : OwnerActs s (reqGetStatus clear s).state := by
  unfold reqGetStatus
  split
  · exact .nothing
  · change OwnerActs s (ite _ _ _)
    split
    · exact .errorsCleared
    · exact .nothing

theorem reqGetCoil_acts (coil : Byte) : OwnerActs s (reqGetCoil coil s).state := by
  unfold reqGetCoil
  split <;> exact .nothing

theorem reqGetUnit_acts (unit : Byte) : OwnerActs s (reqGetUnit unit s).state := by
  unfold reqGetUnit
  split <;> exact .nothing

theorem reqGetTrip_acts (coil : Byte) : OwnerActs s (reqGetTrip coil s).state := by
  unfold reqGetTrip
  split <;> exact .nothing

theorem reqGetPoints_acts (g p c : Byte) : OwnerActs s (reqGetPoints g p c s).state := by
  unfold reqGetPoints
  split
  · change OwnerActs s (ite _ _ _)
    split
    · exact .countsCleared _
    · exact .nothing
  · exact .nothing

theorem reqPutDemand_acts (pairs : List (Byte × Half)) : OwnerActs s (reqPutDemand pairs s).state := by
  unfold reqPutDemand
  split
  · exact .nothing
  · exact ownerActs_answer (.demandsPut _)

theorem handlePutDemand_acts (payload : List Byte) : OwnerActs s (handlePutDemand payload s).state := by
  unfold handlePutDemand
  split
  · exact .nothing
  · exact ownerActs_ite (fun _ => reqPutDemand_acts s _) fun _ => .nothing

theorem reqAckSource_acts (source : Byte) : OwnerActs s (reqAckSource source s).state := by
  unfold reqAckSource
  split
  · exact .nothing
  · exact ownerActs_ite (fun _ => .acknowledged _) fun _ => .nothing

theorem reqAckTop_acts : OwnerActs s (reqAckTop s).state := by
  unfold reqAckTop
  split
  · exact .nothing
  · exact .acknowledged _

theorem reqTripReset_acts (coil : Byte) : OwnerActs s (reqTripReset coil s).state := by
  unfold reqTripReset
  split
  · exact .nothing
  · dsimp only
    refine ownerActs_ite (fun _ => .nothing) fun present => ownerActs_ite (fun _ => .nothing) fun _ =>
      ownerActs_ite (fun _ => .nothing) fun _ => ownerActs_ite (fun _ => .nothing) fun tripped => ?_
    split
    · exact .nothing
    · exact .tripReset _ (by simpa using present) (by simpa using tripped)

theorem handleTripReset_acts (payload : List Byte) : OwnerActs s (handleTripReset payload s).state := by
  unfold handleTripReset
  split
  · exact reqTripReset_acts s _
  · exact .nothing

theorem requestArmed_acts : OwnerActs s s.requestArmed.state := by
  unfold State.requestArmed
  split
  · exact .nothing
  · exact .nothing
  · exact ownerActs_ite (fun _ => ownerActs_answer (.armed _ ‹_›)) fun _ => .notArmed _

theorem reqSetMode_acts (code : Byte) : OwnerActs s (reqSetMode code s).state :=
  ownerActs_ite (fun _ => .nothing) fun _ => ownerActs_ite (fun _ => requestArmed_acts s) fun _ =>
    ownerActs_ite (fun _ => .testEntered) fun _ => .nothing

theorem reqForceStage_acts (coil stage : Byte) : OwnerActs s (reqForceStage coil stage s).state := by
  unfold reqForceStage
  split
  · rename_i k st _ hst
    dsimp only
    refine ownerActs_ite (fun _ => .nothing) fun test => ownerActs_ite (fun _ => .nothing) fun present =>
      ownerActs_ite (fun _ => .nothing) fun _ => ?_
    exact ownerActs_answer (.forced k st (by simpa using test) (by simpa using present) (decForceStage_cases hst))
  · exact .nothing

theorem reqReleaseStage_acts (coil : Byte) : OwnerActs s (reqReleaseStage coil s).state := by
  unfold reqReleaseStage
  split
  · exact .nothing
  · dsimp only
    refine ownerActs_ite (fun _ => .nothing) fun test => ownerActs_ite (fun _ => .nothing) fun present =>
      ownerActs_ite (fun _ => .nothing) fun _ => ?_
    exact ownerActs_answer (.released _ (by simpa using test) (by simpa using present))

theorem coilCfgOf_cases {w : CoilWire} {c : CoilCfg} (h : coilCfgOf w = some c) :
    decFlag w.present = some c.present ∧ decNumber 3 w.unit = some c.unit := by
  unfold coilCfgOf at h
  split at h
  · dsimp only at h
    split at h
    · cases h
      exact ⟨‹_›, ‹_›⟩
    · cases h
  · cases h

/-- A SET-COIL that the mode check admits outside TEST keeps presence and unit (R3). -/
theorem coilModeAdmits_keeps {s : State} {k : Fin 6} {w : CoilWire} {c : CoilCfg} (admits : s.coilModeAdmits k w = true)
    (h : coilCfgOf w = some c) : s.mode = .test ∨ c.present = (s.cfg k).present ∧ c.unit = (s.cfg k).unit := by
  obtain ⟨present, unit⟩ := coilCfgOf_cases h
  simp only [State.coilModeAdmits, Bool.or_eq_true, beq_iff_eq, structuralBytes, List.cons.injEq] at admits
  refine admits.imp id fun ⟨same_present, same_unit, _⟩ => ⟨?_, ?_⟩
  · rw [same_present] at present
    exact (Option.some.inj ((decFlag_flagByte _).symm.trans present)).symm
  · rw [same_unit] at unit
    exact (Option.some.inj ((decNumber_encNumber (by omega) _).symm.trans unit)).symm

theorem reqSetCoil_acts (coil : Byte) (w : CoilWire) : OwnerActs s (reqSetCoil coil w s).state := by
  refine ownerActs_ite (fun _ => .nothing) fun _ => ?_
  split
  · exact .nothing
  · refine ownerActs_ite (fun _ => .nothing) fun admits => ?_
    split
    · exact .nothing
    · exact ownerActs_ite (fun _ => .nothing) fun _ =>
        ownerActs_answer (.coilSet _ _ (coilModeAdmits_keeps (by simpa using admits) ‹_›))

theorem handleSetCoil_acts (payload : List Byte) : OwnerActs s (handleSetCoil payload s).state := by
  unfold handleSetCoil
  split
  · exact .nothing
  · split
    · exact reqSetCoil_acts s _ _
    · exact .nothing

theorem reqSetUnit_acts (u : Byte) (d st : Half) (f : Byte) (h : Half) : OwnerActs s (reqSetUnit u d st f h s).state := by
  refine ownerActs_ite (fun _ => .nothing) fun _ => ?_
  split
  · exact .nothing
  · exact ownerActs_ite (fun _ => ownerActs_answer (.outputsSet _ rfl)) fun _ => .nothing

theorem handleSetUnit_acts (payload : List Byte) : OwnerActs s (handleSetUnit payload s).state := by
  unfold handleSetUnit
  split
  · exact reqSetUnit_acts s _ _ _ _ _
  · exact .nothing

theorem reqSetSegment_acts (g n : Byte) : OwnerActs s (reqSetSegment g n s).state := by
  refine ownerActs_ite (fun _ => .nothing) fun _ => ?_
  split
  · exact .nothing
  · exact ownerActs_ite (fun _ => .plainSet _ rfl rfl rfl rfl) fun _ => .nothing

theorem reqSetPoint_acts (p e g a c i : Byte) : OwnerActs s (reqSetPoint p e g a c i s).state := by
  refine ownerActs_ite (fun _ => .nothing) fun _ => ?_
  split
  · exact .nothing
  · refine ownerActs_ite (fun _ => .nothing) fun _ => ?_
    split
    · exact .nothing
    · exact ownerActs_ite (fun _ => .nothing) fun _ => ownerActs_ite (fun _ => .nothing) fun _ =>
        .plainSet _ rfl rfl rfl rfl

theorem handleSetPoint_acts (payload : List Byte) : OwnerActs s (handleSetPoint payload s).state := by
  unfold handleSetPoint
  split
  · exact reqSetPoint_acts s _ _ _ _ _ _
  · exact .nothing

theorem reqSetChannel_acts (c trim : Byte) (l h : Half) : OwnerActs s (reqSetChannel c trim l h s).state := by
  refine ownerActs_ite (fun _ => .nothing) fun _ => ?_
  split
  · exact .nothing
  · exact ownerActs_ite (fun _ => .plainSet _ rfl rfl rfl rfl) fun _ => .nothing

theorem handleSetChannel_acts (payload : List Byte) : OwnerActs s (handleSetChannel payload s).state := by
  unfold handleSetChannel
  split
  · exact reqSetChannel_acts s _ _ _ _
  · exact .nothing

theorem reqSetScan_acts (l : List Byte) : OwnerActs s (reqSetScan l s).state := by
  refine ownerActs_ite (fun _ => .nothing) fun _ => ownerActs_ite (fun _ => .nothing) fun _ => ?_
  split
  · exact .nothing
  · exact ownerActs_ite (fun _ => .nothing) fun _ => ownerActs_ite (fun _ => .nothing) fun _ =>
      .plainSet _ rfl rfl rfl rfl

theorem handleSetScan_acts (payload : List Byte) : OwnerActs s (handleSetScan payload s).state := by
  unfold handleSetScan
  split
  · exact .nothing
  · exact ownerActs_ite (fun _ => reqSetScan_acts s _) fun _ => .nothing

theorem reqSetOutput_acts (o l p : Byte) (v : Half) : OwnerActs s (reqSetOutput o l p v s).state := by
  refine ownerActs_ite (fun _ => .nothing) fun _ => ?_
  split
  · exact .nothing
  · split
    · exact .nothing
    · exact ownerActs_ite (fun _ => ownerActs_answer (.outputsSet _ rfl)) fun _ => .nothing

theorem handleSetOutput_acts (payload : List Byte) : OwnerActs s (handleSetOutput payload s).state := by
  unfold handleSetOutput
  split
  · exact reqSetOutput_acts s _ _ _ _
  · exact .nothing

theorem reqSetInput_acts (i p d : Byte) : OwnerActs s (reqSetInput i p d s).state := by
  refine ownerActs_ite (fun _ => .nothing) fun _ => ?_
  split
  · refine ownerActs_ite (fun _ => ?_) fun _ => .nothing
    change OwnerActs s (ite _ _ _)
    split
    · exact .plainSet _ rfl rfl rfl rfl
    · exact .inputInverted _ _ rfl rfl rfl
  · exact .nothing

theorem reqSetSource_acts (x c m : Byte) : OwnerActs s (reqSetSource x c m s).state := by
  refine ownerActs_ite (fun _ => .nothing) fun _ => ?_
  split
  · change OwnerActs s (ite _ _ _)
    split
    · refine .classSet _ rfl rfl rfl fun y => ?_
      rw [Tab.at_put]
      split
      · simp_all
      · rfl
    · exact .maskSet _ rfl rfl rfl
  · exact .nothing

theorem reqSetResolver_acts (l : Byte) : OwnerActs s (reqSetResolver l s).state :=
  ownerActs_ite (fun _ => .nothing) fun _ => ownerActs_ite (fun _ => .plainSet _ rfl rfl rfl rfl) fun _ => .nothing

theorem reqSave_acts : OwnerActs s (reqSave s).state := ownerActs_ite (fun _ => .nothing) fun _ => .saveStarted

theorem reqRestart_acts : OwnerActs s (reqRestart s).state := ownerActs_ite (fun _ => .nothing) fun _ => .restartAccepted

/-- Every request is answered by one of the owners' actions. -/
theorem handleRequest_acts (f : Frame) : OwnerActs s (handleRequest f s).state := by
  unfold handleRequest
  split
  · exact take1_acts (reqGetStatus_acts s) _
  · exact take1_acts (reqGetCoil_acts s) _
  · exact take1_acts (reqGetUnit_acts s) _
  · exact take3_acts (reqGetPoints_acts s) _
  · exact take0_acts .nothing _
  · exact take1_acts (reqGetTrip_acts s) _
  · exact take0_acts .nothing _
  · exact handlePutDemand_acts s _
  · exact take1_acts (reqAckSource_acts s) _
  · exact take0_acts (reqAckTop_acts s) _
  · exact handleTripReset_acts s _
  · exact take1_acts (reqSetMode_acts s) _
  · exact take2_acts (reqForceStage_acts s) _
  · exact take1_acts (reqReleaseStage_acts s) _
  · exact handleSetCoil_acts s _
  · exact handleSetUnit_acts s _
  · exact take2_acts (reqSetSegment_acts s) _
  · exact handleSetPoint_acts s _
  · exact handleSetChannel_acts s _
  · exact handleSetScan_acts s _
  · exact handleSetOutput_acts s _
  · exact take3_acts (reqSetInput_acts s) _
  · exact take3_acts (reqSetSource_acts s) _
  · exact take1_acts (reqSetResolver_acts s) _
  · exact take0_acts (reqSave_acts s) _
  · exact take0_acts (reqRestart_acts s) _
  · exact .nothing

end

end Sys2Proof.Machine
end

section
/-! PROOF. What a step may be, and the steps' settled end, the bounds of the link, the order of the alert collections, the range of
exposure and the order of the store's queue. -/

namespace Sys2Proof.Machine

open Sys2Proof

/-! ## What a step may be -/

/-- What an event of a running part's blocks other than the link leaves before its end. -/
inductive BlockActs (s : State) : State → Prop
  | phaseCompletes (same : Bool) : BlockActs s (s.phaseCompletes same)
  | phaseExpires : BlockActs s s.phaseExpires
  | conversionEnds (code : Nat) : BlockActs s (s.conversionEnds code)
  | frameTimerExpires (g : Fin 3) : BlockActs s (s.frameTimerExpires g)
  | attemptEnds (g : Fin 3) (r : PointResult) : BlockActs s (s.attemptEnds g r)
  | attemptStuck (g : Fin 3) : BlockActs s (s.attemptStuck g)
  | recoveryEnds (g : Fin 3) (freed : Bool) : BlockActs s (s.recoveryEnds g freed)
  | holdDownExpires (k : Fin 6) : BlockActs s (s.holdDownExpires k)
  | proveExpires (k : Fin 6) : BlockActs s (s.proveExpires k)
  | strokeExpired (u : Fin 3) : BlockActs s (s.strokeExpired u)
  | fanExpired (u : Fin 3) : BlockActs s (s.fanExpired u)
  | holdOffExpired (u : Fin 3) : BlockActs s (s.holdOffExpired u)
  | lifetimeExpires (o : Fin 18) : BlockActs s (s.lifetimeExpires o)
  | pinMoves (i : Fin 15) (high : Bool) : BlockActs s ((s.setPin i high).levelChanged i)
  | debounceExpires (i : Fin 15) : BlockActs s (s.debounceExpires i)

/-- What any event of a running part leaves before its end. -/
inductive EventActs (s : State) : State → Prop
  | block {t : State} (h : BlockActs s t) : EventActs s t
  | byte (b : Byte) : EventActs s (s.receiveByte b)
  | sent : EventActs s s.itemSent
  | request (f : Frame) : EventActs s (s.receiveFrame f)

/-- What a command leaves, by the condition of the part. -/
inductive Took (s : State) : State → Prop
  | nothing : Took s s
  | startBegins (cold : Bool) : Took s (s.beginStart cold)
  | powerLost : Took s { s.abandonJob with power := .off }
  | pinMoves (i : Fin 15) (high : Bool) (stopped : s.power ≠ .running) : Took s (s.setPin i high)
  | startCompletes (cold : Bool) (strap : Strap) (starting : s.power = .starting cold) :
      Took s (s.completeStart cold strap).conclude
  | secondPasses (running : s.power = .running) : Took s s.advanceSeconds.countTimers
  | gapExpires (running : s.power = .running) : Took s s.gapExpires
  | event {t : State} (running : s.power = .running) (h : EventActs s t) : Took s t.conclude

theorem whileRunning_took {s t : State} {act : State → State} (h : whileRunning s act = .next t)
    (acts : s.power = .running → Took s (act s)) : Took s t := by
  unfold whileRunning at h
  split at h
  · cases h
    exact acts ‹_›
  · cases h
    exact .nothing
  · cases h
    exact .nothing

theorem arrive_took {s t : State} {kind tag : Byte} {payload : List Byte} (h : arrive kind tag payload s = .next t) :
    Took s t :=
  whileRunning_took h fun running => .event running (.request _)

theorem arriveSized_took {s t : State} {kind tag : Byte} {payload : List Byte}
    (h : arriveSized kind tag payload s = .next t) : Took s t := by
  unfold arriveSized at h
  split at h
  · exact arrive_took h
  · cases h

theorem inputLevelChange_took {s t : State} {i : Fin 15} {high : Bool} (h : execInputLevelChange i high s = .next t) :
    Took s t := by
  unfold execInputLevelChange at h
  split at h
  · cases h
    exact .nothing
  · unfold whileRunning at h
    split at h
    · cases h
      exact .event ‹_› (.block (.pinMoves i high))
    · rename_i starting
      cases h
      exact .pinMoves i high fun running => by simp [running] at starting
    · rename_i off
      cases h
      exact .pinMoves i high fun running => by simp [running] at off

/-- A command that stands for one of the blocks' events. -/
theorem blockEvent_took {s t : State} {act : State → State} (acts : BlockActs s (act s))
    (h : whileRunning s (fun s => (act s).conclude) = .next t) : Took s t :=
  whileRunning_took h fun running => .event running (.block acts)

theorem startComplete_took {s t : State} {strap : Strap} (h : execStartComplete strap s = .next t) : Took s t := by
  unfold execStartComplete at h
  split at h <;> obtain rfl := Host.Outcome.next.inj h
  · exact .startCompletes _ strap ‹_›
  · exact .nothing
  · exact .nothing

theorem coldStart_took {s t : State} (h : execColdStart s = .next t) : Took s t := by
  obtain rfl := Host.Outcome.next.inj h
  exact .startBegins true

theorem powerLoss_took {s t : State} (h : execPowerLoss s = .next t) : Took s t := by
  obtain rfl := Host.Outcome.next.inj h
  exact .powerLost

theorem warmStart_took {s t : State} (h : execWarmStart s = .next t) : Took s t := by
  refine whileRunning_took h fun _ => ?_
  split
  · exact .startBegins false
  · exact .nothing

theorem storePhaseComplete_took {s t : State} {c : Completion} (h : execStorePhaseComplete c s = .next t) : Took s t := by
  cases c with
  | late => exact whileRunning_took h fun _ => .nothing
  | ofPhase same => exact blockEvent_took (.phaseCompletes same) h

/-- Every command does what `Took` lists. -/
theorem exec_took {c : Instr} {s t : State} (h : exec c s = .next t) : Took s t := by
  cases c with
  | coldStart => exact coldStart_took h
  | warmStart => exact warmStart_took h
  | startComplete strap => exact startComplete_took h
  | plantSecondTick => exact whileRunning_took (act := fun s => s.advanceSeconds.countTimers) h .secondPasses
  | rxByte b =>
    exact whileRunning_took (act := fun s => (s.receiveByte b).conclude) h fun running => .event running (.byte b)
  | gapTimerExpiry => exact whileRunning_took (act := State.gapExpires) h .gapExpires
  | txItemSent =>
    exact whileRunning_took (act := fun s => s.itemSent.conclude) h fun running => .event running .sent
  | unknownRequest _ _ _ => exact arriveSized_took h
  | putDemand _ _ => exact arriveSized_took h
  | setScan _ _ => exact arriveSized_took h
  | storePhaseComplete completion => exact storePhaseComplete_took h
  | storePhaseLimitExpiry => exact blockEvent_took (act := State.phaseExpires) .phaseExpires h
  | conversionComplete code => exact blockEvent_took (act := (·.conversionEnds code.toNat)) (.conversionEnds code.toNat) h
  | frameTimerExpiry g => exact blockEvent_took (act := (·.frameTimerExpires g)) (.frameTimerExpires g) h
  | readPointComplete g reply => exact blockEvent_took (act := (·.attemptEnds g (replyResult reply))) (.attemptEnds g (replyResult reply)) h
  | clockHoldTimeout g => exact blockEvent_took (act := (·.attemptEnds g .timeout)) (.attemptEnds g .timeout) h
  | dataHeldTimeout g => exact blockEvent_took (act := (·.attemptStuck g)) (.attemptStuck g) h
  | recoveryComplete g freed => exact blockEvent_took (act := (·.recoveryEnds g freed)) (.recoveryEnds g freed) h
  | holdDownExpiry k => exact blockEvent_took (act := (·.holdDownExpires k)) (.holdDownExpires k) h
  | proveTimerExpiry k => exact blockEvent_took (act := (·.proveExpires k)) (.proveExpires k) h
  | strokeTimerExpiry u => exact blockEvent_took (act := (·.strokeExpired u)) (.strokeExpired u) h
  | fanTimerExpiry u => exact blockEvent_took (act := (·.fanExpired u)) (.fanExpired u) h
  | holdOffExpiry u => exact blockEvent_took (act := (·.holdOffExpired u)) (.holdOffExpired u) h
  | demandLifetimeExpiry o => exact blockEvent_took (act := (·.lifetimeExpires o)) (.lifetimeExpires o) h
  | inputLevelChange i high => exact inputLevelChange_took h
  | debounceExpiry i => exact blockEvent_took (act := (·.debounceExpires i)) (.debounceExpires i) h
  | powerLoss => exact powerLoss_took h
  | _ => exact arrive_took h

/-- A predicate that does not read the queue of commands is kept by every step where every command keeps it. -/
theorem step_keeps {P : State → Prop} (pend : ∀ s l, P s → P (s.setPending l)) (took : ∀ s t, P s → Took s t → P t) :
    ∀ s t, P s → step s = .next t → P t := by
  intro s t hs h
  unfold step at h
  split at h
  · cases h
    exact hs
  · exact took _ _ (pend _ _ hs) (exec_took h)

/-! ## Every step settles (O3) -/

theorem conclude_is_settled (s : State) : s.conclude.settled := by
  have frame (t : State) : t.beginHead.alerts = t.alerts := by
    unfold State.beginHead
    split <;> rfl
  refine ⟨?_, beginHead_begins _, rfl⟩
  rw [State.conclude, State.driveAlertLine, frame]
  exact runSelection_done s

/-- The line's level rests on the resolver and the masks alone. -/
theorem settled_congr {s t : State} (alerts : t.alerts = s.alerts) (link : t.link = s.link) (line : t.alertLine = s.alertLine)
    (tables : t.tables = s.tables) (h : s.settled) : t.settled := by
  obtain ⟨due, begun, level⟩ := h
  refine ⟨by rw [alerts]; exact due, ?_, ?_⟩
  · unfold State.headBegun
    rw [link]
    exact begun
  · unfold State.alertLineLevel
    rw [line, alerts, tables]
    exact level

theorem advanceSeconds_eq (s : State) :
    s.advanceSeconds =
      { s with plantSeconds := s.advanceSeconds.plantSeconds, freeUses := s.advanceSeconds.freeUses } := by
  unfold State.advanceSeconds
  split <;> rfl

/-- A second that passes touches the clock and the timers of seconds alone. -/
theorem secondPasses_eq (s : State) :
    s.advanceSeconds.countTimers =
      { s with
        plantSeconds := s.advanceSeconds.plantSeconds, freeUses := s.advanceSeconds.freeUses,
        coils := s.coils.each fun r => { r with holdDown := countDown r.holdDown, proveTimer := countDown r.proveTimer },
        units := s.units.each fun r =>
          { r with stroke := countDown r.stroke, fan := countDown r.fan, holdOff := countDown r.holdOff },
        demands := s.demands.each fun r => { r with timer := countDown r.timer } } := by
  rw [advanceSeconds_eq]
  rfl

theorem abandonJob_eq (s : State) :
    s.abandonJob = { s with store := Store.idle, image := s.abandonJob.image, area := s.abandonJob.area } := by
  unfold State.abandonJob
  dsimp only
  split
  · rfl
  · split <;> rfl

/-- The gap timer's expiry touches the receiver and the error count alone. -/
theorem gapExpires_eq (s : State) : s.gapExpires = s.setLink { s.link with
    receiver := s.gapExpires.link.receiver, errorCount := s.gapExpires.link.errorCount,
    lastError := s.gapExpires.link.lastError } := by
  unfold State.gapExpires
  split <;> rfl

theorem beginStart_is_settled (s : State) (cold : Bool) : (s.beginStart cold).settled := by
  refine ⟨rfl, trivial, ?_⟩
  change false = State.alertLineLevel (s.beginStart cold)
  simp [State.alertLineLevel, State.beginStart, Alerts.start]

/-- Settles O3: an event ends with `conclude`, and the commands that are no event leave the resolver, the queue and the masks, or
empty them. -/
theorem everyStepSettlesAndDrivesTheAlertLine : Obligations.EveryStepSettlesAndDrivesTheAlertLine := by
  refine step_keeps (fun s l => id) fun s t hs h => ?_
  cases h with
  | nothing => exact hs
  | startBegins cold => exact beginStart_is_settled s cold
  | powerLost => rw [abandonJob_eq]; exact hs
  | pinMoves i high _ => exact hs
  | startCompletes cold strap _ => exact conclude_is_settled _
  | secondPasses _ => rw [secondPasses_eq]; exact settled_congr rfl rfl rfl rfl hs
  | gapExpires _ => rw [gapExpires_eq]; exact ⟨hs.1, hs.2.1, hs.2.2⟩
  | event _ _ => exact conclude_is_settled _

/-! ## The alert collections (R141, R143, R144) -/

/-- The resolver's collections in order: `State.alertsOrdered`, which reads nothing else. -/
def Alerts.ordered (a : Alerts) : Prop :=
  a.stack.Pairwise (fun above below => above.cls < below.cls) ∧
  (∀ x, (a.sources.at x).membership = .inService ↔ ∃ e ∈ a.stack, e.source = x) ∧
  (∀ x, (a.sources.at x).membership = .standing → isLevel x = true) ∧
  (∀ x, isLevel x = true → (a.sources.at x).membership = .pending ∨ (a.sources.at x).membership = .standing →
    (a.sources.at x).condition = true)

/-- What the blocks hand to the resolver: edges of edge sources, conditions of level sources, and the events that call for a
selection. -/
inductive Alerts.Hears (a : Alerts) : Alerts → Prop
  | refl : a.Hears a
  | edge {b : Alerts} (h : a.Hears b) {x : Fin 65} (hx : isLevel x = false) : a.Hears (b.raiseEdge x)
  | level {b : Alerts} (h : a.Hears b) {x : Fin 65} (c : Bool) (hx : isLevel x = true) : a.Hears (b.handLevel x c)
  | due {b : Alerts} (h : a.Hears b) : a.Hears { b with selectionDue := true }

theorem Alerts.Hears.trans {a b c : Alerts} (h : a.Hears b) (h' : b.Hears c) : a.Hears c := by
  induction h' with
  | refl => exact h
  | edge _ hx ih => exact ih.edge hx
  | level _ c hx ih => exact ih.level c hx
  | due _ ih => exact ih.due

theorem Alerts.ordered_raiseEdge {a : Alerts} {x : Fin 65} (hx : isLevel x = false) (h : a.ordered) :
    (a.raiseEdge x).ordered := by
  rcases a.raiseEdge_cases x with ⟨none, e⟩ | ⟨-, e⟩ <;> rw [e]
  · obtain ⟨sorted, served, standing, true_⟩ := h
    refine ⟨sorted, fun y => ?_, fun y => ?_, fun y => ?_⟩ <;> rw [Alerts.move_at] <;> split
    · rename_i hy
      rw [Alerts.move_stack, ← served, hy, none]
      simp
    · exact served y
    · simp
    · exact standing y
    · rename_i hy
      rw [hy, hx]
      simp
    · exact true_ y
  · exact h

theorem Alerts.ordered_handLevel {a : Alerts} {x : Fin 65} (hx : isLevel x = true) (c : Bool) (h : a.ordered) :
    (a.handLevel x c).ordered := by
  obtain ⟨sorted, served, standing, true_⟩ := h
  refine ⟨by rw [Alerts.handLevel_stack]; exact sorted,
    fun y => by rw [Alerts.handLevel_inService, Alerts.handLevel_stack, served], fun y => ?_, fun y ly => ?_⟩
  · by_cases hy : y = x
    · rw [hy]; exact fun _ => hx
    · rw [Alerts.handLevel_other a hy]; exact standing y
  · by_cases hy : y = x
    · subst hy
      rw [Alerts.handLevel_condition]
      rcases a.handLevel_cases y c with ⟨same, e⟩ | ⟨-, ⟨hc, -, e⟩ | ⟨-, -, e⟩ | ⟨hm, e⟩⟩ <;> rw [e]
      · exact fun hm => same.symm.trans (true_ y ly hm)
      · exact fun _ => hc
      · simp [Alerts.move_at]
      · rcases hm with ⟨hc, -⟩ | ⟨-, np, ns⟩
        · exact fun _ => hc
        · simp [Alerts.record_at, np, ns]
    · rw [Alerts.handLevel_other a hy]; exact true_ y ly

theorem Alerts.Hears.ordered {a b : Alerts} (h : a.Hears b) (ha : a.ordered) : b.ordered := by
  induction h with
  | refl => exact ha
  | edge _ hx ih => exact Alerts.ordered_raiseEdge hx ih
  | level _ c hx ih => exact Alerts.ordered_handLevel hx c ih
  | due _ ih => exact ih

theorem Alerts.ordered_acknowledge {a : Alerts} (x : Fin 65) (h : a.ordered) : (a.acknowledge x).ordered := by
  obtain ⟨sorted, served, standing, true_⟩ := h
  have self := a.acknowledge_self x
  have condition : ((a.acknowledge x).sources.at x).condition = (a.sources.at x).condition := by
    simp [Alerts.acknowledge, Alerts.move_at]
  have in_stack (y : Fin 65) : (∃ e ∈ (a.acknowledge x).stack, e.source = y) ↔ y ≠ x ∧ ∃ e ∈ a.stack, e.source = y := by
    simp only [Alerts.acknowledge_stack, List.mem_filter, bne_iff_ne]
    grind
  refine ⟨sorted.filter _, fun y => ?_, fun y => ?_, fun y level => ?_⟩
  all_goals
    by_cases hy : y = x
    on_goal 2 => rw [Alerts.acknowledge_other a hy]
  · subst hy
    rw [self, in_stack]
    split <;> simp
  · rw [in_stack, served]
    simp [hy]
  · subst hy
    rw [self]
    split <;> simp_all
  · exact standing y
  · subst hy
    rw [self, condition]
    split <;> simp_all
  · exact true_ y level

end Sys2Proof.Machine
end

section
/-! PROOF. What every event of the blocks keeps: the link, the order of the alert collections, the range of exposure and the order
of the store's queue; and the invariants of every step that follow. -/

namespace Sys2Proof.Machine

open Sys2Proof

/-! ## What the blocks' operations keep -/

/-- `t` keeps the link of `s`, its resolver has heard edges and levels alone, and it keeps the bounds of exposure and the order of
the store's queue. -/
structure Tame (s t : State) : Prop where
  link : t.link = s.link
  hears : s.alerts.Hears t.alerts
  exposure : s.exposureBounded → t.exposureBounded
  store : s.storeOrdered → t.storeOrdered

theorem Tame.refl (s : State) : Tame s s := ⟨rfl, .refl, id, id⟩

theorem Tame.trans {s t u : State} (h : Tame s t) (h' : Tame t u) : Tame s u :=
  ⟨h'.link.trans h.link, h.hears.trans h'.hears, h'.exposure ∘ h.exposure, h'.store ∘ h.store⟩

/-- An update of anything but the link, the resolver, the exposure records and the store. -/
theorem Tame.of_eq {s t : State} (link : t.link = s.link) (alerts : t.alerts = s.alerts)
    (exposures : t.exposures = s.exposures) (store : t.store = s.store) : Tame s t :=
  ⟨link, by rw [alerts]; exact .refl, by unfold State.exposureBounded; rw [exposures]; exact id,
    by unfold State.storeOrdered; rw [store]; exact id⟩

theorem tame_setCoil (s : State) (k : Fin 6) (r : CoilSeq) : Tame s (s.setCoil k r) := .of_eq rfl rfl rfl rfl
theorem tame_setFace (s : State) (k : Fin 6) (r : Face) : Tame s (s.setFace k r) := .of_eq rfl rfl rfl rfl
theorem tame_setDetector (s : State) (k : Fin 6) (r : Detector) : Tame s (s.setDetector k r) := .of_eq rfl rfl rfl rfl
theorem tame_setUnit (s : State) (u : Fin 3) (r : UnitRec) : Tame s (s.setUnit u r) := .of_eq rfl rfl rfl rfl
theorem tame_setMaster (s : State) (g : Fin 3) (r : Master) : Tame s (s.setMaster g r) := .of_eq rfl rfl rfl rfl
theorem tame_setHealth (s : State) (p : Fin 48) (r : Health) : Tame s (s.setHealth p r) := .of_eq rfl rfl rfl rfl
theorem tame_setChannel (s : State) (c : Fin 16) (r : ChannelRec) : Tame s (s.setChannel c r) := .of_eq rfl rfl rfl rfl
theorem tame_setDemand (s : State) (o : Fin 18) (r : Demand) : Tame s (s.setDemand o r) := .of_eq rfl rfl rfl rfl
theorem tame_setInput (s : State) (i : Fin 15) (r : InputRec) : Tame s (s.setInput i r) := .of_eq rfl rfl rfl rfl
theorem tame_setPin (s : State) (i : Fin 15) (b : Bool) : Tame s (s.setPin i b) := .of_eq rfl rfl rfl rfl
theorem tame_setTables (s : State) (t : Tables) : Tame s (s.setTables t) := .of_eq rfl rfl rfl rfl
theorem tame_setOutputs (s : State) (o : Outputs) : Tame s (s.setOutputs o) := .of_eq rfl rfl rfl rfl

theorem exposureBounded_setExposure {s : State} {k : Fin 6} {r : Exposure} (h : s.exposureBounded)
    (hr : r.e ≤ Config.maxExposure ∧ r.confirm ≤ 4) : (s.setExposure k r).exposureBounded := by
  intro j
  rw [State.setExposure_exposures, Tab.at_put]
  split
  · exact hr
  · exact h j

theorem tame_setExposure {s : State} {k : Fin 6} {r : Exposure}
    (hr : s.exposureBounded → r.e ≤ Config.maxExposure ∧ r.confirm ≤ 4) : Tame s (s.setExposure k r) :=
  ⟨rfl, .refl, fun h => exposureBounded_setExposure h (hr h), id⟩

theorem tame_setStore {s : State} {t : Store}
    (ordered : s.storeOrdered → t.job = none → t.pendingSave = none ∧ t.pendingLockout = false) : Tame s (s.setStore t) :=
  ⟨rfl, .refl, id, ordered⟩

theorem tame_raiseEdge (s : State) {x : Fin 65} (hx : isLevel x = false) : Tame s (s.raiseEdge x) :=
  ⟨rfl, .edge .refl hx, id, id⟩

theorem tame_handLevel (s : State) {x : Fin 65} (c : Bool) (hx : isLevel x = true) : Tame s (s.handLevel x c) :=
  ⟨rfl, .level .refl c hx, id, id⟩

theorem tame_noteSelection (s : State) : Tame s s.noteSelection := ⟨rfl, .due .refl, id, id⟩

theorem tame_foldl {α : Type} (f : State → α → State) (h : ∀ s a, Tame s (f s a)) (l : List α) (s : State) :
    Tame s (l.foldl f s) := by
  induction l generalizing s with
  | nil => exact .refl s
  | cons a l ih => exact (h s a).trans (ih (f s a))

theorem tame_ite {c : Prop} [Decidable c] {s a b : State} (ha : Tame s a) (hb : Tame s b) : Tame s (if c then a else b) := by
  split
  · exact ha
  · exact hb

/-! ### The kinds of the sources (R140) -/

@[simp] theorem isLevel_srcAdvise1 (k : Fin 6) : isLevel (srcAdvise1 k) = false := by revert k; decide
@[simp] theorem isLevel_srcAdvise2 (k : Fin 6) : isLevel (srcAdvise2 k) = false := by revert k; decide
@[simp] theorem isLevel_srcTrip (k : Fin 6) : isLevel (srcTrip k) = true := by revert k; decide
@[simp] theorem isLevel_srcLockout (k : Fin 6) : isLevel (srcLockout k) = true := by revert k; decide
@[simp] theorem isLevel_srcBlind (k : Fin 6) : isLevel (srcBlind k) = true := by revert k; decide
@[simp] theorem isLevel_srcRagged (k : Fin 6) : isLevel (srcRagged k) = false := by revert k; decide
@[simp] theorem isLevel_srcPumpFail (k : Fin 6) : isLevel (srcPumpFail k) = true := by revert k; decide
@[simp] theorem isLevel_srcWaterCold (k : Fin 6) : isLevel (srcWaterCold k) = false := by revert k; decide
@[simp] theorem isLevel_srcSecured (u : Fin 3) : isLevel (srcSecured u) = false := by revert u; decide
@[simp] theorem isLevel_srcSecureFault (u : Fin 3) : isLevel (srcSecureFault u) = true := by revert u; decide
@[simp] theorem isLevel_srcBusFault (u : Fin 3) : isLevel (srcBusFault u) = true := by revert u; decide
@[simp] theorem isLevel_srcDemandStale (u : Fin 3) : isLevel (srcDemandStale u) = true := by revert u; decide

/-! ### The sequencers, the Merge and the engine -/

theorem tame_lockoutChange (s : State) : Tame s s.lockoutChange := by
  rcases lockoutChange_cases s with ⟨-, e⟩ | ⟨j, job, e⟩ <;> rw [e]
  · exact tame_setStore fun _ none => by simp at none
  · exact tame_setStore fun _ none => by simp [job] at none

theorem Moves.tame {k : Fin 6} {u : Fin 3} {s t : State} (h : Moves k u s t) : Tame s t := by
  induction h with
  | refl => exact .refl s
  | coil _ r ih => exact ih.trans (tame_setCoil _ _ _)
  | prove _ j p n ih => exact ih.trans (tame_setCoil _ _ _)
  | exposure _ r bounded ih => exact ih.trans (tame_setExposure bounded)
  | unit _ r ih => exact ih.trans (tame_setUnit _ _ _)
  | outputs _ o ih => exact ih.trans (tame_setOutputs _ _)
  | edge _ hx ih => exact ih.trans (tame_raiseEdge _ (by rcases hx with rfl | rfl | rfl <;> simp))
  | level _ c hx ih => exact ih.trans (tame_handLevel _ c (by rcases hx with rfl | rfl | ⟨j, rfl⟩ | rfl <;> simp))
  | lockout _ ih => exact ih.trans (tame_lockoutChange _)

theorem tame_recompute (s : State) : Tame s s.recompute := (moves_recompute 0 0 s).tame
theorem tame_unitEvent (s : State) (u : Fin 3) : Tame s (s.unitEvent u) := (moves_unitEvent 0 u s).tame
theorem tame_writeCoil (s : State) (k : Fin 6) (r : CoilSeq) : Tame s (s.writeCoil k r) := (moves_writeCoil k s r).tame

theorem tame_handDemandsStale (s : State) : Tame s s.handDemandsStale :=
  tame_foldl _ (fun s u => tame_handLevel s _ (by simp)) _ s

theorem tame_localReset (s : State) (u : Fin 3) : Tame s (s.localReset u) :=
  tame_foldl _ (fun s k => (moves_localResetCoil k s u).tame) _ s

theorem tame_applyDemands (s : State) (l : List (Fin 18 × Half)) : Tame s (s.applyDemands l) :=
  (tame_foldl State.applyDemand (fun s _ => tame_setDemand s _ _) l s).trans
    (tame_foldl State.refreshDemand (fun s _ => tame_setDemand s _ _) l _)

theorem tame_lifetimeExpires (s : State) (o : Fin 18) : Tame s (s.lifetimeExpires o) := by
  unfold State.lifetimeExpires
  dsimp only
  split
  · exact .refl s
  · exact ((tame_setDemand s _ _).trans (tame_recompute _)).trans (tame_handDemandsStale _)

theorem tame_strokeExpired (s : State) (u : Fin 3) : Tame s (s.strokeExpired u) := by
  unfold State.strokeExpired
  split
  · exact (moves_strokeExpires 0 u s).tame.trans (tame_recompute _)
  · exact .refl s

theorem tame_fanExpired (s : State) (u : Fin 3) : Tame s (s.fanExpired u) := by
  unfold State.fanExpired
  split
  · exact (moves_fanExpires 0 u s).tame.trans (tame_recompute _)
  · exact .refl s

theorem tame_holdOffExpired (s : State) (u : Fin 3) : Tame s (s.holdOffExpired u) := by
  unfold State.holdOffExpired
  split
  · exact (tame_setUnit s u _).trans (tame_recompute _)
  · exact .refl s

/-! ### Faces and the bus masters -/

theorem tame_handRagged (s : State) (k : Fin 6) : Tame s (s.handRagged k) :=
  tame_ite (tame_raiseEdge s (by simp)) (.refl s)

theorem tame_closeCoilFrame (s : State) (k : Fin 6) (l : List SnapEntry) (n : Nat) : Tame s (s.closeCoilFrame k l n) :=
  (((tame_setFace s k _).trans (tame_handRagged _ k)).trans (tame_handLevel _ _ (by simp))).trans
    (moves_frameUpdate k _ _).tame

theorem tame_closeFrame (s : State) (g : Fin 3) : Tame s (s.closeFrame g) :=
  tame_foldl _ (fun s k => tame_ite (tame_closeCoilFrame s k _ _) (.refl s)) _ s

theorem tame_giveResult (g : Fin 3) (r : PointResult) (s : State) (p : Fin 48) : Tame s (State.giveResult g r s p) :=
  (tame_setMaster s g _).trans (tame_setHealth _ p _)

theorem tame_giveRest (s : State) (g : Fin 3) (r : PointResult) : Tame s (s.giveRest g r) :=
  tame_foldl _ (tame_giveResult g r) _ s

theorem tame_openFrame (s : State) (g : Fin 3) : Tame s (s.openFrame g) := tame_setMaster s g _

theorem tame_setMasterState (s : State) (g : Fin 3) (st : MasterState) : Tame s (s.setMasterState g st) := tame_setMaster s g _

theorem tame_countCut (s : State) (g : Fin 3) : Tame s (s.countCut g) := tame_ite (.refl s) (tame_setMaster s g _)

theorem tame_goOn (s : State) (g : Fin 3) : Tame s (s.goOn g) :=
  tame_ite
    (((((tame_countCut s g).trans (tame_giveRest _ g _)).trans (tame_setMasterState _ g _)).trans
      (tame_closeFrame _ g)).trans (tame_openFrame _ g))
    (tame_ite ((tame_setMasterState s g _).trans (tame_closeFrame _ g)) (.refl s))

theorem tame_attemptEnds (s : State) (g : Fin 3) (r : PointResult) : Tame s (s.attemptEnds g r) := by
  unfold State.attemptEnds
  split
  · exact .refl s
  · exact (tame_giveResult g r s _).trans (tame_goOn _ g)

theorem tame_attemptStuck (s : State) (g : Fin 3) : Tame s (s.attemptStuck g) := by
  unfold State.attemptStuck
  split
  · exact .refl s
  · exact (tame_giveResult g _ s _).trans (tame_setMasterState _ g _)

theorem tame_setBusFault (s : State) (g : Fin 3) (v : Bool) : Tame s (s.setBusFault g v) :=
  (tame_setMaster s g _).trans (tame_handLevel _ _ (by simp))

theorem tame_recoveryFails (s : State) (g : Fin 3) : Tame s (s.recoveryFails g) := by
  have closed := (((tame_setMasterState s g .faulted).trans (tame_setBusFault _ g true)).trans
    (tame_giveRest _ g .segmentFault)).trans (tame_closeFrame _ g)
  exact tame_ite (closed.trans (tame_openFrame _ g)) closed

theorem tame_recoveryEnds (s : State) (g : Fin 3) (freed : Bool) : Tame s (s.recoveryEnds g freed) := by
  unfold State.recoveryEnds
  split
  · exact tame_ite (((tame_setMasterState s g _).trans (tame_setBusFault _ g _)).trans (tame_goOn _ g))
      (tame_recoveryFails s g)
  all_goals exact .refl s

theorem tame_frameTimerExpires (s : State) (g : Fin 3) : Tame s (s.frameTimerExpires g) := by
  unfold State.frameTimerExpires
  dsimp only
  split
  · exact .refl s
  · split
    · exact (tame_setMaster s g _).trans (tame_openFrame _ g)
    · exact (tame_setMaster s g _).trans (tame_openFrame _ g)
    · exact (tame_setMaster s g _).trans (tame_setMaster _ g _)
    · exact (tame_setMaster s g _).trans (tame_setMaster _ g _)

/-! ### Inputs -/

theorem tame_deliver (s : State) (i : Fin 15) : Tame s (s.deliver i) := by
  unfold State.deliver
  dsimp only
  split
  · exact (moves_flowEvent _ s _).tame
  · split
    · exact (moves_proofEvent 0 _ s _ _).tame.trans (tame_recompute _)
    · split
      · exact (moves_proofEvent 0 _ s _ _).tame.trans (tame_recompute _)
      · exact tame_ite (tame_localReset s _) (.refl s)

theorem tame_adoptLevel (s : State) (i : Fin 15) : Tame s (s.adoptLevel i) :=
  (tame_setInput s i _).trans (tame_deliver _ i)

theorem tame_levelChanged (s : State) (i : Fin 15) : Tame s (s.levelChanged i) :=
  tame_ite (tame_setInput s i _) (tame_ite (tame_adoptLevel s i) (tame_setInput s i _))

theorem tame_debounceExpires (s : State) (i : Fin 15) : Tame s (s.debounceExpires i) := by
  unfold State.debounceExpires
  dsimp only
  split
  · exact .refl s
  · exact tame_ite (tame_setInput s i _) (tame_adoptLevel s i)

/-! ### The sampler -/

theorem tame_stepDetector (t : Int) (s : State) (k : Fin 6) : Tame s (State.stepDetector t s k) := by
  unfold State.stepDetector
  dsimp only
  split
  · exact tame_ite ((tame_setDetector s k _).trans (tame_raiseEdge _ (by simp))) (.refl s)
  · exact tame_ite (tame_setDetector s k _) (.refl s)

theorem tame_stepDetectors (s : State) (c : Fin 16) : Tame s (s.stepDetectors c) := by
  unfold State.stepDetectors
  split
  · exact .refl s
  · exact tame_foldl _ (tame_stepDetector _) _ s

theorem tame_handAnalogFault (s : State) : Tame s s.handAnalogFault := tame_handLevel s _ rfl

theorem tame_beginPass (s : State) : Tame s s.beginPass :=
  ((Tame.of_eq rfl rfl rfl rfl : Tame s { s with sampler := { passList := s.tables.scan, position := 1 } }).trans
    (tame_foldl State.dropChannel (fun s c => tame_setChannel s c _) _ _)).trans (tame_handAnalogFault _)

theorem tame_nextConversion (s : State) : Tame s s.nextConversion :=
  tame_ite (.of_eq rfl rfl rfl rfl) (tame_beginPass s)

theorem tame_conversionEnds (s : State) (code : Nat) : Tame s (s.conversionEnds code) := by
  unfold State.conversionEnds
  split
  · exact .refl s
  · exact (((tame_setChannel s _ _).trans (tame_stepDetectors _ _)).trans (tame_handAnalogFault _)).trans
      (tame_nextConversion _)

/-! ### The store -/

theorem tame_nextJob (s : State) : Tame s s.nextJob := by
  rcases nextJob_cases s with ⟨-, e⟩ | ⟨t, none_locked, -, e⟩ | ⟨none_locked, none_saved, e⟩ <;> rw [e]
  · exact tame_setStore fun _ none => by simp at none
  · exact tame_setStore fun _ none => by simp at none
  · exact tame_setStore fun _ _ => ⟨none_saved, none_locked⟩

theorem tame_startPhase (s : State) (j : Job) (p : StorePhase) : Tame s (s.startPhase j p) :=
  tame_setStore fun _ none => by simp at none

theorem tame_setImageInvalid (s : State) (v : Bool) : Tame s (s.setImageInvalid v) :=
  (Tame.of_eq rfl rfl rfl rfl : Tame s { s with imageInvalid := v }).trans (tame_handLevel _ v rfl)

theorem tame_imageFails (s : State) : Tame s s.imageFails :=
  (((Tame.of_eq rfl rfl rfl rfl : Tame s s.spoilImage).trans (tame_setImageInvalid _ true)).trans
    (tame_raiseEdge _ rfl)).trans (tame_nextJob _)

theorem tame_areaFails (s : State) : Tame s s.areaFails :=
  ((Tame.of_eq rfl rfl rfl rfl : Tame s { s with areaDirty := true }).trans (tame_raiseEdge _ rfl)).trans (tame_nextJob _)

theorem tame_imagePasses (s : State) (j : Job) : Tame s (s.imagePasses j) := by
  have told := (tame_setImageInvalid s false).trans (tame_raiseEdge _ (x := srcStoreDone) rfl)
  exact tame_ite (told.trans (tame_startPhase _ j _)) (told.trans (tame_nextJob _))

theorem tame_phaseCompletes (s : State) (same : Bool) : Tame s (s.phaseCompletes same) := by
  have image (i : Image) : Tame s { s with image := i } := .of_eq rfl rfl rfl rfl
  have area (a : Area) : Tame s { s with area := a } := .of_eq rfl rfl rfl rfl
  have dirty (v : Bool) : Tame s { s with areaDirty := v } := .of_eq rfl rfl rfl rfl
  unfold State.phaseCompletes
  split
  · exact .refl s
  · split
    · exact (image _).trans (tame_startPhase _ _ _)
    · split
      · exact (image _).trans (tame_startPhase _ _ _)
      · exact .refl s
    · exact tame_ite (tame_imagePasses s _) (tame_imageFails s)
    · exact (area _).trans (tame_startPhase _ _ _)
    · exact tame_ite ((dirty false).trans (tame_nextJob _)) ((area _).trans (tame_areaFails _))

theorem tame_phaseExpires (s : State) : Tame s s.phaseExpires := by
  have spoiled : Tame s s.spoilArea := .of_eq rfl rfl rfl rfl
  unfold State.phaseExpires
  split
  · exact .refl s
  · split
    · exact tame_imageFails s
    · exact tame_imageFails s
    · exact tame_imageFails s
    · exact spoiled.trans (tame_areaFails _)
    · exact tame_areaFails s

theorem tame_startSave (s : State) : Tame s s.startSave := by
  unfold State.startSave
  split
  · exact tame_setStore fun _ none => by simp at none
  · rename_i job
    exact tame_setStore fun _ none => by simp [job] at none

/-! ### Every event of the blocks -/

theorem BlockActs.tame {s t : State} (h : BlockActs s t) : Tame s t := by
  cases h with
  | phaseCompletes same => exact tame_phaseCompletes s same
  | phaseExpires => exact tame_phaseExpires s
  | conversionEnds code => exact tame_conversionEnds s code
  | frameTimerExpires g => exact tame_frameTimerExpires s g
  | attemptEnds g r => exact tame_attemptEnds s g r
  | attemptStuck g => exact tame_attemptStuck s g
  | recoveryEnds g freed => exact tame_recoveryEnds s g freed
  | holdDownExpires k => exact (moves_holdDownExpires k s).tame
  | proveExpires k => exact (moves_proveExpires k s).tame
  | strokeExpired u => exact tame_strokeExpired s u
  | fanExpired u => exact tame_fanExpired s u
  | holdOffExpired u => exact tame_holdOffExpired s u
  | lifetimeExpires o => exact tame_lifetimeExpires s o
  | pinMoves i high => exact (tame_setPin s i high).trans (tame_levelChanged _ i)
  | debounceExpires i => exact tame_debounceExpires s i

/-! ### Settings and modes -/

theorem exposure_start_bounded : Exposure.start.e ≤ Config.maxExposure ∧ Exposure.start.confirm ≤ 4 := by decide

theorem tame_placeCoil (s : State) (k : Fin 6) : Tame s (s.placeCoil k) :=
  tame_ite ((tame_setExposure (r := { Exposure.start with band := .trip }) fun _ => exposure_start_bounded).trans
      (tame_setCoil _ k _))
    ((tame_setExposure fun _ => exposure_start_bounded).trans (tame_setCoil _ k _))

theorem tame_handCoil (s : State) (k : Fin 6) : Tame s (s.handCoil k) :=
  ((tame_handLevel s _ (by simp)).trans (tame_handLevel _ _ (by simp))).trans (tame_handLevel _ _ (by simp))

theorem tame_handBlind (s : State) (k : Fin 6) : Tame s (s.handBlind k) := tame_handLevel s _ (by simp)

theorem tame_proveFresh (s : State) (k : Fin 6) : Tame s (s.proveFresh k) := by
  unfold State.proveFresh
  repeat' split
  all_goals exact (moves_setProve 0 0 s k _ _).tame

theorem tame_presenceChange (s : State) (k : Fin 6) (old new : CoilCfg) : Tame s (s.presenceChange k old new) :=
  tame_ite ((tame_setFace s k _).trans (tame_placeCoil _ k))
    (tame_ite ((tame_setExposure fun _ => exposure_start_bounded).trans (tame_writeCoil _ k _)) (.refl s))

theorem tame_leaveFrames (s : State) (k : Fin 6) (old new : CoilCfg) : Tame s (s.leaveFrames k old new) :=
  tame_ite (.of_eq rfl rfl rfl rfl) (.refl s)

theorem tame_readyDetector (s : State) (k : Fin 6) (old new : CoilCfg) : Tame s (s.readyDetector k old new) :=
  tame_ite (tame_setDetector s k _) (.refl s)

theorem tame_unitsConcerned (s : State) (old new : CoilCfg) : Tame s (s.unitsConcerned old new) :=
  tame_ite (.refl s) (tame_ite (tame_unitEvent s _) ((tame_unitEvent s _).trans (tame_unitEvent _ _)))

/-- The first part of an accepted SET-COIL: the record, the detector, the trimmed history, and what a presence change does to the
coil's own records and to the open frames. -/
def State.coilRecorded (s : State) (k : Fin 6) (new : CoilCfg) : State :=
  let t := (s.writeCoilCfg k new).readyDetector k (s.cfg k) new
  ((t.setCoil k { t.coils.at k with history := trimHistory (t.coils.at k).history new.lockoutLimit }).presenceChange k
    (s.cfg k) new).leaveFrames k (s.cfg k) new

/-- The second part: the coil's levels handed over, the units concerned moved and the outputs recomputed. -/
def State.coilMerged (s : State) (k : Fin 6) (old new : CoilCfg) : State :=
  (((s.handCoil k).handBlind k).unitsConcerned old new).recompute

/-- The last part: pump proving of a coil made present, and the levels of the demands and the channels. -/
def State.coilSettled (s : State) (k : Fin 6) (old new : CoilCfg) : State :=
  (if !old.present && new.present then s.proveFresh k else s).handDemandsStale.handAnalogFault

theorem applyCoil_eq (s : State) (k : Fin 6) (new : CoilCfg) :
    s.applyCoil k new = ((s.coilRecorded k new).coilMerged k (s.cfg k) new).coilSettled k (s.cfg k) new := rfl

theorem tame_coilRecorded (s : State) (k : Fin 6) (new : CoilCfg) : Tame s (s.coilRecorded k new) :=
  ((((tame_setTables s _).trans (tame_readyDetector _ k _ _)).trans (tame_setCoil _ k _)).trans
    (tame_presenceChange _ k _ _)).trans (tame_leaveFrames _ k _ _)

theorem tame_coilMerged (s : State) (k : Fin 6) (old new : CoilCfg) : Tame s (s.coilMerged k old new) :=
  (((tame_handCoil s k).trans (tame_handBlind _ k)).trans (tame_unitsConcerned _ old new)).trans (tame_recompute _)

theorem tame_coilSettled (s : State) (k : Fin 6) (old new : CoilCfg) : Tame s (s.coilSettled k old new) :=
  ((tame_ite (tame_proveFresh s k) (.refl s)).trans (tame_handDemandsStale _)).trans (tame_handAnalogFault _)

theorem tame_applyCoil (s : State) (k : Fin 6) (new : CoilCfg) : Tame s (s.applyCoil k new) := by
  rw [applyCoil_eq]
  exact ((tame_coilRecorded s k new).trans (tame_coilMerged _ k _ new)).trans (tame_coilSettled _ k _ new)

theorem tame_armCoil (s : State) (k : Fin 6) : Tame s (s.armCoil k) :=
  tame_ite (tame_ite ((tame_writeCoil s k _).trans (tame_unitEvent _ _))
    (tame_ite (.refl s) ((tame_writeCoil s k _).trans (tame_unitEvent _ _)))) (.refl s)

theorem tame_handModeTest (s : State) : Tame s s.handModeTest := tame_handLevel s _ rfl

theorem tame_arm (s : State) : Tame s s.arm :=
  (((Tame.of_eq rfl rfl rfl rfl : Tame s { s with mode := .armed }).trans (tame_foldl _ tame_armCoil _ _)).trans
    (tame_handModeTest _)).trans (tame_recompute _)

theorem tame_startUnit (s : State) (u : Fin 3) : Tame s (s.startUnit u) := by
  have placed (t : State) : Tame t (t.placeUnit u) := by
    unfold State.placeUnit
    dsimp only
    exact tame_ite ((tame_setUnit t u _).trans (moves_enterClosing 0 u _).tame)
      (tame_ite ((tame_setUnit t u _).trans (tame_setUnit _ u _)) ((tame_setUnit t u _).trans (tame_setUnit _ u _)))
  have fresh : Tame s ((s.setUnit u UnitRec.start).handSecureFault u) :=
    (tame_setUnit s u _).trans (tame_handLevel _ _ (by simp))
  unfold State.startUnit
  dsimp only
  split
  · exact fresh
  · exact fresh.trans (placed _)
  · exact fresh.trans (placed _)

theorem tame_enterTest (s : State) : Tame s s.enterTest := by
  have test : Tame s { s with mode := .test } := .of_eq rfl rfl rfl rfl
  have released (t : State) (k : Fin 6) : Tame t (t.releaseCoil k) :=
    tame_ite ((tame_placeCoil t k).trans (tame_handCoil _ k)) (.refl t)
  unfold State.enterTest
  split
  · exact .refl s
  · exact (test.trans (tame_handModeTest _)).trans (tame_recompute _)
  · exact (((test.trans (tame_foldl _ released _ _)).trans (tame_foldl _ tame_startUnit _ _)).trans
      (tame_handModeTest _)).trans (tame_recompute _)

/-! ### The owners of requests -/

/-- What an owner keeps: the three orders, the two queues and the cursor of the transmitter. -/
structure OwnerKeeps (s t : State) : Prop where
  rxBuffer : t.link.rxBuffer = s.link.rxBuffer
  txQueue : t.link.txQueue = s.link.txQueue
  alerts : s.alertsOrdered → t.alertsOrdered
  exposure : s.exposureBounded → t.exposureBounded
  store : s.storeOrdered → t.storeOrdered

theorem Tame.ownerKeeps {s t : State} (h : Tame s t) : OwnerKeeps s t :=
  ⟨by rw [h.link], by rw [h.link], h.hears.ordered, h.exposure, h.store⟩

theorem OwnerActs.keeps {s t : State} (h : OwnerActs s t) : OwnerKeeps s t := by
  cases h with
  | nothing => exact (Tame.refl s).ownerKeeps
  | errorsCleared => exact ⟨rfl, rfl, id, id, id⟩
  | countsCleared g => exact (tame_setMaster s g _).ownerKeeps
  | demandsPut l =>
    exact (((tame_applyDemands s l).trans (tame_recompute _)).trans (tame_handDemandsStale _)).ownerKeeps
  | acknowledged x => exact ⟨rfl, rfl, Alerts.ordered_acknowledge x, id, id⟩
  | tripReset k _ _ => exact (moves_resetCoil k s).tame.ownerKeeps
  | notArmed v => exact ⟨rfl, rfl, id, id, id⟩
  | armed v _ =>
    exact ((Tame.of_eq rfl rfl rfl rfl : Tame s { s with validation := v }).trans (tame_arm _)).ownerKeeps
  | testEntered => exact (tame_enterTest s).ownerKeeps
  | forced k st _ _ _ => exact (moves_writeMoved k s _).tame.ownerKeeps
  | released k _ _ => exact (moves_writeMoved k s _).tame.ownerKeeps
  | coilSet k c _ => exact (tame_applyCoil s k c).ownerKeeps
  | plainSet t _ _ _ _ => exact (tame_setTables s t).ownerKeeps
  | outputsSet t _ => exact ((tame_setTables s t).trans (tame_recompute _)).ownerKeeps
  | inputInverted t i _ _ _ => exact ((tame_setTables s t).trans (tame_levelChanged _ i)).ownerKeeps
  | classSet t _ _ _ _ => exact (tame_setTables s t).ownerKeeps
  | maskSet t _ _ _ => exact ((tame_setTables s t).trans (tame_noteSelection _)).ownerKeeps
  | saveStarted => exact (tame_startSave s).ownerKeeps
  | restartAccepted => exact ⟨rfl, rfl, id, id, id⟩

/-! ## The link -/

/-- A predicate that selections, the queue's changes and the owners keep is kept by every event of the link. -/
structure LinkKept (P : State → Prop) : Prop where
  link : ∀ (s : State) (l : Link), P s → P (s.setLink l)
  due : ∀ (s : State) (b : Bool), P s → P (s.setAlerts { s.alerts with selectionDue := b })
  uses : ∀ (s : State) (n : Nat), P s → P { s with freeUses := n }
  line : ∀ (s : State) (b : Bool), P s → P { s with alertLine := b }
  report : ∀ (s : State) (x : Fin 65), s.winner = some x → P s → P (s.report x)

section
variable {P : State → Prop} (K : LinkKept P)
include K

theorem LinkKept.selectLoop (n : Nat) (s : State) (h : P s) : P (selectLoop n s) := by
  induction n generalizing s with
  | zero => exact h
  | succ n ih =>
    unfold Machine.selectLoop
    split
    · exact h
    · exact ih _ (K.report s _ ‹_› h)

theorem LinkKept.runSelection (s : State) (h : P s) : P s.runSelection := by
  unfold State.runSelection
  split
  · exact K.due _ _ (K.selectLoop _ s h)
  · exact h

theorem LinkKept.beginHead (s : State) (h : P s) : P s.beginHead := by
  unfold State.beginHead
  split
  · exact K.link s _ h
  · exact h

theorem LinkKept.conclude (s : State) (h : P s) : P s.conclude := K.line _ _ (K.beginHead _ (K.runSelection s h))

variable (owner : ∀ s t, OwnerActs s t → P s → P t)
include owner

theorem LinkKept.respond (s : State) (f : Frame) (h : P s) : P (s.respond f) :=
  K.link _ _ (owner _ _ (handleRequest_acts s f) h)

theorem LinkKept.drain (n : Nat) (s : State) (h : P s) : P (drain n s) := by
  induction n generalizing s with
  | zero => exact h
  | succ n ih =>
    unfold Machine.drain
    split
    · exact h
    · split
      · exact ih _ (K.runSelection _ (K.respond owner _ _ (K.link _ _ h)))
      · exact h

theorem LinkKept.receiveFrame (s : State) (f : Frame) (h : P s) : P (s.receiveFrame f) := by
  unfold State.receiveFrame
  split
  · exact K.link _ _ h
  · exact K.drain owner _ _ (K.link _ _ h)

theorem LinkKept.receiveByte (s : State) (b : Byte) (h : P s) : P (s.receiveByte b) := by
  unfold State.receiveByte
  split
  · split
    · exact K.link _ _ h
    · exact h
  · split
    · exact K.link _ _ h
    · exact K.link _ _ (K.link _ _ h)
  · dsimp only
    split
    · exact K.link _ _ h
    · unfold State.frameComplete
      split
      · exact K.link _ _ (K.link _ _ h)
      · exact K.receiveFrame owner _ _ (K.link _ _ h)

theorem LinkKept.itemSent (s : State) (h : P s) : P s.itemSent := by
  have dispatched (t : State) (ht : P t) : P t.dispatch := K.drain owner _ t ht
  unfold State.itemSent
  split
  · exact h
  · have freed := K.due _ true (K.link s { s.link with txQueue := ‹_› } h)
    unfold State.roomFreed
    dsimp only
    split
    · split
      · exact dispatched _ (K.uses _ _ freed)
      · exact dispatched _ (K.runSelection _ (K.uses _ _ freed))
    · exact dispatched _ freed

/-- The events of a running part keep what the link and the owners keep and the blocks' events keep. -/
theorem LinkKept.event (block : ∀ s t, BlockActs s t → P s → P t) {s t : State} (act : EventActs s t) (h : P s) : P t := by
  cases act with
  | block act => exact block _ _ act h
  | byte b => exact K.receiveByte owner s b h
  | sent => exact K.itemSent owner s h
  | request f => exact K.receiveFrame owner s f h

end

/-! ## Every step keeps the alert collections in order (O5) -/

theorem Alerts.ordered_select {a : Alerts} {x : Fin 65} {c : Fin 8} (l : Nat) (h : a.ordered)
    (pending : (a.sources.at x).membership = .pending) (lower : ∀ e ∈ a.stack, c < e.cls) : (a.select x c l).ordered := by
  obtain ⟨sorted, served, standing, true_⟩ := h
  have absent : ¬ ∃ e ∈ a.stack, e.source = x := by rw [← served, pending]; simp
  have self : ((a.select x c l).sources.at x).membership =
      if classNumber c < l then .inService else if isLevel x then .standing else .none := by
    unfold Alerts.select
    split
    · simp [Alerts.move_at]
    · split <;> simp [Alerts.move_at]
  refine ⟨?_, fun y => ?_, fun y => ?_, fun y level => ?_⟩
  · rw [Alerts.select_stack]
    split
    · exact List.pairwise_cons.mpr ⟨lower, sorted⟩
    · exact sorted
  · rw [Alerts.select_stack]
    by_cases hy : y = x
    · subst hy
      rw [self]
      split
      · simp
      · split <;> simpa using absent
    · rw [Alerts.select_other a hy, served]
      split
      · simp [Ne.symm hy]
      · rfl
  · by_cases hy : y = x
    · subst hy
      rw [self]
      split
      · simp
      · split <;> simp_all
    · rw [Alerts.select_other a hy]
      exact standing y
  · rw [Alerts.select_condition]
    by_cases hy : y = x
    · subst hy
      exact fun _ => true_ y level (.inl pending)
    · rw [Alerts.select_other a hy]
      exact true_ y level

theorem eligible_iff (s : State) (x : Fin 65) :
    s.eligible x = true ↔ (s.alerts.sources.at x).membership = .pending ∧ (s.tables.sources.at x).masked = false ∧
      ∀ top rest, s.alerts.stack = top :: rest → s.classOf x < top.cls := by
  unfold State.eligible
  cases s.alerts.stack <;> simp [and_assoc]

theorem linkKept_alertsOrdered : LinkKept State.alertsOrdered where
  link _ _ := id
  due _ _ := id
  uses _ _ := id
  line _ _ := id
  report s x won h := by
    obtain ⟨pending, -, below_top⟩ := (eligible_iff s x).mp (winner_eligible won).1
    refine Alerts.ordered_select _ h pending ?_
    cases stack : s.alerts.stack with
    | nil => simp
    | cons top rest =>
      have sorted := h.1
      rw [stack] at sorted
      have lower := below_top top rest stack
      intro e he
      rcases List.mem_cons.mp he with rfl | he
      · exact lower
      · exact lower.trans (List.rel_of_pairwise_cons sorted he)

theorem alertsOrdered_start : Alerts.start.ordered := by
  refine ⟨.nil, fun x => ?_, fun x => ?_, fun x _ => ?_⟩ <;> simp [Alerts.start]

/-- The coils and units of a completing start at their stages. -/
def State.startPlaced (s : State) (cold : Bool) (strap : Strap) : State :=
  allUnits.foldl State.startUnit (allCoils.foldl State.startCoil (s.loadStart cold strap).startBlocks)

/-- The outputs of a completing start, the pump proving that follows them, and the first pass. -/
def State.startDriven (s : State) : State := (allCoils.foldl State.proveFresh (s.setOutputs s.effective)).beginPass

/-- The LOCKOUT-WRITE of a failed area, and the level conditions. -/
def State.startHanded (s : State) : State := (if s.areaDirty then s.lockoutChange else s).handStartLevels.noteSelection

theorem completeStart_eq (s : State) (cold : Bool) (strap : Strap) :
    s.completeStart cold strap = (s.startPlaced cold strap).startDriven.startHanded := rfl

theorem tame_startCoil (s : State) (k : Fin 6) : Tame s (s.startCoil k) := by
  unfold State.startCoil
  split
  · exact .refl s
  · exact tame_ite (tame_placeCoil s k) (.refl s)
  · exact tame_ite (tame_placeCoil s k) (.refl s)

theorem tame_startPlaced (s : State) (cold : Bool) (strap : Strap) :
    Tame (s.loadStart cold strap).startBlocks (s.startPlaced cold strap) :=
  (tame_foldl _ tame_startCoil _ _).trans (tame_foldl _ tame_startUnit _ _)

theorem tame_startDriven (s : State) : Tame s s.startDriven :=
  ((tame_setOutputs s _).trans (tame_foldl _ tame_proveFresh _ _)).trans (tame_beginPass _)

theorem tame_handStartLevels (s : State) : Tame s s.handStartLevels :=
  ((((tame_handLevel s _ rfl).trans (tame_handModeTest _)).trans
    (tame_foldl State.handCoilLevels (fun t k => (tame_handCoil t k).trans (tame_handBlind _ k)) _ _)).trans
    (tame_handDemandsStale _)).trans (tame_handAnalogFault _)

theorem tame_startHanded (s : State) : Tame s s.startHanded :=
  ((tame_ite (tame_lockoutChange s) (.refl s)).trans (tame_handStartLevels _)).trans (tame_noteSelection _)

/-- From the records that a start loads, its completion is tame. -/
theorem tame_completeStart (s : State) (cold : Bool) (strap : Strap) :
    Tame (s.loadStart cold strap).startBlocks (s.completeStart cold strap) := by
  rw [completeStart_eq]
  exact ((tame_startPlaced s cold strap).trans (tame_startDriven _)).trans (tame_startHanded _)

/-- Settles O5: the blocks hand over edges of edge sources and conditions of level sources, a selection pushes a source below the
top's class, and an acknowledgment takes out of the stack what it takes out of service. -/
theorem everyStepKeepsTheAlertCollectionsOrdered : Obligations.EveryStepKeepsTheAlertCollectionsOrdered := by
  refine step_keeps (fun s l => id) fun s t hs h => ?_
  cases h with
  | nothing => exact hs
  | startBegins cold => exact alertsOrdered_start
  | powerLost => rw [abandonJob_eq]; exact hs
  | pinMoves i high _ => exact hs
  | startCompletes cold strap _ =>
    exact linkKept_alertsOrdered.conclude _ ((tame_completeStart s cold strap).hears.ordered hs)
  | secondPasses _ => rw [secondPasses_eq]; exact hs
  | gapExpires _ => rw [gapExpires_eq]; exact hs
  | event _ act =>
    exact linkKept_alertsOrdered.conclude _ (linkKept_alertsOrdered.event (fun _ _ h => h.keeps.alerts)
      (fun _ _ h => h.tame.hears.ordered) act hs)

end Sys2Proof.Machine
end

section
/-! PROOF. The bounds of the link's queues, the range of exposure and the order of the store's queue, at every step (O4, O6, O10). -/

namespace Sys2Proof.Machine

open Sys2Proof

/-! ## Exposure and the store (R19, R71) -/

theorem linkKept_exposureBounded : LinkKept State.exposureBounded where
  link _ _ := id
  due _ _ := id
  uses _ _ := id
  line _ _ := id
  report _ _ _ := id

theorem linkKept_storeOrdered : LinkKept State.storeOrdered where
  link _ _ := id
  due _ _ := id
  uses _ _ := id
  line _ _ := id
  report _ _ _ := id

/-- Settles O6: E is written by the start values, by a frame update within its bounds, or kept. -/
theorem everyStepKeepsExposureInRange : Obligations.EveryStepKeepsExposureInRange := by
  refine step_keeps (fun s l => id) fun s t hs h => ?_
  cases h with
  | nothing => exact hs
  | startBegins cold => unfold State.beginStart; rw [abandonJob_eq]; exact hs
  | powerLost => rw [abandonJob_eq]; exact hs
  | pinMoves i high _ => exact hs
  | startCompletes cold strap _ =>
    refine linkKept_exposureBounded.conclude _ ((tame_completeStart s cold strap).exposure fun k => ?_)
    simp [State.startBlocks, Exposure.start]
  | secondPasses _ => rw [secondPasses_eq]; exact hs
  | gapExpires _ => rw [gapExpires_eq]; exact hs
  | event _ act =>
    exact linkKept_exposureBounded.conclude _ (linkKept_exposureBounded.event (fun _ _ h => h.keeps.exposure)
      (fun _ _ h => h.tame.exposure) act hs)

/-- Settles O10: a job joins the queue behind a job in flight, and the next one is taken from the queue where a job ends. -/
theorem everyStepKeepsTheStoreQueueInOrder : Obligations.EveryStepKeepsTheStoreQueueInOrder := by
  refine step_keeps (fun s l => id) fun s t hs h => ?_
  cases h with
  | nothing => exact hs
  | startBegins cold => unfold State.beginStart; rw [abandonJob_eq]; exact fun _ => ⟨rfl, rfl⟩
  | powerLost => rw [abandonJob_eq]; exact fun _ => ⟨rfl, rfl⟩
  | pinMoves i high _ => exact hs
  | startCompletes cold strap _ =>
    exact linkKept_storeOrdered.conclude _ ((tame_completeStart s cold strap).store hs)
  | secondPasses _ => rw [secondPasses_eq]; exact hs
  | gapExpires _ => rw [gapExpires_eq]; exact hs
  | event _ act =>
    exact linkKept_storeOrdered.conclude _ (linkKept_storeOrdered.event (fun _ _ h => h.keeps.store)
      (fun _ _ h => h.tame.store) act hs)

/-! ## The link's queues (R159, R160) -/

/-- Selections add notices while two entries are free, and touch nothing else of the link. -/
theorem selectLoop_link (n : Nat) (s : State) :
    ∃ l, (selectLoop n s).link = { s.link with txQueue := s.link.txQueue ++ l } ∧
      (l = [] ∨ s.link.txQueue.length + l.length ≤ 3) := by
  induction n generalizing s with
  | zero => exact ⟨[], by simp [selectLoop], .inl rfl⟩
  | succ n ih =>
    unfold selectLoop
    split
    · exact ⟨[], by simp, .inl rfl⟩
    · rename_i x won
      have room := (winner_eligible won).2
      simp only [State.txFree, Config.txCapacity] at room
      obtain ⟨l, link, few⟩ := ih (s.report x)
      refine ⟨.notice x (s.classOf x) none :: l, by rw [link]; simp [State.report, State.queueItem], .inr ?_⟩
      rcases few with rfl | few
      · simp only [List.length_cons, List.length_nil]
        omega
      · simp only [State.report, State.queueItem, State.setLink_link, State.setAlerts_link, List.length_append,
          List.length_cons, List.length_nil] at few ⊢
        omega

theorem runSelection_link (s : State) :
    ∃ l, s.runSelection.link = { s.link with txQueue := s.link.txQueue ++ l } ∧
      (l = [] ∨ s.link.txQueue.length + l.length ≤ 3) := by
  unfold State.runSelection
  split
  · exact selectLoop_link _ s
  · exact ⟨[], by simp, .inl rfl⟩

theorem beginHead_link (s : State) :
    ∃ q, s.beginHead.link = { s.link with txQueue := q } ∧ q.length = s.link.txQueue.length := by
  unfold State.beginHead
  split
  · rename_i e
    exact ⟨_, rfl, by rw [e]; rfl⟩
  · exact ⟨_, rfl, rfl⟩

theorem linkBounded_runSelection {s : State} (h : s.linkBounded) : s.runSelection.linkBounded := by
  obtain ⟨rx, tx, waits⟩ := h
  obtain ⟨l, link, few⟩ := runSelection_link s
  unfold State.linkBounded
  rw [link]
  rcases few with rfl | few
  · simpa using ⟨rx, tx, waits⟩
  · refine ⟨rx, ?_, fun free waiting => ?_⟩
    · simp only [List.length_append, Config.txCapacity]
      omega
    · have full := waits free waiting
      simp only [Config.txCapacity] at full
      omega

theorem linkBounded_conclude {s : State} (h : s.linkBounded) : s.conclude.linkBounded := by
  have selected := linkBounded_runSelection h
  obtain ⟨q, link, len⟩ := beginHead_link s.runSelection
  unfold State.linkBounded
  rw [show s.conclude.link = s.runSelection.beginHead.link from rfl, link]
  exact ⟨selected.1, by rw [len]; exact selected.2.1, by rw [len]; exact selected.2.2⟩

/-- A dispatch succeeds where an entry is free and no RESTART holds it (R160). -/
theorem canDispatch_iff (s : State) :
    s.canDispatch = true ↔ s.link.txQueue.length < Config.txCapacity ∧ s.link.restartAccepted = false := by
  have free : 1 ≤ s.txFree ↔ s.link.txQueue.length < Config.txCapacity := Nat.sub_pos_iff_lt
  simp [State.canDispatch, free]

/-- Both queues within their capacities, before dispatches are attempted. -/
def Link.fits (l : Link) : Prop := l.rxBuffer.length ≤ Config.rxCapacity ∧ l.txQueue.length ≤ Config.txCapacity

theorem fits_runSelection {s : State} (h : s.link.fits) : s.runSelection.link.fits := by
  obtain ⟨rx, tx⟩ := h
  obtain ⟨l, link, few⟩ := runSelection_link s
  rw [link]
  refine ⟨rx, ?_⟩
  simp only [List.length_append, Config.txCapacity] at tx ⊢
  rcases few with rfl | few
  · simpa using tx
  · omega

/-- Dispatches attempted for as long as they succeed leave a request waiting only where the next one would fail. -/
theorem linkBounded_drain (n : Nat) {s : State} (len : s.link.rxBuffer.length ≤ n) (h : s.link.fits) :
    (drain n s).linkBounded := by
  obtain ⟨rx, tx⟩ := h
  induction n generalizing s with
  | zero => exact ⟨rx, tx, fun _ waiting => absurd (List.length_eq_zero_iff.mp (Nat.le_zero.mp len)) waiting⟩
  | succ n ih =>
    unfold drain
    split
    · rename_i empty
      exact ⟨rx, tx, fun _ waiting => absurd empty waiting⟩
    · rename_i f rest buffer
      split
      · rename_i can
        obtain ⟨room, -⟩ := (canDispatch_iff s).mp can
        have owner := (handleRequest_acts (s.setBuffer rest) f).keeps
        have answered : ((s.setBuffer rest).respond f).link.fits := by
          refine ⟨?_, ?_⟩
          · change (handleRequest f (s.setBuffer rest)).state.link.rxBuffer.length ≤ _
            rw [owner.rxBuffer]
            rw [buffer] at rx
            exact Nat.le_of_succ_le rx
          · change ((handleRequest f (s.setBuffer rest)).state.link.txQueue ++ _).length ≤ _
            rw [owner.txQueue]
            simpa [State.setBuffer] using room
        have rest_len : ((s.setBuffer rest).respond f).runSelection.link.rxBuffer.length ≤ n := by
          obtain ⟨l, link, -⟩ := runSelection_link ((s.setBuffer rest).respond f)
          rw [link]
          change (handleRequest f (s.setBuffer rest)).state.link.rxBuffer.length ≤ _
          rw [owner.rxBuffer]
          rw [buffer] at len
          exact Nat.le_of_succ_le_succ len
        have selected := fits_runSelection answered
        exact ih rest_len selected.1 selected.2
      · rename_i cannot
        refine ⟨rx, tx, fun free _ => ?_⟩
        have full : ¬ s.link.txQueue.length < Config.txCapacity := fun room => cannot ((canDispatch_iff s).mpr ⟨room, free⟩)
        exact Nat.le_antisymm tx (Nat.not_lt.mp full)

theorem linkBounded_dispatch {s : State} (h : s.link.fits) : s.dispatch.linkBounded := linkBounded_drain _ le_rfl h

theorem linkBounded_receiveFrame {s : State} (f : Frame) (h : s.linkBounded) : (s.receiveFrame f).linkBounded := by
  unfold State.receiveFrame
  split
  · exact h
  · rename_i room
    refine linkBounded_dispatch ⟨?_, h.2.1⟩
    simp only [State.setBuffer, State.setLink_link, List.length_append, List.length_cons, List.length_nil,
      Config.rxCapacity] at room ⊢
    omega

theorem linkBounded_receiveByte {s : State} (b : Byte) (h : s.linkBounded) : (s.receiveByte b).linkBounded := by
  unfold State.receiveByte
  split
  · split <;> exact h
  · split <;> exact h
  · dsimp only
    split
    · exact h
    · unfold State.frameComplete
      split
      · exact h
      · exact linkBounded_receiveFrame _ h

theorem linkBounded_itemSent {s : State} (h : s.linkBounded) : s.itemSent.linkBounded := by
  unfold State.itemSent
  split
  · exact h
  · rename_i rest queue
    have fits : Link.fits { s.link with txQueue := rest } := by
      have tx := h.2.1
      rw [queue] at tx
      exact ⟨h.1, Nat.le_of_succ_le tx⟩
    unfold State.roomFreed
    dsimp only
    split
    · split
      · exact linkBounded_dispatch fits
      · exact linkBounded_dispatch (fits_runSelection fits)
    · exact linkBounded_dispatch fits

theorem linkBounded_congr {s t : State} (link : t.link = s.link) (h : s.linkBounded) : t.linkBounded := by
  unfold State.linkBounded
  rw [link]
  exact h

/-- Settles O4: the blocks leave the link; a selection adds where two entries are free, a dispatch where one is, and dispatches are
attempted whenever an entry is freed or a frame arrives. -/
theorem everyStepKeepsTheLinkWithinItsQueues : Obligations.EveryStepKeepsTheLinkWithinItsQueues := by
  have start : Link.start.fits := ⟨by decide, by decide⟩
  refine step_keeps (fun s l => id) fun s t hs h => ?_
  cases h with
  | nothing => exact hs
  | startBegins cold => exact ⟨start.1, start.2, fun _ waiting => absurd rfl waiting⟩
  | powerLost => rw [abandonJob_eq]; exact hs
  | pinMoves i high _ => exact hs
  | startCompletes cold strap _ =>
    refine linkBounded_conclude (linkBounded_congr (tame_completeStart s cold strap).link ?_)
    exact ⟨start.1, start.2, fun _ waiting => absurd rfl waiting⟩
  | secondPasses _ => rw [secondPasses_eq]; exact hs
  | gapExpires _ => rw [gapExpires_eq]; exact hs
  | event _ act =>
    refine linkBounded_conclude ?_
    cases act with
    | block act => exact linkBounded_congr act.tame.link hs
    | byte b => exact linkBounded_receiveByte b hs
    | sent => exact linkBounded_itemSent hs
    | request f => exact linkBounded_receiveFrame f hs

end Sys2Proof.Machine
end

section
/-! PROOF. What the operations of the store, the sampler and the bus masters leave as it stands, in the form of `seqFrame`. -/

namespace Sys2Proof.Machine

open Sys2Proof

/-! ## The store -/

/-- `t` is `s` but for the store, the two regions with their flags, and the resolver. -/
def storeFrame (s t : State) : Prop :=
  t = { s with store := t.store, image := t.image, area := t.area, imageInvalid := t.imageInvalid,
               areaDirty := t.areaDirty, alerts := t.alerts }

theorem storeFrame_trans {s t u : State} (h : storeFrame s t) (k : storeFrame t u) : storeFrame s u :=
  Eq.trans k (by rw [h])

theorem storeFrame_nextJob (s : State) : storeFrame s s.nextJob := by
  rcases nextJob_cases s with ⟨-, e⟩ | ⟨t, -, -, e⟩ | ⟨-, -, e⟩ <;> rw [e] <;> rfl

theorem storeFrame_imageFails (s : State) : storeFrame s s.imageFails :=
  storeFrame_trans (t := (s.spoilImage.setImageInvalid true).raiseEdge srcStoreFail) rfl (storeFrame_nextJob _)

theorem storeFrame_areaFails (s : State) : storeFrame s s.areaFails :=
  storeFrame_trans (t := ({ s with areaDirty := true } : State).raiseEdge srcStoreFail) rfl (storeFrame_nextJob _)

theorem storeFrame_imagePasses (s : State) (j : Job) : storeFrame s (s.imagePasses j) := by
  unfold State.imagePasses
  dsimp only
  split
  · rfl
  · exact storeFrame_trans (t := (s.setImageInvalid false).raiseEdge srcStoreDone) rfl (storeFrame_nextJob _)

theorem storeFrame_phaseCompletes (s : State) (same : Bool) : storeFrame s (s.phaseCompletes same) := by
  unfold State.phaseCompletes
  split
  · rfl
  · split
    · rfl
    · split <;> rfl
    · split
      · exact storeFrame_imagePasses s _
      · exact storeFrame_imageFails s
    · rfl
    · split
      · exact storeFrame_trans (t := { s with areaDirty := false }) rfl (storeFrame_nextJob _)
      · exact storeFrame_trans (t := s.spoilArea) rfl (storeFrame_areaFails _)

theorem storeFrame_phaseExpires (s : State) : storeFrame s s.phaseExpires := by
  unfold State.phaseExpires
  split
  · rfl
  · split
    · exact storeFrame_imageFails s
    · exact storeFrame_imageFails s
    · exact storeFrame_imageFails s
    · exact storeFrame_trans (t := s.spoilArea) rfl (storeFrame_areaFails _)
    · exact storeFrame_areaFails s

theorem storeFrame_startSave (s : State) : storeFrame s s.startSave := by
  unfold State.startSave
  split <;> rfl

/-! ## The sampler -/

/-- `t` is `s` but for the sampler's records and the resolver. -/
def samplerFrame (s t : State) : Prop :=
  t = { s with channels := t.channels, sampler := t.sampler, detectors := t.detectors, alerts := t.alerts }

theorem samplerFrame_refl (s : State) : samplerFrame s s := rfl

theorem samplerFrame_trans {s t u : State} (h : samplerFrame s t) (k : samplerFrame t u) : samplerFrame s u :=
  Eq.trans k (by rw [h])

theorem samplerFrame_foldl {α : Type} (f : State → α → State) (h : ∀ s a, samplerFrame s (f s a)) (l : List α)
    (s : State) : samplerFrame s (l.foldl f s) := by
  induction l generalizing s with
  | nil => exact samplerFrame_refl s
  | cons a l ih => exact samplerFrame_trans (h s a) (ih (f s a))

theorem samplerFrame_stepDetector (t : Int) (s : State) (k : Fin 6) : samplerFrame s (State.stepDetector t s k) := by
  unfold State.stepDetector
  dsimp only
  split <;> split <;> rfl

theorem samplerFrame_stepDetectors (s : State) (c : Fin 16) : samplerFrame s (s.stepDetectors c) := by
  unfold State.stepDetectors
  split
  · rfl
  · exact samplerFrame_foldl _ (samplerFrame_stepDetector _) _ s

theorem samplerFrame_beginPass (s : State) : samplerFrame s s.beginPass :=
  samplerFrame_trans (t := { s with sampler := { passList := s.tables.scan, position := 1 } }) rfl
    (samplerFrame_trans (samplerFrame_foldl State.dropChannel (fun _ _ => rfl) _ _) rfl)

theorem samplerFrame_nextConversion (s : State) : samplerFrame s s.nextConversion := by
  unfold State.nextConversion
  split
  · rfl
  · exact samplerFrame_beginPass s

theorem samplerFrame_conversionEnds (s : State) (code : Nat) : samplerFrame s (s.conversionEnds code) := by
  unfold State.conversionEnds
  split
  · rfl
  · rename_i c _
    exact samplerFrame_trans (t := s.setChannel c _) rfl (samplerFrame_trans (samplerFrame_stepDetectors _ c)
      (samplerFrame_trans (t := State.handAnalogFault _) rfl (samplerFrame_nextConversion _)))

/-! ## The bus masters and the faces -/

/-- `t` is `s` but for the masters, the health and face records, and what `seqFrame` allows. -/
def busFrame (s t : State) : Prop :=
  t = { s with masters := t.masters, health := t.health, faces := t.faces, coils := t.coils, exposures := t.exposures,
               units := t.units, outputs := t.outputs, alerts := t.alerts, store := t.store }

theorem busFrame_refl (s : State) : busFrame s s := rfl

theorem busFrame_trans {s t u : State} (h : busFrame s t) (k : busFrame t u) : busFrame s u :=
  Eq.trans k (by rw [h])

theorem busFrame_of_seqFrame {s t : State} (h : seqFrame s t) : busFrame s t := by
  unfold busFrame
  rw [h]

theorem busFrame_foldl {α : Type} (f : State → α → State) (h : ∀ s a, busFrame s (f s a)) (l : List α) (s : State) :
    busFrame s (l.foldl f s) := by
  induction l generalizing s with
  | nil => exact busFrame_refl s
  | cons a l ih => exact busFrame_trans (h s a) (ih (f s a))

theorem busFrame_ite {c : Prop} [Decidable c] {s a b : State} (h : busFrame s a) (k : busFrame s b) :
    busFrame s (if c then a else b) := by
  split
  · exact h
  · exact k

theorem busFrame_setMaster (s : State) (g : Fin 3) (m : Master) : busFrame s (s.setMaster g m) := rfl
theorem busFrame_setMasterState (s : State) (g : Fin 3) (st : MasterState) : busFrame s (s.setMasterState g st) := rfl
theorem busFrame_giveResult (g : Fin 3) (r : PointResult) (s : State) (p : Fin 48) :
    busFrame s (State.giveResult g r s p) := rfl
theorem busFrame_setBusFault (s : State) (g : Fin 3) (v : Bool) : busFrame s (s.setBusFault g v) := rfl

theorem busFrame_handRagged (s : State) (k : Fin 6) : busFrame s (s.handRagged k) := by
  unfold State.handRagged
  split <;> rfl

theorem busFrame_closeCoilFrame (s : State) (k : Fin 6) (l : List SnapEntry) (n : Nat) :
    busFrame s (s.closeCoilFrame k l n) :=
  busFrame_trans (t := s.setFace k (s.closeFace k l)) rfl
    (busFrame_trans (busFrame_handRagged _ k)
      (busFrame_trans (t := State.handBlind _ k) rfl (busFrame_of_seqFrame (seqFrame_frameUpdate _ k _))))

theorem busFrame_handFrame (g : Fin 3) (l : List SnapEntry) (n : Nat) (s : State) (k : Fin 6) :
    busFrame s (State.handFrame g l n s k) :=
  busFrame_ite (busFrame_closeCoilFrame s k _ n) (busFrame_refl s)

theorem busFrame_closeFrame (s : State) (g : Fin 3) : busFrame s (s.closeFrame g) :=
  busFrame_foldl _ (busFrame_handFrame g _ _) _ s

theorem busFrame_giveRest (s : State) (g : Fin 3) (r : PointResult) : busFrame s (s.giveRest g r) :=
  busFrame_foldl _ (busFrame_giveResult g r) _ s

theorem busFrame_countCut (s : State) (g : Fin 3) : busFrame s (s.countCut g) :=
  busFrame_ite (busFrame_refl s) (busFrame_setMaster s g _)

theorem busFrame_goOn (s : State) (g : Fin 3) : busFrame s (s.goOn g) :=
  busFrame_ite
    (busFrame_trans (busFrame_countCut s g) (busFrame_trans (busFrame_giveRest _ g _)
      (busFrame_trans (busFrame_setMaster _ g _) (busFrame_trans (busFrame_closeFrame _ g) (busFrame_setMaster _ g _)))))
    (busFrame_ite (busFrame_trans (busFrame_setMaster s g _) (busFrame_closeFrame _ g)) (busFrame_refl s))

theorem busFrame_attemptEnds (s : State) (g : Fin 3) (r : PointResult) : busFrame s (s.attemptEnds g r) := by
  unfold State.attemptEnds
  split
  · rfl
  · exact busFrame_trans (busFrame_giveResult g r s _) (busFrame_goOn _ g)

theorem busFrame_recoveryFails (s : State) (g : Fin 3) : busFrame s (s.recoveryFails g) := by
  have closed := busFrame_trans (busFrame_setMasterState s g .faulted) (busFrame_trans (busFrame_setBusFault _ g true)
    (busFrame_trans (busFrame_giveRest _ g .segmentFault) (busFrame_closeFrame _ g)))
  exact busFrame_ite (busFrame_trans closed (busFrame_setMaster _ g _)) closed

theorem busFrame_recoveryEnds (s : State) (g : Fin 3) (freed : Bool) : busFrame s (s.recoveryEnds g freed) := by
  unfold State.recoveryEnds
  split
  · exact busFrame_ite (busFrame_trans (busFrame_setMaster s g _) (busFrame_trans (busFrame_setBusFault _ g false)
      (busFrame_goOn _ g))) (busFrame_recoveryFails s g)
  all_goals rfl

end Sys2Proof.Machine
end

section
/-! PROOF. The rules that the protection blocks keep at every step: the pins at the effective outputs (O7), the engines held in
FALLBACK (O8), and the trip condition of a unit with its shutdown stages (O9). -/

namespace Sys2Proof.Machine

open Sys2Proof

/-! ## The three rules of a running part -/

/-- The pins stand at the effective outputs. -/
def State.driven (s : State) : Prop := s.outputs = s.effective

/-- In FALLBACK the engines are held (R12). -/
def State.held (s : State) : Prop :=
  s.mode = .fallback → (∀ k, (s.exposures.at k).e = 0 ∧ (s.exposures.at k).band = .clear ∧ (s.coils.at k).stage = .idle) ∧
    ∀ u, (s.units.at u).stage = .idle

/-- Unit `u` is in a shutdown stage exactly while a coil of it is tripped. -/
def State.unitShuts (s : State) (u : Fin 3) : Prop := (s.units.at u).stage ≠ .idle ∧ (s.units.at u).stage.shut = s.tripOf u

/-- Outside FALLBACK every unit shuts by its trip condition. -/
def State.shuts (s : State) : Prop := s.mode ≠ .fallback → ∀ u, s.unitShuts u

/-- `t` runs where `s` runs, and keeps each of the three rules. -/
structure Rules (s t : State) : Prop where
  power : t.power = s.power
  driven : s.driven → t.driven
  held : s.held → t.held
  shuts : s.shuts → t.shuts

theorem Rules.refl (s : State) : Rules s s := ⟨rfl, id, id, id⟩

theorem Rules.trans {s t u : State} (h : Rules s t) (h' : Rules t u) : Rules s u :=
  ⟨h'.power.trans h.power, h'.driven ∘ h.driven, h'.held ∘ h.held, h'.shuts ∘ h.shuts⟩

theorem rules_ite {c : Prop} [Decidable c] {s a b : State} (ha : c → Rules s a) (hb : ¬ c → Rules s b) :
    Rules s (if c then a else b) := by
  split
  · exact ha ‹_›
  · exact hb ‹_›

theorem rules_foldl {α : Type} (f : State → α → State) (h : ∀ s a, Rules s (f s a)) (l : List α) (s : State) :
    Rules s (l.foldl f s) := by
  induction l generalizing s with
  | nil => exact .refl s
  | cons a l ih => exact (h s a).trans (ih (f s a))

/-! ### Updates that no rule reads -/

/-- What the held engines and the trip conditions are read from stands. -/
structure Calm (s t : State) : Prop where
  power : t.power = s.power
  mode : t.mode = s.mode
  cfgs : ∀ k, (t.cfg k).present = (s.cfg k).present ∧ (t.cfg k).unit = (s.cfg k).unit
  coils : ∀ k, (t.coils.at k).stage = (s.coils.at k).stage ∧ (t.coils.at k).forced = (s.coils.at k).forced
  stages : ∀ u, (t.units.at u).stage = (s.units.at u).stage
  exposures : ∀ k, (t.exposures.at k).e = (s.exposures.at k).e ∧ (t.exposures.at k).band = (s.exposures.at k).band

/-- The fields that the three rules read stand. -/
structure Steady (s t : State) : Prop extends Calm s t where
  tables : t.tables.coils = s.tables.coils
  units : t.tables.units = s.tables.units
  hosts : ∀ o, t.hostValue o = s.hostValue o
  outputs : t.outputs = s.outputs

/-- An update of none of the fields of `Calm`. -/
theorem Calm.of_eq {s t : State} (power : t.power = s.power) (mode : t.mode = s.mode)
    (cfgs : t.tables.coils = s.tables.coils) (coils : t.coils = s.coils) (stages : t.units = s.units)
    (exposures : t.exposures = s.exposures) : Calm s t :=
  ⟨power, mode, fun _ => by unfold State.cfg; rw [cfgs]; exact ⟨rfl, rfl⟩, fun _ => by rw [coils]; exact ⟨rfl, rfl⟩,
    fun _ => by rw [stages], fun _ => by rw [exposures]; exact ⟨rfl, rfl⟩⟩

/-- An update of none of the fields of `Steady`. -/
theorem Steady.of_eq {s t : State} (power : t.power = s.power) (mode : t.mode = s.mode)
    (cfgs : t.tables.coils = s.tables.coils) (units : t.tables.units = s.tables.units)
    (policies : t.tables.outputs = s.tables.outputs) (demands : t.demands = s.demands) (outputs : t.outputs = s.outputs)
    (coils : t.coils = s.coils) (stages : t.units = s.units) (exposures : t.exposures = s.exposures) : Steady s t :=
  ⟨.of_eq power mode cfgs coils stages exposures, cfgs, units,
    fun _ => by unfold State.hostValue; rw [demands, policies], outputs⟩

theorem Steady.refl (s : State) : Steady s s := .of_eq rfl rfl rfl rfl rfl rfl rfl rfl rfl rfl

section
variable {s t : State}

theorem tripOf_congr {u : Fin 3} (cfgs : ∀ k, t.coilOf u k = s.coilOf u k)
    (coils : ∀ k, s.coilOf u k = true → (t.coils.at k).stage = (s.coils.at k).stage) : t.tripOf u = s.tripOf u := by
  unfold State.tripOf
  refine List.any_congr rfl fun k => ?_
  rw [cfgs]
  cases of : s.coilOf u k
  · rfl
  · rw [coils k of]

theorem Calm.coilOf (h : Calm s t) (u : Fin 3) (k : Fin 6) : t.coilOf u k = s.coilOf u k := by
  unfold State.coilOf
  rw [(h.cfgs k).1, (h.cfgs k).2]

theorem Calm.tripOf (h : Calm s t) (u : Fin 3) : t.tripOf u = s.tripOf u :=
  tripOf_congr (h.coilOf u) fun k _ => (h.coils k).1

/-- What the effective outputs are computed from (R131 to R134). -/
theorem Steady.effective (h : Steady s t) : t.effective = s.effective := by
  have shielded (u : Fin 3) : t.unitProtected u = s.unitProtected u := by
    unfold State.unitProtected
    rw [h.mode]
    simp only [h.coilOf, (h.coils _).2]
  have cfg (k : Fin 6) : t.cfg k = s.cfg k := by
    unfold State.cfg
    rw [h.tables]
  have coil (k : Fin 6) : t.coilProtected k = s.coilProtected k := by
    unfold State.coilProtected
    rw [cfg, shielded]
  have valve : t.valveOf = s.valveOf := funext fun k => by
    unfold State.valveOf
    rw [h.hosts, coil, cfg, (h.coils k).1]
  have pump : t.pumpOf = s.pumpOf := funext fun k => by
    unfold State.pumpOf State.hostOn
    rw [h.hosts, coil, (h.coils k).1]
  have damper : t.damperOf = s.damperOf := funext fun u => by
    unfold State.damperOf
    rw [h.hosts, shielded, h.stages, h.units]
  have fan : t.fanOf = s.fanOf := funext fun u => by
    unfold State.fanOf State.hostOn
    rw [h.hosts, shielded, h.stages, h.tripOf]
  unfold State.effective
  rw [h.mode, valve, pump, damper, fan]

theorem Steady.driven (h : Steady s t) (hs : s.driven) : t.driven := by
  unfold State.driven
  rw [h.outputs, h.effective]
  exact hs

theorem Calm.unitShuts (h : Calm s t) {u : Fin 3} (hs : s.unitShuts u) : t.unitShuts u := by
  unfold State.unitShuts
  rw [h.stages, h.tripOf]
  exact hs

theorem Calm.held (h : Calm s t) (hs : s.held) : t.held := by
  intro fallback
  obtain ⟨coils, units⟩ := hs (h.mode ▸ fallback)
  refine ⟨fun k => ?_, fun u => by rw [h.stages]; exact units u⟩
  rw [(h.exposures k).1, (h.exposures k).2, (h.coils k).1]
  exact coils k

theorem Calm.shuts (h : Calm s t) (hs : s.shuts) : t.shuts := fun protects u => h.unitShuts (hs (h.mode ▸ protects) u)

theorem Steady.rules (h : Steady s t) : Rules s t := ⟨h.power, h.driven, h.held, h.shuts⟩

end

theorem steady_setAlerts (s : State) (a : Alerts) : Steady s (s.setAlerts a) :=
  .of_eq rfl rfl rfl rfl rfl rfl rfl rfl rfl rfl

theorem steady_handLevel (s : State) (x : Fin 65) (c : Bool) : Steady s (s.handLevel x c) := steady_setAlerts s _

theorem steady_raiseEdge (s : State) (x : Fin 65) : Steady s (s.raiseEdge x) := steady_setAlerts s _

theorem steady_of_proveFrame {s t : State} (h : proveFrame s t) : Steady s t := by
  obtain ⟨frame, coils⟩ := h
  have stands (k : Fin 6) : (t.coils.at k).stage = (s.coils.at k).stage ∧ (t.coils.at k).forced = (s.coils.at k).forced := by
    obtain ⟨p, n, e⟩ := coils k
    rw [e]
    exact ⟨rfl, rfl⟩
  rw [frame] at stands ⊢
  exact ⟨⟨rfl, rfl, fun _ => ⟨rfl, rfl⟩, stands, fun _ => rfl, fun _ => ⟨rfl, rfl⟩⟩, rfl, rfl, fun _ => rfl, rfl⟩

/-- A coil's record written with its stage and forced flag kept. -/
theorem steady_setCoil {s : State} {k : Fin 6} {r : CoilSeq} (stage : r.stage = (s.coils.at k).stage)
    (forced : r.forced = (s.coils.at k).forced) : Steady s (s.setCoil k r) := by
  refine ⟨⟨rfl, rfl, fun _ => ⟨rfl, rfl⟩, fun j => ?_, fun _ => rfl, fun _ => ⟨rfl, rfl⟩⟩, rfl, rfl, fun _ => rfl, rfl⟩
  rw [State.setCoil_coils, Tab.at_put]
  split
  · rename_i hj
    rw [hj]
    exact ⟨stage, forced⟩
  · exact ⟨rfl, rfl⟩

/-- A unit's record written with its stage kept. -/
theorem steady_setUnit {s : State} {u : Fin 3} {r : UnitRec} (stage : r.stage = (s.units.at u).stage) :
    Steady s (s.setUnit u r) := by
  refine ⟨⟨rfl, rfl, fun _ => ⟨rfl, rfl⟩, fun _ => ⟨rfl, rfl⟩, fun v => ?_, fun _ => ⟨rfl, rfl⟩⟩, rfl, rfl, fun _ => rfl, rfl⟩
  rw [State.setUnit_units, Tab.at_put]
  split
  · rename_i hv
    rw [hv]
    exact stage
  · rfl

theorem rules_setProve (s : State) (k : Fin 6) (p : Prove) (n : Option Nat) : Rules s (s.setProve k p n) :=
  (steady_of_proveFrame (proveFrame_setProve s k p n)).rules

/-! ### A recompute -/

/-- A recompute leaves what the effective outputs are computed from, so it leaves the pins at their rules (R130). -/
theorem recompute_effective (s : State) : s.recompute.effective = s.effective :=
  (steady_of_proveFrame (recompute_proves s)).effective

theorem recompute_driven (s : State) : s.recompute.driven := (recompute_outputs s).trans (recompute_effective s).symm

/-- An update that leaves the engines and the trip conditions, and a recompute after it. -/
theorem Calm.thenRecompute {s t : State} (h : Calm s t) : Rules s t.recompute := by
  have proves := steady_of_proveFrame (recompute_proves t)
  have set : Calm t (t.setOutputs t.effective) := .of_eq rfl rfl rfl rfl rfl rfl
  exact ⟨proves.power.trans h.power, fun _ => recompute_driven t, fun hs => proves.held (set.held (h.held hs)),
    fun hs => proves.shuts (set.shuts (h.shuts hs))⟩

theorem rules_recompute (s : State) : Rules s s.recompute := (Steady.refl s).toCalm.thenRecompute

end Sys2Proof.Machine
end

section
/-! PROOF. The three rules at the operations that move stages, and the invariants of every step that follow (O7, O8, O9). -/

namespace Sys2Proof.Machine

open Sys2Proof

/-! ## What a run of updates of one coil and one unit leaves of the others -/

theorem sameButProve_refl (r : CoilSeq) : r.sameButProve r := rfl

theorem sameButProve_iff {r r' : CoilSeq} : r.sameButProve r' ↔ ∃ p n, r' = { r with prove := p, proveTimer := n } := by
  constructor
  · intro h
    refine ⟨r'.prove, r'.proveTimer, ?_⟩
    unfold CoilSeq.sameButProve at h
    rw [← h]
  · rintro ⟨p, n, rfl⟩
    rfl

theorem sameButProve_trans {r r' r'' : CoilSeq} (h : r.sameButProve r') (h' : r'.sameButProve r'') : r.sameButProve r'' := by
  rw [sameButProve_iff] at *
  obtain ⟨p, n, rfl⟩ := h
  obtain ⟨p', n', rfl⟩ := h'
  exact ⟨p', n', rfl⟩

theorem sameButProve_stage {r r' : CoilSeq} (h : r.sameButProve r') : r'.stage = r.stage ∧ r'.forced = r.forced := by
  obtain ⟨p, n, rfl⟩ := sameButProve_iff.mp h
  exact ⟨rfl, rfl⟩

theorem proveFrame_sameButProve {s t : State} (h : proveFrame s t) (j : Fin 6) :
    (s.coils.at j).sameButProve (t.coils.at j) := by
  rw [sameButProve_iff]
  exact h.2 j

/-- A lockout change touches the store alone. -/
theorem lockoutChange_eq (s : State) : s.lockoutChange = s.setStore s.lockoutChange.store := by
  rcases lockoutChange_cases s with ⟨-, e⟩ | ⟨j, -, e⟩ <;> rw [e] <;> rfl

/-- The records of the other coils, exposures and units stand. -/
theorem Moves.others {k : Fin 6} {u : Fin 3} {s t : State} (h : Moves k u s t) :
    (∀ j, j ≠ k → (s.coils.at j).sameButProve (t.coils.at j) ∧ t.exposures.at j = s.exposures.at j) ∧
    ∀ v, v ≠ u → t.units.at v = s.units.at v := by
  induction h with
  | refl => exact ⟨fun _ _ => ⟨rfl, rfl⟩, fun _ _ => rfl⟩
  | coil _ r ih =>
    refine ⟨fun j hj => ?_, ih.2⟩
    rw [State.setCoil_coils, Tab.at_put_of_ne _ _ hj]
    exact ih.1 j hj
  | @prove t _ i p n ih =>
    refine ⟨fun j hj => ⟨?_, (ih.1 j hj).2⟩, ih.2⟩
    refine sameButProve_trans (ih.1 j hj).1 ?_
    rw [State.setCoil_coils, Tab.at_put, sameButProve_iff]
    split
    · rename_i hi
      exact ⟨p, n, by rw [hi]⟩
    · exact ⟨_, _, rfl⟩
  | exposure _ r _ ih =>
    refine ⟨fun j hj => ⟨(ih.1 j hj).1, ?_⟩, ih.2⟩
    rw [State.setExposure_exposures, Tab.at_put_of_ne _ _ hj]
    exact (ih.1 j hj).2
  | unit _ r ih =>
    refine ⟨ih.1, fun v hv => ?_⟩
    rw [State.setUnit_units, Tab.at_put_of_ne _ _ hv]
    exact ih.2 v hv
  | outputs _ o ih => exact ih
  | edge _ hx ih => exact ih
  | level _ c hx ih => exact ih
  | lockout _ ih =>
    rw [lockoutChange_eq]
    exact ih

/-! ## The Unit Sequencer (R110, R112) -/

/-- An event of R110 leaves a unit in a shutdown stage exactly while a coil of it is tripped. -/
theorem unitShuts_of_moved {s t : State} {u : Fin 3} (h : unitMoved s t u) (placed : (s.units.at u).stage ≠ .idle) :
    t.unitShuts u := by
  obtain ⟨stays, works, trips, restarts⟩ := h _ _ rfl rfl
  dsimp only at stays works trips restarts
  unfold State.unitShuts
  cases stage : (s.units.at u).stage <;> cases trip : t.tripOf u <;>
    simp only [stage, trip, UnitStage.shut] at stays works trips restarts placed
  case idle.false | idle.true => simp at placed
  case run.false | temper.false =>
    rw [works (by simp) trivial]
    dsimp only
    split <;> simp [UnitStage.shut]
  case closing.true | secured.true | secureFault.true =>
    rw [stays (by simp)]
    simp [UnitStage.shut]
  case restartHold.false =>
    rw [stays (by simp)]
    simp [UnitStage.shut]
  case closing.false | secured.false | secureFault.false =>
    obtain ⟨holds, leaves⟩ := restarts trivial trivial
    rcases Nat.eq_zero_or_pos (s.tables.units.at u).holdOff with zero | pos
    · rw [leaves zero]
      dsimp only
      split <;> simp [UnitStage.shut]
    · rw [holds pos]
      simp [UnitStage.shut]
  all_goals
    obtain ⟨closes, secures⟩ := trips (by simp) trivial
    by_cases proofs : t.damperProof u = true ∧ t.fanProof u = true
    · rw [secures proofs.1 proofs.2]
      simp [UnitStage.shut]
    · rw [closes (by simpa [or_iff_not_imp_left] using proofs)]
      simp [UnitStage.shut]

theorem coilOf_of_cfg {s : State} {k : Fin 6} {v : Fin 3} (h : v ≠ (s.cfg k).unit) : s.coilOf v k = false := by
  simp [State.coilOf, Ne.symm h]

/-- A coil's event keeps the units by their trip conditions where its own unit's event leaves it so. -/
theorem shuts_of_moves {s t : State} {k : Fin 6} (h : Moves k (s.cfg k).unit s t)
    (own : s.mode ≠ .fallback → s.shuts → t.unitShuts (s.cfg k).unit) (hs : s.shuts) : t.shuts := by
  intro protects v
  rw [seqFrame_mode h.frame] at protects
  by_cases hv : v = (s.cfg k).unit
  · rw [hv]
    exact own protects hs
  · have cfgs (j : Fin 6) : t.coilOf v j = s.coilOf v j := by
      unfold State.coilOf State.cfg
      rw [seqFrame_tables h.frame]
    unfold State.unitShuts
    rw [h.others.2 v hv, tripOf_congr cfgs fun j of => ?_]
    · exact hs protects v
    · by_cases hj : j = k
      · rw [hj, coilOf_of_cfg hv] at of
        cases of
      · exact (sameButProve_stage (h.others.1 j hj).1).1

/-! ## Operations that move a coil -/

/-- What every operation that moves a coil keeps, in any plant mode: the supply, the pins at their rules and the trip conditions. -/
structure Works (s t : State) : Prop where
  power : t.power = s.power
  driven : s.driven → t.driven
  shuts : s.shuts → t.shuts

theorem Works.trans {s t u : State} (h : Works s t) (h' : Works t u) : Works s u :=
  ⟨h'.power.trans h.power, h'.driven ∘ h.driven, h'.shuts ∘ h.shuts⟩

theorem Rules.works {s t : State} (h : Rules s t) : Works s t := ⟨h.power, h.driven, h.shuts⟩

/-- An operation that FALLBACK does not let happen keeps the engines held. -/
theorem Works.rules {s t : State} (h : Works s t) (held : s.held → s.mode = .fallback → t.held) (mode : t.mode = s.mode) :
    Rules s t :=
  ⟨h.power, h.driven, fun hs fallback => held hs (mode ▸ fallback) fallback, h.shuts⟩

theorem works_ite {c : Prop} [Decidable c] {s a b : State} (ha : Works s a) (hb : Works s b) :
    Works s (if c then a else b) := by
  split
  · exact ha
  · exact hb

section
variable {s : State} {k : Fin 6}

/-- Updates that leave the units, and then the coil's unit and the outputs. -/
theorem works_coilMoved {t : State} (h : Moves k (s.cfg k).unit s t) (units : t.units = s.units) :
    Works s (t.coilMoved k) := by
  have cfg : t.cfg k = s.cfg k := by
    unfold State.cfg
    rw [seqFrame_tables h.frame]
  have all : Moves k (s.cfg k).unit s (t.coilMoved k) := h.thenMoves (moves_coilMoved k t)
  refine ⟨seqFrame_power all.frame, fun _ => recompute_driven _, shuts_of_moves all fun protects hs => ?_⟩
  have proves := steady_of_proveFrame (recompute_proves (t.unitEvent (t.cfg k).unit))
  have set : Calm (t.unitEvent (t.cfg k).unit) ((t.unitEvent (t.cfg k).unit).setOutputs _) :=
    .of_eq rfl rfl rfl rfl rfl rfl
  refine proves.unitShuts (set.unitShuts ?_)
  rw [cfg]
  refine unitShuts_of_moved (unitEvent_moved ?_ _) ?_
  · rw [seqFrame_mode h.frame]
    exact protects
  · rw [units]
    exact (hs protects _).1

theorem works_writeMoved (r : CoilSeq) : Works s ((s.writeCoil k r).coilMoved k) :=
  works_coilMoved (moves_writeCoil k s r) rfl

theorem works_enterStage (st : CoilStage) : Works s (s.enterStage k st) := works_writeMoved _

theorem works_demote : Works s (s.demote k) := works_ite (works_enterStage _) (Rules.refl s).works

theorem works_promote (st : CoilStage) : Works s (s.promote k st) :=
  works_ite ((works_writeMoved _).trans works_demote) (works_writeMoved _)

theorem writeCoil_units (s : State) (k : Fin 6) (r : CoilSeq) : (s.writeCoil k r).units = s.units := rfl

theorem works_tripEntry (cause : TripCause) : Works s (s.tripEntry k cause) := by
  have banded := moves_setBand k s (s.cfg k).unit .trip
  unfold State.tripEntry
  dsimp only
  split
  · exact works_coilMoved (banded.thenMoves (moves_writeCoil k _ _)) (writeCoil_units ..)
  · refine works_coilMoved ((banded.thenMoves (moves_writeCoil k _ _)).thenMoves Moves.refl.lockout) ?_
    rw [lockoutChange_eq, State.setStore_units, writeCoil_units]
    rfl

theorem works_workingOutcome (cause : TripCause) : Works s (s.workingOutcome k cause) := by
  unfold State.workingOutcome
  split
  · exact works_tripEntry cause
  · exact works_promote _
  · exact works_promote _
  · exact works_promote _
  · exact works_demote

theorem works_settleOutcome (accepted : Bool) (cause : TripCause) : Works s (s.settleOutcome k accepted cause) := by
  have counted (n : Nat) : Works s (s.setCoil k { s.coils.at k with settle := n }) :=
    (steady_setCoil (r := { s.coils.at k with settle := n }) rfl rfl).rules.works
  refine works_ite (works_tripEntry cause) (works_ite (works_ite ?_ ?_) (counted _))
  · exact (counted _).trans (works_enterStage _)
  · exact (counted _).trans (works_promote _)

theorem works_updateOutcome (accepted : Bool) (cause : Option TripCause) : Works s (s.updateOutcome k accepted cause) := by
  refine works_ite (Rules.refl s).works ?_
  split
  · exact works_settleOutcome accepted _
  · exact works_workingOutcome _
  · exact works_workingOutcome _
  · exact works_workingOutcome _
  all_goals exact (Rules.refl s).works

/-- The exposure records are read in FALLBACK alone. -/
theorem works_setExposure (r : Exposure) : Works s (s.setExposure k r) := ⟨rfl, id, id⟩

theorem works_resetCoil : Works s (s.resetCoil k) := (works_setExposure _).trans (works_promote _)

theorem works_escalate : Works s (s.escalate k) := by
  refine works_ite (Rules.refl s).works ?_
  split
  · exact works_promote _
  · exact works_tripEntry _
  · exact works_tripEntry _
  all_goals exact (Rules.refl s).works

/-! ### In FALLBACK -/

theorem steady_setStore (s : State) (t : Store) : Steady s (s.setStore t) :=
  .of_eq rfl rfl rfl rfl rfl rfl rfl rfl rfl rfl

theorem held_demote (hs : s.held) (fallback : s.mode = .fallback) : s.demote k = s := by
  have idle := ((hs fallback).1 k).2.2
  simp [State.demote, idle, belowStage]

theorem held_escalate (hs : s.held) (fallback : s.mode = .fallback) : s.escalate k = s := by
  have idle := ((hs fallback).1 k).2.2
  simp [State.escalate, idle]

theorem held_localReset {u : Fin 3} (hs : s.held) (fallback : s.mode = .fallback) : State.localResetCoil u s k = s := by
  have idle := ((hs fallback).1 k).2.2
  simp [State.localResetCoil, State.localResetActs, idle]

theorem rules_demote : Rules s (s.demote k) :=
  works_demote.rules (fun hs fallback => by rw [held_demote hs fallback]; exact hs) (seqFrame_mode (seqFrame_demote s k))

theorem rules_escalate : Rules s (s.escalate k) :=
  works_escalate.rules (fun hs fallback => by rw [held_escalate hs fallback]; exact hs)
    (seqFrame_mode (seqFrame_escalate s k))

theorem rules_pumpFails : Rules s (s.pumpFails k) := (rules_setProve s k _ _).trans rules_escalate

theorem rules_flowEvent (on : Bool) : Rules s (s.flowEvent k on) := by
  unfold State.flowEvent
  split
  · split
    · exact rules_setProve s k _ _
    · exact rules_pumpFails
    · exact rules_setProve s k _ _
    all_goals exact .refl s
  · exact .refl s

theorem rules_proveExpires : Rules s (s.proveExpires k) := by
  unfold State.proveExpires
  split
  · exact rules_pumpFails
  · exact .refl s

theorem rules_holdDownExpires : Rules s (s.holdDownExpires k) := by
  unfold State.holdDownExpires
  dsimp only
  split
  · exact .refl s
  · exact (steady_setCoil (r := { s.coils.at k with holdDown := none }) rfl rfl).rules.trans rules_demote

theorem rules_localResetCoil (u : Fin 3) : Rules s (State.localResetCoil u s k) := by
  have frame := seqFrame_mode (seqFrame_localResetCoil u s k)
  refine Works.rules ?_ (fun hs fallback => by rw [held_localReset hs fallback]; exact hs) frame
  have emptied : Works s (s.setCoil k { s.coils.at k with history := [], lockout := false }) :=
    (steady_setCoil (r := { s.coils.at k with history := [], lockout := false }) rfl rfl).rules.works
  have locked (t : State) : Works t t.lockoutChange := by
    rw [lockoutChange_eq]
    exact (steady_setStore t _).rules.works
  unfold State.localResetCoil
  dsimp only
  split
  · split
    · exact (emptied.trans (locked _)).trans works_resetCoil
    · exact emptied.trans works_resetCoil
  · exact (Rules.refl s).works

theorem rules_frameUpdate (r : FrameReport) : Rules s (s.frameUpdate k r) := by
  have edges (t : State) (b b' : Band) : Works t (t.raiseBandEdge k b b') := by
    unfold State.raiseBandEdge
    split
    · exact (steady_raiseEdge t _).rules.works
    · exact (steady_raiseEdge t _).rules.works
    · exact (steady_raiseEdge t _).rules.works
    · exact (Rules.refl t).works
  have updated : Works s (s.updateExposure k r) :=
    ((works_setExposure _).trans (edges _ _ _)).trans (works_updateOutcome _ _)
  have mode : (s.updateExposure k r).mode = s.mode := seqFrame_mode (moves_updateExposure k s r).frame
  unfold State.frameUpdate
  split
  · exact .refl s
  all_goals
    rename_i protects
    refine updated.rules (fun _ fallback => ?_) mode
    rw [protects] at fallback
    cases fallback

end

theorem rules_localReset (s : State) (u : Fin 3) : Rules s (s.localReset u) :=
  rules_foldl _ (fun _ _ => rules_localResetCoil u) _ s

/-! ## Operations that move a unit -/

/-- A unit that goes between shutdown stages, or between the others, keeps its trip condition's rule; FALLBACK has no such unit. -/
theorem rules_unitRecompute {s t : State} {u : Fin 3} (h : unitFrame u s t) (placed : (s.units.at u).stage ≠ .idle)
    (stays : (t.units.at u).stage ≠ .idle) (shut : (t.units.at u).stage.shut = (s.units.at u).stage.shut) :
    Rules s t.recompute := by
  obtain ⟨frame, others⟩ := h
  have mode : t.mode = s.mode := by rw [frame]
  have power : t.power = s.power := by rw [frame]
  have trip (v : Fin 3) : t.tripOf v = s.tripOf v := by
    rw [frame]
    rfl
  have steps := rules_recompute t
  refine Works.rules ⟨steps.power.trans power, fun _ => recompute_driven t, fun hs => steps.shuts ?_⟩ ?_
    ((seqFrame_mode (seqFrame_recompute t)).trans mode)
  · intro protects v
    have hv := hs (mode ▸ protects) v
    unfold State.unitShuts at hv ⊢
    rw [trip]
    by_cases own : v = u
    · rw [own] at hv ⊢
      exact ⟨stays, shut.trans hv.2⟩
    · rw [others v own]
      exact hv
  · exact fun hs fallback => absurd ((hs fallback).2 u) placed

theorem unitFrame_enterSecureFault (u : Fin 3) (s : State) : unitFrame u s (s.enterSecureFault u) :=
  unitFrame_trans (unitFrame_setUnit u s _) (unitFrame_handSecureFault u u _)

/-- The record after the entry to SECURE_FAULT (R116). -/
theorem enterSecureFault_record (u : Fin 3) (s : State) : (s.enterSecureFault u).units.at u = { s.units.at u with
    stage := .secureFault, stroke := none, fan := none, missingDamper := !s.damperProof u,
    missingFan := !s.fanProof u } :=
  Tab.at_put_self _ _ _

theorem rules_strokeExpired (s : State) (u : Fin 3) : Rules s (s.strokeExpired u) := by
  unfold State.strokeExpired
  split
  · rename_i closing _
    have placed : (s.units.at u).stage ≠ .idle := by rw [closing]; decide
    unfold State.strokeExpires
    split
    · exact rules_unitRecompute (unitFrame_setUnit u s _) placed (by simp [closing]) (by simp)
    · refine rules_unitRecompute (unitFrame_enterSecureFault u s) placed ?_ ?_ <;>
        simp [enterSecureFault_record, closing, UnitStage.shut]
  · exact .refl s

theorem rules_fanExpired (s : State) (u : Fin 3) : Rules s (s.fanExpired u) := by
  unfold State.fanExpired
  split
  · rename_i closing _
    have placed : (s.units.at u).stage ≠ .idle := by rw [closing]; decide
    unfold State.fanExpires
    split
    · exact rules_unitRecompute (unitFrame_setUnit u s _) placed (by simp [closing]) (by simp)
    · refine rules_unitRecompute (unitFrame_enterSecureFault u s) placed ?_ ?_ <;>
        simp [enterSecureFault_record, closing, UnitStage.shut]
  · exact .refl s

theorem rules_holdOffExpired (s : State) (u : Fin 3) : Rules s (s.holdOffExpired u) := by
  unfold State.holdOffExpired
  split
  · rename_i holding _
    have placed : (s.units.at u).stage ≠ .idle := by rw [holding]; decide
    refine rules_unitRecompute (unitFrame_leaveRestartHold u s) placed ?_ ?_ <;>
      simp only [State.leaveRestartHold, State.setUnit_units, Tab.at_put_self, holding] <;> split <;>
      simp [UnitStage.shut]
  · exact .refl s

theorem rules_proofEvent (s : State) (u : Fin 3) (damper present : Bool) :
    Rules s (s.proofEvent u damper present).recompute := by
  unfold State.proofEvent
  dsimp only
  split
  case h_1 closing =>
    split
    · refine rules_unitRecompute (unitFrame_enterSecured u s) (by rw [closing]; decide) ?_ ?_ <;>
        simp [enterSecured_record, closing, UnitStage.shut]
    · exact rules_recompute s
  case h_2 secured =>
    split
    · exact rules_recompute s
    · refine rules_unitRecompute (unitFrame_enterSecureFault u s) (by rw [secured]; decide) ?_ ?_ <;>
        simp [enterSecureFault_record, secured, UnitStage.shut]
  case h_3 faulted =>
    have placed : (s.units.at u).stage ≠ .idle := by rw [faulted]; decide
    generalize hr : (if damper = true then _ else _ : UnitRec) = r'
    have stage : r'.stage = .secureFault := by
      rw [← hr]
      split <;> exact faulted
    split
    · refine rules_unitRecompute (unitFrame_setUnit u s _) placed ?_ ?_ <;> simp [stage, faulted]
    · refine rules_unitRecompute (unitFrame_trans (unitFrame_setUnit u s _) (unitFrame_enterSecured u _)) placed ?_ ?_ <;>
        simp [enterSecured_record, faulted, UnitStage.shut]
  all_goals exact rules_recompute s

/-! ## The other blocks' events -/

theorem steady_of_storeFrame {s t : State} (h : storeFrame s t) : Steady s t := by
  rw [h]
  exact .of_eq rfl rfl rfl rfl rfl rfl rfl rfl rfl rfl

theorem steady_of_samplerFrame {s t : State} (h : samplerFrame s t) : Steady s t := by
  rw [h]
  exact .of_eq rfl rfl rfl rfl rfl rfl rfl rfl rfl rfl

theorem steady_setMaster (s : State) (g : Fin 3) (m : Master) : Steady s (s.setMaster g m) :=
  .of_eq rfl rfl rfl rfl rfl rfl rfl rfl rfl rfl

theorem steady_setInput (s : State) (i : Fin 15) (r : InputRec) : Steady s (s.setInput i r) :=
  .of_eq rfl rfl rfl rfl rfl rfl rfl rfl rfl rfl

theorem steady_setFace (s : State) (k : Fin 6) (f : Face) : Steady s (s.setFace k f) :=
  .of_eq rfl rfl rfl rfl rfl rfl rfl rfl rfl rfl

theorem steady_setPin (s : State) (i : Fin 15) (high : Bool) : Steady s (s.setPin i high) :=
  .of_eq rfl rfl rfl rfl rfl rfl rfl rfl rfl rfl

theorem steady_giveResult (g : Fin 3) (r : PointResult) (s : State) (p : Fin 48) : Steady s (State.giveResult g r s p) :=
  .of_eq rfl rfl rfl rfl rfl rfl rfl rfl rfl rfl

theorem rules_setMaster (s : State) (g : Fin 3) (m : Master) : Rules s (s.setMaster g m) := (steady_setMaster s g m).rules

theorem rules_handDemandsStale (s : State) : Rules s s.handDemandsStale :=
  rules_foldl _ (fun s _ => (steady_handLevel s _ _).rules) _ s

theorem rules_lifetimeExpires (s : State) (o : Fin 18) : Rules s (s.lifetimeExpires o) := by
  unfold State.lifetimeExpires
  dsimp only
  split
  · exact .refl s
  · have stale (d : Demand) : Calm s (s.setDemand o d) := .of_eq rfl rfl rfl rfl rfl rfl
    exact (stale _).thenRecompute.trans (rules_handDemandsStale _)

theorem rules_closeCoilFrame (s : State) (k : Fin 6) (l : List SnapEntry) (n : Nat) : Rules s (s.closeCoilFrame k l n) := by
  have ragged (t : State) : Rules t (t.handRagged k) :=
    rules_ite (fun _ => (steady_raiseEdge t _).rules) fun _ => .refl t
  exact (((steady_setFace s k _).rules.trans (ragged _)).trans (steady_handLevel _ _ _).rules).trans (rules_frameUpdate _)

theorem rules_closeFrame (s : State) (g : Fin 3) : Rules s (s.closeFrame g) :=
  rules_foldl _ (fun s k => rules_ite (fun _ => rules_closeCoilFrame s k _ _) fun _ => .refl s) _ s

theorem rules_giveResult (g : Fin 3) (r : PointResult) (s : State) (p : Fin 48) : Rules s (State.giveResult g r s p) :=
  (steady_giveResult g r s p).rules

theorem rules_giveRest (s : State) (g : Fin 3) (r : PointResult) : Rules s (s.giveRest g r) :=
  rules_foldl _ (rules_giveResult g r) _ s

theorem rules_goOn (s : State) (g : Fin 3) : Rules s (s.goOn g) := by
  refine rules_ite (fun _ => ?_) fun _ => rules_ite (fun _ => ?_) fun _ => .refl s
  · have cut : Rules s (s.countCut g) := rules_ite (fun _ => .refl s) fun _ => rules_setMaster s g _
    exact (((cut.trans (rules_giveRest _ g _)).trans (rules_setMaster _ g _)).trans (rules_closeFrame _ g)).trans
      (rules_setMaster _ g _)
  · exact (rules_setMaster s g _).trans (rules_closeFrame _ g)

theorem rules_setBusFault (s : State) (g : Fin 3) (v : Bool) : Rules s (s.setBusFault g v) :=
  (rules_setMaster s g _).trans (steady_handLevel _ _ _).rules

theorem rules_attemptEnds (s : State) (g : Fin 3) (r : PointResult) : Rules s (s.attemptEnds g r) := by
  unfold State.attemptEnds
  split
  · exact .refl s
  · exact (rules_giveResult g r s _).trans (rules_goOn _ g)

theorem rules_attemptStuck (s : State) (g : Fin 3) : Rules s (s.attemptStuck g) := by
  unfold State.attemptStuck
  split
  · exact .refl s
  · exact (rules_giveResult g _ s _).trans (rules_setMaster _ g _)

theorem rules_recoveryFails (s : State) (g : Fin 3) : Rules s (s.recoveryFails g) := by
  have faulted : Rules s (s.setMasterState g .faulted) := rules_setMaster s g _
  have closed := ((faulted.trans (rules_setBusFault _ g true)).trans (rules_giveRest _ g .segmentFault)).trans
    (rules_closeFrame _ g)
  exact rules_ite (fun _ => closed.trans (rules_setMaster _ g _)) fun _ => closed

theorem rules_recoveryEnds (s : State) (g : Fin 3) (freed : Bool) : Rules s (s.recoveryEnds g freed) := by
  unfold State.recoveryEnds
  split
  · refine rules_ite (fun _ => ?_) fun _ => rules_recoveryFails s g
    exact ((rules_setMaster s g _).trans (rules_setBusFault _ g _)).trans (rules_goOn _ g)
  all_goals exact .refl s

theorem rules_frameTimerExpires (s : State) (g : Fin 3) : Rules s (s.frameTimerExpires g) := by
  unfold State.frameTimerExpires
  dsimp only
  split
  · exact .refl s
  · split <;> exact (rules_setMaster s g _).trans (rules_setMaster _ g _)

theorem rules_deliver (s : State) (i : Fin 15) : Rules s (s.deliver i) := by
  unfold State.deliver
  dsimp only
  split
  · exact rules_flowEvent _
  · split
    · exact rules_proofEvent s _ _ _
    · split
      · exact rules_proofEvent s _ _ _
      · exact rules_ite (fun _ => rules_localReset s _) fun _ => .refl s

theorem rules_adoptLevel (s : State) (i : Fin 15) : Rules s (s.adoptLevel i) :=
  (steady_setInput s i _).rules.trans (rules_deliver _ i)

theorem rules_levelChanged (s : State) (i : Fin 15) : Rules s (s.levelChanged i) :=
  rules_ite (fun _ => (steady_setInput s i _).rules) fun _ =>
    rules_ite (fun _ => rules_adoptLevel s i) fun _ => (steady_setInput s i _).rules

theorem rules_debounceExpires (s : State) (i : Fin 15) : Rules s (s.debounceExpires i) := by
  unfold State.debounceExpires
  dsimp only
  split
  · exact .refl s
  · exact rules_ite (fun _ => (steady_setInput s i _).rules) fun _ => rules_adoptLevel s i

theorem BlockActs.rules {s t : State} (h : BlockActs s t) : Rules s t := by
  cases h with
  | phaseCompletes same => exact (steady_of_storeFrame (storeFrame_phaseCompletes s same)).rules
  | phaseExpires => exact (steady_of_storeFrame (storeFrame_phaseExpires s)).rules
  | conversionEnds code => exact (steady_of_samplerFrame (samplerFrame_conversionEnds s code)).rules
  | frameTimerExpires g => exact rules_frameTimerExpires s g
  | attemptEnds g r => exact rules_attemptEnds s g r
  | attemptStuck g => exact rules_attemptStuck s g
  | recoveryEnds g freed => exact rules_recoveryEnds s g freed
  | holdDownExpires k => exact rules_holdDownExpires
  | proveExpires k => exact rules_proveExpires
  | strokeExpired u => exact rules_strokeExpired s u
  | fanExpired u => exact rules_fanExpired s u
  | holdOffExpired u => exact rules_holdOffExpired s u
  | lifetimeExpires o => exact rules_lifetimeExpires s o
  | pinMoves i high =>
    exact (steady_setPin s i high).rules.trans (rules_levelChanged _ i)
  | debounceExpires i => exact rules_debounceExpires s i

end Sys2Proof.Machine
end

section
/-! PROOF. The three rules at the owners of requests and at a start, and the invariants of every step (O7, O8, O9). -/

namespace Sys2Proof.Machine

open Sys2Proof

theorem Steady.trans {s t u : State} (h : Steady s t) (h' : Steady t u) : Steady s u where
  power := h'.power.trans h.power
  mode := h'.mode.trans h.mode
  cfgs k := ⟨(h'.cfgs k).1.trans (h.cfgs k).1, (h'.cfgs k).2.trans (h.cfgs k).2⟩
  coils k := ⟨(h'.coils k).1.trans (h.coils k).1, (h'.coils k).2.trans (h.coils k).2⟩
  stages u := (h'.stages u).trans (h.stages u)
  exposures k := ⟨(h'.exposures k).1.trans (h.exposures k).1, (h'.exposures k).2.trans (h.exposures k).2⟩
  tables := h'.tables.trans h.tables
  units := h'.units.trans h.units
  hosts o := (h'.hosts o).trans (h.hosts o)
  outputs := h'.outputs.trans h.outputs

theorem Calm.trans {s t u : State} (h : Calm s t) (h' : Calm t u) : Calm s u where
  power := h'.power.trans h.power
  mode := h'.mode.trans h.mode
  cfgs k := ⟨(h'.cfgs k).1.trans (h.cfgs k).1, (h'.cfgs k).2.trans (h.cfgs k).2⟩
  coils k := ⟨(h'.coils k).1.trans (h.coils k).1, (h'.coils k).2.trans (h.coils k).2⟩
  stages u := (h'.stages u).trans (h.stages u)
  exposures k := ⟨(h'.exposures k).1.trans (h.exposures k).1, (h'.exposures k).2.trans (h.exposures k).2⟩

theorem steady_ite {c : Prop} [Decidable c] {s a b : State} (ha : Steady s a) (hb : Steady s b) :
    Steady s (if c then a else b) := by
  split
  · exact ha
  · exact hb

theorem steady_foldl {α : Type} (f : State → α → State) (h : ∀ s a, Steady s (f s a)) (l : List α) (s : State) :
    Steady s (l.foldl f s) := by
  induction l generalizing s with
  | nil => exact .refl s
  | cons a l ih => exact (h s a).trans (ih (f s a))

theorem steady_setLink (s : State) (l : Link) : Steady s (s.setLink l) := .of_eq rfl rfl rfl rfl rfl rfl rfl rfl rfl rfl

theorem steady_handCoil (s : State) (k : Fin 6) : Steady s (s.handCoil k) :=
  ((steady_handLevel s _ _).trans (steady_handLevel _ _ _)).trans (steady_handLevel _ _ _)

theorem steady_handBlind (s : State) (k : Fin 6) : Steady s (s.handBlind k) := steady_handLevel s _ _

theorem steady_handDemandsStale (s : State) : Steady s s.handDemandsStale :=
  steady_foldl State.handDemandStale (fun s _ => steady_handLevel s _ _) _ s

theorem proveFrame_proveFresh (s : State) (k : Fin 6) : proveFrame s (s.proveFresh k) := by
  unfold State.proveFresh
  repeat' split
  all_goals exact proveFrame_setProve s k _ _

theorem steady_proveFresh (s : State) (k : Fin 6) : Steady s (s.proveFresh k) := steady_of_proveFrame (proveFrame_proveFresh s k)

/-! ## Arming (R14, R121) -/

theorem shuts_writeEvent {s : State} {k : Fin 6} (r : CoilSeq) (hs : s.shuts) :
    ((s.writeCoil k r).unitEvent (s.cfg k).unit).shuts := by
  refine shuts_of_moves ((moves_writeCoil k s r).trans (moves_unitEvent k _ _)) (fun protects hs => ?_) hs
  exact unitShuts_of_moved (unitEvent_moved (s := s.writeCoil k r) protects _) (by rw [writeCoil_units]; exact (hs protects _).1)

theorem shuts_armCoil {s : State} (k : Fin 6) (hs : s.shuts) : (s.armCoil k).shuts := by
  unfold State.armCoil
  dsimp only
  split
  · split
    · exact shuts_writeEvent _ hs
    · split
      · exact hs
      · exact shuts_writeEvent _ hs
  · exact hs

theorem shuts_foldl {α : Type} (f : State → α → State) (h : ∀ s a, s.shuts → (f s a).shuts) (l : List α) {s : State}
    (hs : s.shuts) : (l.foldl f s).shuts := by
  induction l generalizing s with
  | nil => exact hs
  | cons a l ih => exact ih (h s a hs)

theorem seqFrame_armCoil (s : State) (k : Fin 6) : seqFrame s (s.armCoil k) := by
  unfold State.armCoil
  dsimp only
  repeat' split
  all_goals
    first
      | exact seqFrame_refl s
      | exact seqFrame_trans (seqFrame_writeCoil s k _) (seqFrame_unitEvent _ _)

theorem rules_arm {s : State} (test : s.mode = .test) : Rules s s.arm := by
  have frame := seqFrame_foldl State.armCoil seqFrame_armCoil allCoils { s with mode := .armed }
  have told : Calm (allCoils.foldl State.armCoil { s with mode := .armed }) (State.handModeTest _) :=
    (steady_handLevel _ _ _).toCalm
  have merged := told.thenRecompute
  have mode : s.arm.mode = .armed := (seqFrame_mode (seqFrame_recompute _)).trans (told.mode.trans (seqFrame_mode frame))
  have power : s.arm.power = s.power := merged.power.trans ((seqFrame_power frame).trans rfl)
  refine ⟨power, fun _ => recompute_driven _, fun _ fallback => ?_, fun hs => ?_⟩
  · rw [mode] at fallback
    cases fallback
  · refine merged.shuts (shuts_foldl _ (fun _ k => shuts_armCoil k) _ fun _ => ?_)
    exact hs (by rw [test]; decide)

/-! ## Units placed (R120, R121) -/

theorem unitFrame_placeUnit (u : Fin 3) (s : State) : unitFrame u s (s.placeUnit u) := by
  unfold State.placeUnit
  dsimp only
  have set := unitFrame_setUnit u s { s.units.at u with temper := s.temperOf u, trip := s.tripOf u }
  split
  · exact unitFrame_trans set (unitFrame_enterClosing u _)
  · split <;> exact unitFrame_trans set (unitFrame_setUnit u _ _)

theorem unitFrame_startUnit (u : Fin 3) (s : State) : unitFrame u s (s.startUnit u) := by
  have fresh := unitFrame_trans (unitFrame_setUnit u s UnitRec.start) (unitFrame_handSecureFault u u _)
  unfold State.startUnit
  dsimp only
  split
  · exact fresh
  · exact unitFrame_trans fresh (unitFrame_placeUnit u _)
  · exact unitFrame_trans fresh (unitFrame_placeUnit u _)

/-- The record of a unit that is placed: CLOSING, or SECURED at once, where a coil of it is tripped; otherwise TEMPER or RUN. -/
theorem placeUnit_record (u : Fin 3) (s : State) :
    (s.placeUnit u).units.at u =
      (if s.tripOf u then
        if s.damperProof u && s.fanProof u then { s.units.at u with
          temper := s.temperOf u, trip := true, stage := .secured, stroke := none, fan := none, holdOff := none,
          missingDamper := false, missingFan := false, closingSecond := some s.plantSeconds }
        else { s.units.at u with
          temper := s.temperOf u, trip := true, stage := .closing, stroke := some (s.tables.units.at u).strokeLimit,
          fan := some (s.tables.units.at u).fanStopLimit, holdOff := none, missingDamper := false, missingFan := false,
          closingSecond := some s.plantSeconds }
      else { s.units.at u with
        temper := s.temperOf u, trip := false, stage := if s.temperOf u then .temper else .run }) := by
  have set : (s.setConditions u).units.at u = { s.units.at u with temper := s.temperOf u, trip := s.tripOf u } :=
    Tab.at_put_self _ _ _
  unfold State.placeUnit
  dsimp only
  rw [set]
  cases trip : s.tripOf u <;> cases temper : s.temperOf u
  case true.false | true.true =>
    rw [if_pos rfl, enterClosing_record, set, trip, temper]
    rfl
  all_goals simp [State.setUnit]

theorem startUnit_eq {s : State} (protects : s.mode ≠ .fallback) (u : Fin 3) :
    s.startUnit u = ((s.setUnit u UnitRec.start).handSecureFault u).placeUnit u := by
  have mode : ((s.setUnit u UnitRec.start).handSecureFault u).mode = s.mode := rfl
  unfold State.startUnit
  dsimp only
  rw [mode]
  cases h : s.mode
  · rfl
  · rfl
  · exact absurd h protects

theorem unitShuts_startUnit {s : State} (protects : s.mode ≠ .fallback) (u : Fin 3) : (s.startUnit u).unitShuts u := by
  have trip : (s.startUnit u).tripOf u = s.tripOf u := by
    rw [(unitFrame_startUnit u s).1]
    rfl
  have before : ((s.setUnit u UnitRec.start).handSecureFault u).tripOf u = s.tripOf u := rfl
  unfold State.unitShuts
  rw [trip, startUnit_eq protects, placeUnit_record, before]
  split
  · split <;> simp_all [UnitStage.shut]
  · dsimp only
    split <;> simp_all [UnitStage.shut]

theorem unitShuts_of_unitFrame {s t : State} {u v : Fin 3} (h : unitFrame u s t) (other : v ≠ u) (hs : s.unitShuts v) :
    t.unitShuts v := by
  have trip : t.tripOf v = s.tripOf v := by
    rw [h.1]
    rfl
  unfold State.unitShuts
  rw [trip, h.2 v other]
  exact hs

/-- The units started one after another are each by their trip condition. -/
theorem shuts_startUnits {s : State} (l : List (Fin 3)) (v : Fin 3) (hv : v ∈ l ∨ s.unitShuts v)
    (protects : s.mode ≠ .fallback) : (l.foldl State.startUnit s).unitShuts v := by
  induction l generalizing s with
  | nil => exact hv.resolve_left List.not_mem_nil
  | cons u l ih =>
    refine ih ?_ (by rw [(unitFrame_startUnit u s).1]; exact protects)
    by_cases own : v = u
    · exact .inr (own ▸ unitShuts_startUnit protects u)
    · rcases hv with hv | hv
      · exact .inl ((List.mem_cons.mp hv).resolve_left own)
      · exact .inr (unitShuts_of_unitFrame (unitFrame_startUnit u s) own hv)

theorem shuts_allUnitsStarted (s : State) : (allUnits.foldl State.startUnit s).shuts := by
  intro protects v
  refine shuts_startUnits _ v (.inl (by revert v; decide)) ?_
  rw [seqFrame_mode (seqFrame_foldl _ seqFrame_startUnit _ _)] at protects
  exact protects

/-! ## The plant enters TEST (R13) -/

theorem seqFrame_placeCoil (s : State) (k : Fin 6) : seqFrame s (s.placeCoil k) := by
  unfold State.placeCoil
  dsimp only
  split <;> rfl

theorem seqFrame_handCoil (s : State) (k : Fin 6) : seqFrame s (s.handCoil k) := rfl

theorem seqFrame_releaseCoil (s : State) (k : Fin 6) : seqFrame s (s.releaseCoil k) := by
  unfold State.releaseCoil
  split
  · exact seqFrame_trans (seqFrame_placeCoil s k) (seqFrame_handCoil _ k)
  · exact seqFrame_refl s

theorem rules_enterTest (s : State) : Rules s s.enterTest := by
  unfold State.enterTest
  split
  · exact .refl s
  · rename_i armed
    have told : Calm { s with mode := .test } (State.handModeTest _) := (steady_handLevel _ _ _).toCalm
    have merged := told.thenRecompute
    refine ⟨merged.power, fun _ => recompute_driven _, fun _ fallback => ?_, fun hs => merged.shuts fun _ => ?_⟩
    · rw [seqFrame_mode (seqFrame_recompute _)] at fallback
      cases fallback
    · exact hs (by rw [armed]; decide)
  · dsimp only
    have released := seqFrame_foldl State.releaseCoil seqFrame_releaseCoil allCoils { s with mode := .test }
    have started := seqFrame_trans released (seqFrame_foldl State.startUnit seqFrame_startUnit allUnits _)
    have told : Calm (allUnits.foldl State.startUnit (allCoils.foldl State.releaseCoil { s with mode := .test }))
      (State.handModeTest _) := (steady_handLevel _ _ _).toCalm
    have merged := told.thenRecompute
    refine ⟨merged.power.trans ((seqFrame_power started).trans rfl), fun _ => recompute_driven _, fun _ fallback => ?_,
      fun _ => merged.shuts (shuts_allUnitsStarted _)⟩
    rw [seqFrame_mode (seqFrame_recompute _), told.mode, seqFrame_mode started] at fallback
    cases fallback

/-! ## SET-COIL (R4) -/

/-- From `s` to `t` only records of coil `k`, the frames' coil sets and the alerts changed. -/
def ownCoil (k : Fin 6) (s t : State) : Prop :=
  t = { s with
    detectors := t.detectors, coils := t.coils, exposures := t.exposures, faces := t.faces, masters := t.masters,
    alerts := t.alerts } ∧
  ∀ j, j ≠ k → t.coils.at j = s.coils.at j ∧ t.exposures.at j = s.exposures.at j ∧ t.faces.at j = s.faces.at j ∧
    t.detectors.at j = s.detectors.at j

theorem ownCoil_refl (k : Fin 6) (s : State) : ownCoil k s s := ⟨rfl, fun _ _ => ⟨rfl, rfl, rfl, rfl⟩⟩

theorem ownCoil_trans {k : Fin 6} {s t u : State} (h : ownCoil k s t) (h' : ownCoil k t u) : ownCoil k s u := by
  obtain ⟨frame, others⟩ := h
  obtain ⟨frame', others'⟩ := h'
  refine ⟨by rw [frame', frame], fun j hj => ?_⟩
  obtain ⟨coils, exposures, faces, detectors⟩ := others j hj
  obtain ⟨coils', exposures', faces', detectors'⟩ := others' j hj
  exact ⟨coils'.trans coils, exposures'.trans exposures, faces'.trans faces, detectors'.trans detectors⟩

section
variable (s : State) (k : Fin 6)

theorem ownCoil_setCoil (r : CoilSeq) : ownCoil k s (s.setCoil k r) :=
  ⟨rfl, fun _ hj => ⟨Tab.at_put_of_ne _ _ hj, rfl, rfl, rfl⟩⟩

theorem ownCoil_setExposure (r : Exposure) : ownCoil k s (s.setExposure k r) :=
  ⟨rfl, fun _ hj => ⟨rfl, Tab.at_put_of_ne _ _ hj, rfl, rfl⟩⟩

theorem ownCoil_setFace (r : Face) : ownCoil k s (s.setFace k r) :=
  ⟨rfl, fun _ hj => ⟨rfl, rfl, Tab.at_put_of_ne _ _ hj, rfl⟩⟩

theorem ownCoil_setDetector (r : Detector) : ownCoil k s (s.setDetector k r) :=
  ⟨rfl, fun _ hj => ⟨rfl, rfl, rfl, Tab.at_put_of_ne _ _ hj⟩⟩

theorem ownCoil_handCoil : ownCoil k s (s.handCoil k) := ⟨rfl, fun _ _ => ⟨rfl, rfl, rfl, rfl⟩⟩

theorem ownCoil_readyDetector (old new : CoilCfg) : ownCoil k s (s.readyDetector k old new) := by
  unfold State.readyDetector
  split
  · exact ownCoil_setDetector s k _
  · exact ownCoil_refl k s

theorem ownCoil_placeCoil : ownCoil k s (s.placeCoil k) := by
  unfold State.placeCoil
  dsimp only
  split
  · exact ownCoil_trans (ownCoil_setExposure s k _) (ownCoil_setCoil _ k _)
  · exact ownCoil_trans (ownCoil_setExposure s k _) (ownCoil_setCoil _ k _)

theorem ownCoil_removeCoil : ownCoil k s (s.removeCoil k) :=
  ownCoil_trans (ownCoil_setExposure s k _) (ownCoil_trans (ownCoil_setCoil _ k _) (ownCoil_handCoil _ k))

theorem ownCoil_presenceChange (old new : CoilCfg) : ownCoil k s (s.presenceChange k old new) := by
  unfold State.presenceChange
  split
  · exact ownCoil_trans (ownCoil_setFace s k _) (ownCoil_placeCoil _ k)
  · split
    · exact ownCoil_removeCoil s k
    · exact ownCoil_refl k s

theorem ownCoil_leaveFrames (old new : CoilCfg) : ownCoil k s (s.leaveFrames k old new) := by
  rcases leaveFrames_cases s k old new with ⟨-, e⟩ | ⟨-, -, e⟩ <;> rw [e] <;> exact ⟨rfl, fun _ _ => ⟨rfl, rfl, rfl, rfl⟩⟩

end

/-- What the first part of an accepted SET-COIL leaves as it stands. -/
theorem ownCoil_coilRecorded (s : State) (k : Fin 6) (new : CoilCfg) :
    ownCoil k (s.writeCoilCfg k new) (s.coilRecorded k new) :=
  ownCoil_trans (ownCoil_readyDetector _ k _ _) (ownCoil_trans (ownCoil_setCoil _ k _)
    (ownCoil_trans (ownCoil_presenceChange _ k _ _) (ownCoil_leaveFrames _ k _ _)))

/-- A SET-COIL that keeps presence and unit touches no stage, exposure, face or frame. -/
theorem coilRecorded_kept {s : State} {k : Fin 6} {new : CoilCfg} (present : new.present = (s.cfg k).present)
    (unit : new.unit = (s.cfg k).unit) :
    s.coilRecorded k new =
      { s with
        tables := { s.tables with coils := s.tables.coils.put k new }
        detectors := if (s.cfg k).lwt ≠ new.lwt then s.detectors.put k .ready else s.detectors
        coils := s.coils.put k { s.coils.at k with history := trimHistory (s.coils.at k).history new.lockoutLimit } } := by
  unfold State.coilRecorded State.leaveFrames State.presenceChange State.readyDetector
  rw [present, unit]
  cases (s.cfg k).present <;> simp <;> split <;> rfl

theorem unitsConcerned_kept {s : State} {old new : CoilCfg} (present : new.present = old.present)
    (unit : new.unit = old.unit) : s.unitsConcerned old new = s := if_pos ⟨present.symm, unit.symm⟩

theorem cfg_of_put {s t : State} {k : Fin 6} {new : CoilCfg} (h : t.tables.coils = s.tables.coils.put k new) (j : Fin 6) :
    t.cfg j = if j = k then new else s.cfg j := by
  unfold State.cfg
  rw [h, Tab.at_put]

theorem calm_coilRecorded {s : State} {k : Fin 6} {new : CoilCfg} (present : new.present = (s.cfg k).present)
    (unit : new.unit = (s.cfg k).unit) : Calm s (s.coilRecorded k new) := by
  rw [coilRecorded_kept present unit]
  refine ⟨rfl, rfl, fun j => ?_, fun j => ?_, fun _ => rfl, fun _ => ⟨rfl, rfl⟩⟩
  · rw [cfg_of_put (k := k) (new := new) rfl]
    split
    · rename_i hj
      rw [hj]
      exact ⟨present, unit⟩
    · exact ⟨rfl, rfl⟩
  · dsimp only
    rw [Tab.at_put]
    split
    · rename_i hj
      rw [hj]
      exact ⟨rfl, rfl⟩
    · exact ⟨rfl, rfl⟩

theorem steady_coilSettled (s : State) (k : Fin 6) (old new : CoilCfg) : Steady s (s.coilSettled k old new) :=
  ((steady_ite (steady_proveFresh s k) (.refl s)).trans (steady_handDemandsStale _)).trans (steady_handLevel _ _ _)

theorem unitShuts_unitEvent {s : State} {u v : Fin 3} (protects : s.mode ≠ .fallback)
    (placed : (s.units.at u).stage ≠ .idle) (hv : v ≠ u → s.unitShuts v) : (s.unitEvent u).unitShuts v := by
  by_cases own : v = u
  · rw [own]
    exact unitShuts_of_moved (unitEvent_moved protects u) placed
  · exact unitShuts_of_unitFrame (unitFrame_unitEvent u s) own (hv own)

/-- The units of a SET-COIL's old and new record handle their events, and the other units stand (R110, R122). -/
theorem shuts_unitsConcerned {s : State} {old new : CoilCfg} (protects : s.mode ≠ .fallback)
    (placed : ∀ v, (s.units.at v).stage ≠ .idle) (others : ∀ v, v ≠ old.unit → v ≠ new.unit → s.unitShuts v)
    (changed : ¬ (old.present = new.present ∧ old.unit = new.unit)) : (s.unitsConcerned old new).shuts := by
  intro _ v
  rw [State.unitsConcerned, if_neg changed]
  by_cases same : old.unit = new.unit
  · rw [if_pos same]
    exact unitShuts_unitEvent protects (placed _) fun hv => others v (same ▸ hv) hv
  · rw [if_neg same]
    have frame := unitFrame_unitEvent old.unit s
    have first (v : Fin 3) (hv : v ≠ new.unit) : (s.unitEvent old.unit).unitShuts v :=
      unitShuts_unitEvent protects (placed _) fun ho => others v ho hv
    refine unitShuts_unitEvent (by rw [frame.1]; exact protects) ?_ (first v)
    rw [frame.2 _ (Ne.symm same)]
    exact placed _

theorem coilMerged_eq (s : State) (k : Fin 6) (old new : CoilCfg) :
    s.coilMerged k old new = (((s.handCoil k).handBlind k).unitsConcerned old new).recompute := rfl

theorem seqFrame_unitsConcerned (s : State) (old new : CoilCfg) : seqFrame s (s.unitsConcerned old new) :=
  seqFrame_ite (seqFrame_refl s)
    (seqFrame_ite (seqFrame_unitEvent s _) (seqFrame_trans (seqFrame_unitEvent s _) (seqFrame_unitEvent _ _)))

theorem rules_applyCoil {s : State} {k : Fin 6} {new : CoilCfg}
    (structural : s.mode = .test ∨ new.present = (s.cfg k).present ∧ new.unit = (s.cfg k).unit) :
    Rules s (s.applyCoil k new) := by
  rw [applyCoil_eq]
  have settled := (steady_coilSettled ((s.coilRecorded k new).coilMerged k (s.cfg k) new) k (s.cfg k) new).rules
  refine Rules.trans ?_ settled
  have handed := (steady_handCoil (s.coilRecorded k new) k).trans (steady_handBlind _ k)
  rw [coilMerged_eq]
  by_cases kept : new.present = (s.cfg k).present ∧ new.unit = (s.cfg k).unit
  · rw [unitsConcerned_kept kept.1 kept.2]
    exact ((calm_coilRecorded kept.1 kept.2).trans handed.toCalm).thenRecompute
  · have test := structural.resolve_right kept
    have frame := (ownCoil_coilRecorded s k new).1
    have moved := seqFrame_unitsConcerned (((s.coilRecorded k new).handCoil k).handBlind k) (s.cfg k) new
    have merged := rules_recompute ((((s.coilRecorded k new).handCoil k).handBlind k).unitsConcerned (s.cfg k) new)
    have mode : (s.coilRecorded k new).mode = .test := by rw [frame]; exact test
    refine ⟨?_, fun _ => recompute_driven _, fun _ fallback => ?_, fun hs => merged.shuts ?_⟩
    · rw [merged.power, seqFrame_power moved, handed.power, frame]
      rfl
    · rw [seqFrame_mode (seqFrame_recompute _), seqFrame_mode moved, handed.mode, mode] at fallback
      cases fallback
    · have hs := hs (by rw [test]; decide)
      refine shuts_unitsConcerned (by rw [handed.mode, mode]; decide) (fun v => ?_) (fun v hold hnew => ?_)
        (fun h => kept ⟨h.1.symm, h.2.symm⟩)
      · rw [handed.stages, frame]
        exact (hs v).1
      · refine handed.toCalm.unitShuts ?_
        have cfgs (j : Fin 6) : (s.coilRecorded k new).coilOf v j = s.coilOf v j := by
          unfold State.coilOf
          rw [cfg_of_put (s := s) (k := k) (new := new) (by rw [frame]; rfl)]
          split
          · rename_i hj
            rw [hj]
            simp [Ne.symm hold, Ne.symm hnew]
          · rfl
        have units : (s.coilRecorded k new).units = s.units := by rw [frame]; rfl
        unfold State.unitShuts
        rw [units, tripOf_congr cfgs fun j of => ?_]
        · exact hs v
        · by_cases hj : j = k
          · rw [hj, coilOf_of_cfg hold] at of
            cases of
          · rw [((ownCoil_coilRecorded s k new).2 j hj).1]
            rfl

/-! ## The owners of requests -/

theorem applyDemands_eq (s : State) (l : List (Fin 18 × Half)) :
    s.applyDemands l = { s with demands := (s.applyDemands l).demands } := by
  have fold (f : State → Fin 18 × Half → State) (h : ∀ s p, f s p = { s with demands := (f s p).demands })
      (l : List (Fin 18 × Half)) (s : State) : l.foldl f s = { s with demands := (l.foldl f s).demands } := by
    induction l generalizing s with
    | nil => rfl
    | cons p l ih =>
      rw [List.foldl_cons, ih, h]
  unfold State.applyDemands
  rw [fold State.refreshDemand (fun _ _ => rfl) l (l.foldl State.applyDemand s), fold State.applyDemand (fun _ _ => rfl) l s]

theorem OwnerActs.rules {s t : State} (h : OwnerActs s t) : Rules s t := by
  cases h with
  | nothing => exact .refl s
  | errorsCleared => exact (steady_setLink s _).rules
  | countsCleared g => exact rules_setMaster s g _
  | demandsPut l =>
    have put : Calm s (s.applyDemands l) := by
      rw [applyDemands_eq]
      exact .of_eq rfl rfl rfl rfl rfl rfl
    exact put.thenRecompute.trans (rules_handDemandsStale _)
  | acknowledged x => exact (steady_setAlerts s _).rules
  | tripReset k _ tripped =>
    refine works_resetCoil.rules (fun hs fallback => ?_) (seqFrame_mode (seqFrame_resetCoil s k))
    have idle := ((hs fallback).1 k).2.2
    rw [tripped] at idle
    cases idle
  | notArmed v => exact Steady.rules (.of_eq rfl rfl rfl rfl rfl rfl rfl rfl rfl rfl)
  | armed v test =>
    have noted : Steady s { s with validation := v } := .of_eq rfl rfl rfl rfl rfl rfl rfl rfl rfl rfl
    exact noted.rules.trans (rules_arm test)
  | testEntered => exact rules_enterTest s
  | forced k st test _ _ =>
    refine (works_writeMoved _).rules (fun _ fallback => ?_) (seqFrame_mode (moves_writeMoved k s _).frame)
    rw [test] at fallback
    cases fallback
  | released k test _ =>
    refine (works_writeMoved _).rules (fun _ fallback => ?_) (seqFrame_mode (moves_writeMoved k s _).frame)
    rw [test] at fallback
    cases fallback
  | coilSet k c structural => exact rules_applyCoil structural
  | plainSet t coils units outputs _ => exact Steady.rules (.of_eq rfl rfl coils units outputs rfl rfl rfl rfl rfl)
  | outputsSet t coils => exact Calm.thenRecompute (.of_eq rfl rfl coils rfl rfl rfl)
  | inputInverted t i coils units outputs =>
    have set : Steady s (s.setTables t) := .of_eq rfl rfl coils units outputs rfl rfl rfl rfl rfl
    exact set.rules.trans (rules_levelChanged _ i)
  | classSet t coils units outputs _ => exact Steady.rules (.of_eq rfl rfl coils units outputs rfl rfl rfl rfl rfl)
  | maskSet t coils units outputs => exact Steady.rules (.of_eq rfl rfl coils units outputs rfl rfl rfl rfl rfl)
  | saveStarted => exact (steady_of_storeFrame (storeFrame_startSave s)).rules
  | restartAccepted => exact (steady_setLink s _).rules

/-! ## A start -/

theorem seqFrame_startCoil (s : State) (k : Fin 6) : seqFrame s (s.startCoil k) := by
  unfold State.startCoil
  split
  · exact seqFrame_refl s
  · exact seqFrame_ite (seqFrame_placeCoil s k) (seqFrame_refl s)
  · exact seqFrame_ite (seqFrame_placeCoil s k) (seqFrame_refl s)

theorem seqFrame_startPlaced (s : State) (cold : Bool) (strap : Strap) :
    seqFrame (s.loadStart cold strap).startBlocks (s.startPlaced cold strap) :=
  seqFrame_trans (seqFrame_foldl _ seqFrame_startCoil _ _) (seqFrame_foldl _ seqFrame_startUnit _ _)

theorem steady_lockoutChange (s : State) : Steady s s.lockoutChange := by
  rw [lockoutChange_eq]
  exact steady_setStore s _

theorem steady_handStartLevels (s : State) : Steady s s.handStartLevels :=
  ((((steady_handLevel s _ _).trans (steady_handLevel _ _ _)).trans
    (steady_foldl State.handCoilLevels (fun t k => (steady_handCoil t k).trans (steady_handBlind _ k)) _ _)).trans
    (steady_handDemandsStale _)).trans (steady_handLevel _ _ _)

theorem steady_startHanded (s : State) : Steady s s.startHanded :=
  ((steady_ite (steady_lockoutChange s) (.refl s)).trans (steady_handStartLevels _)).trans (steady_setAlerts _ _)

/-- After the units are placed a completing start sets the pins, and what follows leaves the rules' fields. -/
theorem steady_startCompleted (s : State) : Steady (s.setOutputs s.effective) s.startDriven.startHanded :=
  (steady_foldl _ steady_proveFresh _ _).trans
    ((steady_of_samplerFrame (samplerFrame_beginPass _)).trans (steady_startHanded _))

theorem completeStart_driven (s : State) (cold : Bool) (strap : Strap) : (s.completeStart cold strap).driven := by
  rw [completeStart_eq]
  exact (steady_startCompleted _).driven rfl

theorem calm_setOutputs (s : State) (o : Outputs) : Calm s (s.setOutputs o) := .of_eq rfl rfl rfl rfl rfl rfl

theorem calm_startCompleted (s : State) (cold : Bool) (strap : Strap) :
    Calm (s.startPlaced cold strap) (s.completeStart cold strap) := by
  rw [completeStart_eq]
  exact (calm_setOutputs _ _).trans (steady_startCompleted _).toCalm

theorem completeStart_power (s : State) (cold : Bool) (strap : Strap) : (s.completeStart cold strap).power = .running :=
  (calm_startCompleted s cold strap).power.trans (seqFrame_power (seqFrame_startPlaced s cold strap))

theorem completeStart_shuts (s : State) (cold : Bool) (strap : Strap) : (s.completeStart cold strap).shuts :=
  (calm_startCompleted s cold strap).shuts (shuts_allUnitsStarted _)

theorem startUnit_fallback {s : State} (fallback : s.mode = .fallback) (u : Fin 3) :
    s.startUnit u = (s.setUnit u UnitRec.start).handSecureFault u := by
  have mode : ((s.setUnit u UnitRec.start).handSecureFault u).mode = s.mode := rfl
  unfold State.startUnit
  dsimp only
  rw [mode, fallback]

theorem startCoil_fallback {s : State} (fallback : s.mode = .fallback) (k : Fin 6) : s.startCoil k = s := by
  unfold State.startCoil
  rw [fallback]

theorem foldl_startCoil_fallback {s : State} (fallback : s.mode = .fallback) (l : List (Fin 6)) :
    l.foldl State.startCoil s = s := by
  induction l with
  | nil => rfl
  | cons k l ih => rw [List.foldl_cons, startCoil_fallback fallback, ih]

/-- The units started one after another in FALLBACK are each IDLE. -/
theorem idle_startUnits {s : State} (fallback : s.mode = .fallback) (l : List (Fin 3)) (v : Fin 3)
    (hv : v ∈ l ∨ (s.units.at v).stage = .idle) : ((l.foldl State.startUnit s).units.at v).stage = .idle := by
  induction l generalizing s with
  | nil => exact hv.resolve_left List.not_mem_nil
  | cons u l ih =>
    refine ih (by rw [(unitFrame_startUnit u s).1]; exact fallback) ?_
    by_cases own : v = u
    · refine .inr ?_
      rw [startUnit_fallback fallback, own]
      exact congrArg UnitRec.stage (Tab.at_put_self s.units u UnitRec.start)
    · rcases hv with hv | hv
      · exact .inl ((List.mem_cons.mp hv).resolve_left own)
      · exact .inr (by rw [(unitFrame_startUnit u s).2 v own]; exact hv)

theorem startUnits_blocks (s : State) (l : List (Fin 3)) :
    (l.foldl State.startUnit s).coils = s.coils ∧ (l.foldl State.startUnit s).exposures = s.exposures := by
  induction l generalizing s with
  | nil => exact ⟨rfl, rfl⟩
  | cons u l ih =>
    obtain ⟨coils, exposures⟩ := ih (s.startUnit u)
    rw [List.foldl_cons, coils, exposures, (unitFrame_startUnit u s).1]
    exact ⟨rfl, rfl⟩

theorem completeStart_held (s : State) (cold : Bool) (strap : Strap) : (s.completeStart cold strap).held := by
  refine (calm_startCompleted s cold strap).held fun fallback => ?_
  rw [seqFrame_mode (seqFrame_startPlaced s cold strap)] at fallback
  unfold State.startPlaced
  rw [foldl_startCoil_fallback fallback, (startUnits_blocks _ _).1, (startUnits_blocks _ _).2]
  refine ⟨fun k => ⟨?_, ?_, ?_⟩, fun u => idle_startUnits fallback _ u (.inl (by revert u; decide))⟩
  · change ((Tab.build fun _ => Exposure.start).at k).e = 0
    rw [Tab.at_build]
    rfl
  · change ((Tab.build fun _ => Exposure.start).at k).band = .clear
    rw [Tab.at_build]
    rfl
  · change ((Tab.build (s.startSeq cold)).at k).stage = .idle
    rw [Tab.at_build]
    rfl

/-! ## Every step -/

/-- A rule of a running part that the end of an event does not read. -/
theorem linkKept_running {R : State → Prop} (link : ∀ (s : State) (l : Link), R s → R (s.setLink l))
    (alerts : ∀ (s : State) (a : Alerts), R s → R (s.setAlerts a)) (uses : ∀ (s : State) (n : Nat), R s → R { s with freeUses := n })
    (line : ∀ (s : State) (b : Bool), R s → R { s with alertLine := b }) : LinkKept fun s => s.power = .running ∧ R s where
  link s l h := ⟨h.1, link s l h.2⟩
  due s _ h := ⟨h.1, alerts s _ h.2⟩
  uses s n h := ⟨h.1, uses s n h.2⟩
  line s b h := ⟨h.1, line s b h.2⟩
  report s _ _ h := ⟨h.1, link _ _ (alerts s _ h.2)⟩

/-- A rule kept by the blocks and the owners is kept by every event of a running part. -/
theorem running_event {R : State → Prop} (K : LinkKept fun s => s.power = .running ∧ R s)
    (rules : ∀ s t, Rules s t → R s → R t) {s t : State} (running : s.power = .running) (act : EventActs s t) (hs : R s) :
    t.conclude.power = .running ∧ R t.conclude :=
  K.conclude _ (K.event (fun _ _ h hs => ⟨h.rules.power.trans hs.1, rules _ _ h.rules hs.2⟩)
    (fun _ _ h hs => ⟨h.rules.power.trans hs.1, rules _ _ h.rules hs.2⟩) act ⟨running, hs⟩)

theorem linkKept_driven : LinkKept fun s => s.power = .running ∧ s.driven :=
  linkKept_running (fun _ _ => id) (fun _ _ => id) (fun _ _ => id) fun _ _ => id

theorem linkKept_held : LinkKept fun s => s.power = .running ∧ s.held :=
  linkKept_running (fun _ _ => id) (fun _ _ => id) (fun _ _ => id) fun _ _ => id

theorem linkKept_shuts : LinkKept fun s => s.power = .running ∧ s.shuts :=
  linkKept_running (fun _ _ => id) (fun _ _ => id) (fun _ _ => id) fun _ _ => id

/-- A second that passes moves no stage and no host value. -/
theorem steady_secondPasses (s : State) : Steady s s.advanceSeconds.countTimers := by
  rw [secondPasses_eq]
  exact ⟨⟨rfl, rfl, fun _ => ⟨rfl, rfl⟩, fun k => by simp, fun u => by simp, fun _ => ⟨rfl, rfl⟩⟩, rfl, rfl,
    fun o => by simp [State.hostValue], rfl⟩

/-- A rule of a running part that the blocks and the owners keep and that holds as a start completes is kept by every step. -/
theorem took_keeps {R : State → Prop} (K : LinkKept fun s => s.power = .running ∧ R s)
    (rules : ∀ s t, Rules s t → R s → R t) (start : ∀ s cold strap, R (State.completeStart s cold strap)) {s t : State}
    (hs : s.power = .running → R s) (h : Took s t) (running : t.power = .running) : R t := by
  cases h with
  | nothing => exact hs running
  | startBegins cold => cases running
  | powerLost => cases running
  | pinMoves i high stopped => exact absurd running stopped
  | startCompletes cold strap _ => exact (K.conclude _ ⟨completeStart_power s cold strap, start s cold strap⟩).2
  | secondPasses power => exact rules _ _ (steady_secondPasses s).rules (hs power)
  | gapExpires power =>
    rw [gapExpires_eq]
    exact rules _ _ (steady_setLink s _).rules (hs power)
  | event power act => exact (running_event K rules power act (hs power)).2

/-- Settles O7: every update of what the pins follow is followed by a recompute, and a start holds the posture. -/
theorem everyStepKeepsTheOutputsAtTheirRules : Obligations.EveryStepKeepsTheOutputsAtTheirRules := by
  refine step_keeps (fun s l => id) fun s t hs h =>
    ⟨took_keeps linkKept_driven (fun _ _ h => h.driven) completeStart_driven hs.1 h, fun cold starting => ?_⟩
  cases h with
  | nothing => exact hs.2 cold starting
  | startBegins cold => rfl
  | powerLost => cases starting
  | pinMoves i high stopped => exact hs.2 cold starting
  | startCompletes cold strap _ =>
    have running := (linkKept_driven.conclude _ ⟨completeStart_power s cold strap, completeStart_driven s cold strap⟩).1
    rw [running] at starting
    cases starting
  | secondPasses power =>
    rw [(steady_secondPasses s).power, power] at starting
    cases starting
  | gapExpires power =>
    rw [gapExpires_eq, (steady_setLink s _).power, power] at starting
    cases starting
  | event power act =>
    rw [(running_event linkKept_driven (fun _ _ h => h.driven) power act (hs.1 power)).1] at starting
    cases starting

/-- Settles O8: the engines move outside FALLBACK alone, and a start in FALLBACK leaves them held. -/
theorem everyStepHoldsTheEnginesInFallback : Obligations.EveryStepHoldsTheEnginesInFallback :=
  step_keeps (fun _ _ => id) fun _ _ => took_keeps linkKept_held (fun _ _ h => h.held) completeStart_held

/-- Settles O9: every stage change of a coil is an event of its unit, which places the unit by its trip condition. -/
theorem everyStepKeepsTripAndShutdownTogether : Obligations.EveryStepKeepsTripAndShutdownTogether :=
  step_keeps (fun _ _ => id) fun _ _ => took_keeps linkKept_shuts (fun _ _ h => h.shuts) completeStart_shuts

end Sys2Proof.Machine
end

section
/-! PROOF. The queue of commands, reset, the receiver, waiting requests and the late fields of a notice (O1, O2, O14, O16, O20). -/

namespace Sys2Proof.Machine

open Sys2Proof

/-! ## The queue of commands and reset -/

/-- Settles O1: both clauses are the two cases of `step`. -/
theorem stepTakesTheFrontCommand : Obligations.StepTakesTheFrontCommand := by
  refine ⟨fun c rest s front => ?_, fun s empty => ?_⟩
  · rw [step, front]
  · rw [step, empty]

theorem alertLineLevel_start {s : State} (h : s.alerts = Alerts.start) : s.alertLineLevel = false := by
  simp [State.alertLineLevel, h, Alerts.start]

theorem reset_exposure (k : Fin 6) : State.reset.exposures.at k = Exposure.start := Tab.at_build _ _

/-- Every rule of the whole part holds at reset: nothing runs, and the link, the resolver and the store are empty. -/
theorem reset_lawful : State.reset.lawful := by
  have settled : State.reset.settled := ⟨rfl, trivial, (alertLineLevel_start rfl).symm⟩
  have bounded : State.reset.linkBounded := ⟨Nat.zero_le _, Nat.zero_le _, fun _ waits => absurd rfl waits⟩
  have exposure : State.reset.exposureBounded := fun k => by
    rw [reset_exposure]
    exact exposure_start_bounded
  have stopped : ¬ State.reset.power = .running := by decide
  exact ⟨settled, bounded, alertsOrdered_start, exposure, ⟨fun running => absurd running stopped, fun _ _ => rfl⟩,
    fun running => absurd running stopped, fun running => absurd running stopped, fun _ => ⟨rfl, rfl⟩⟩

/-- Settles O2: the reset state is written out in the model, field by field. -/
theorem resetHoldsTheBeginningOfAColdStart : Obligations.ResetHoldsTheBeginningOfAColdStart := by
  refine ⟨reset_lawful, rfl, fun k => ⟨?_, ?_⟩, fun u => ⟨?_, ?_⟩, rfl, rfl, fun x => ⟨?_, ?_⟩, fun c => ?_, rfl, rfl, rfl, rfl,
    rfl, rfl⟩
  all_goals simp [State.reset, Outputs.posture, Alerts.start]

/-! ## The receiver (R156 to R158) -/

section
variable {s : State}

theorem whileRunning_running (running : s.power = .running) (act : State → State) : whileRunning s act = .next (act s) := by
  rw [whileRunning, running]

theorem exec_rxByte (running : s.power = .running) (b : Byte) : exec (.rxByte b) s = .next (s.receiveByte b).conclude :=
  whileRunning_running running fun s => (s.receiveByte b).conclude

theorem exec_gapTimerExpiry (running : s.power = .running) : exec .gapTimerExpiry s = .next s.gapExpires :=
  whileRunning_running running State.gapExpires

/-- A link whose transmit queue stands, in a settled state. -/
theorem settled_setLink {l : Link} (queue : l.txQueue = s.link.txQueue) (h : s.settled) : (s.setLink l).settled := by
  obtain ⟨due, begun, line⟩ := h
  refine ⟨due, ?_, line⟩
  unfold State.headBegun at begun ⊢
  rw [show (s.setLink l).link.txQueue = s.link.txQueue from queue]
  exact begun

theorem settled_setReceiver (r : Receiver) (h : s.settled) : (s.setReceiver r).settled := settled_setLink rfl h

theorem settled_setBuffer (l : List Frame) (h : s.settled) : (s.setBuffer l).settled := settled_setLink rfl h

theorem settled_linkError (e : LinkError) (h : s.settled) : (s.linkError e).settled := settled_setLink rfl h

/-- The count of link errors as R158 states it. -/
theorem satAdd_eq (bound n : Nat) : satAdd bound n = min (n + 1) (max n bound) := by
  unfold satAdd
  split <;> omega

theorem linkError_eq (e : LinkError) :
    s.linkError e = s.setLink { s.link with lastError := e, errorCount := min (s.link.errorCount + 1) (max s.link.errorCount 65535) } := by
  unfold State.linkError
  rw [satAdd_eq]
  rfl

/-- A byte kept by the receiver of a settled part. -/
theorem exec_rxByte_kept (running : s.power = .running) (hs : s.settled) {b : Byte} {r : Receiver}
    (h : s.receiveByte b = s.setReceiver r) : exec (.rxByte b) s = .next (s.setReceiver r) := by
  rw [exec_rxByte running, h, conclude_settled (settled_setReceiver r hs)]

theorem receiveByte_start {b : Byte} (idle : s.link.receiver = .idle) (h : b = 0x5A) :
    s.receiveByte b = s.setReceiver (.inFrame []) := by
  unfold State.receiveByte
  rw [idle]
  exact if_pos h

theorem receiveByte_ignored {b : Byte} (idle : s.link.receiver = .idle) (h : b ≠ 0x5A) : s.receiveByte b = s := by
  unfold State.receiveByte
  rw [idle]
  exact if_neg h

theorem receiveByte_length {b : Byte} (started : s.link.receiver = .inFrame []) :
    s.receiveByte b =
      if 2 ≤ b.toNat ∧ b.toNat ≤ 242 then s.setReceiver (.inFrame [b]) else (s.setReceiver .idle).linkError .badLength := by
  unfold State.receiveByte within
  rw [started]
  simp

theorem receiveByte_later {b len : Byte} {rest : List Byte} (h : s.link.receiver = .inFrame (len :: rest)) :
    s.receiveByte b =
      if rest.length + 2 < len.toNat + 3 then s.setReceiver (.inFrame (len :: (rest ++ [b])))
      else (s.setReceiver .idle).frameComplete (len :: (rest ++ [b])) := by
  unfold State.receiveByte
  rw [h]
  simp

end

/-- Settles O14: one clause for each case of the receiver. -/
theorem receiverMovesByTheByteAndTheGapTimer : Obligations.ReceiverMovesByTheByteAndTheGapTimer := by
  intro s b running hs
  refine ⟨fun idle other => ?_, fun idle start => exec_rxByte_kept running hs (receiveByte_start idle start),
    fun started low high => exec_rxByte_kept running hs ?_, fun started bad => ?_,
    fun len rest got more => exec_rxByte_kept running hs ?_, fun idle => ?_, fun got inFrame => ?_⟩
  · rw [exec_rxByte running, receiveByte_ignored idle other, conclude_settled hs]
  · rw [receiveByte_length started, if_pos ⟨low, high⟩]
  · rw [exec_rxByte running, receiveByte_length started, if_neg (by omega),
      conclude_settled (settled_linkError _ (settled_setReceiver _ hs))]
  · rw [receiveByte_later got, if_pos more]
  · rw [exec_gapTimerExpiry running, State.gapExpires, idle]
  · rw [exec_gapTimerExpiry running, State.gapExpires, inFrame]
    simp only
    rw [linkError_eq]
    rfl

/-! ## Late fields (R148, R174) -/

theorem lateFields_condition (s : State) (x : Fin 65) :
    (s.lateFields x).condition = (if isLevel x then (s.alerts.sources.at x).condition else true) := by
  unfold State.lateFields
  dsimp only
  split
  · rfl
  · split <;> rfl

theorem lateFields_second (s : State) (x : Fin 65) : (s.lateFields x).second = s.plantSeconds := by
  unfold State.lateFields
  dsimp only
  split
  · rfl
  · split <;> rfl

/-- Settles O16: the source's range tells its owner. -/
theorem noticeLateFieldsFollowTheSource : Obligations.NoticeLateFieldsFollowTheSource := by
  intro s x
  refine ⟨lateFields_condition s x, lateFields_second s x, ?_, ?_, fun device => ?_⟩
  · rintro k j rfl
    have below : (coilSource k j).val < 48 := by simp only [coilSource]; omega
    have owner : Fin.ofNat 6 ((coilSource k j).val / 8) = k := Fin.ext (by simp only [coilSource, Fin.ofNat]; omega)
    unfold State.lateFields
    dsimp only
    rw [if_pos below, owner]
    exact ⟨rfl, rfl, rfl⟩
  · rintro u j rfl
    have notCoil : ¬ (unitSource u j).val < 48 := by simp only [unitSource]; omega
    have below : (unitSource u j).val < 60 := by simp only [unitSource]; omega
    have owner : Fin.ofNat 3 (((unitSource u j).val - 48) / 4) = u := Fin.ext (by simp only [unitSource, Fin.ofNat]; omega)
    unfold State.lateFields
    dsimp only
    rw [if_neg notCoil, if_pos below, owner]
    exact ⟨rfl, rfl, rfl⟩
  · unfold State.lateFields
    dsimp only
    rw [if_neg (by omega), if_neg (by omega)]
    exact ⟨rfl, rfl, rfl⟩

/-! ## Requests that wait or are discarded (R157, R160, R162) -/

/-- Nothing drains where no dispatch succeeds. -/
theorem drain_held {s : State} (h : s.canDispatch = false) (n : Nat) : drain n s = s := by
  cases n with
  | zero => rfl
  | succ n =>
    rw [drain]
    split
    · rfl
    · rw [h]
      rfl

theorem arrive_running {s : State} (running : s.power = .running) (kind tag : Byte) (payload : List Byte) :
    arrive kind tag payload s = .next (s.receiveFrame ⟨kind, tag, payload⟩).conclude :=
  whileRunning_running running _

/-- Settles O20: the buffer's length and `canDispatch` decide. -/
theorem requestsWaitOrAreDiscarded : Obligations.RequestsWaitOrAreDiscarded := by
  intro s kind tag payload running hs
  refine ⟨fun room held => ?_, fun full => ?_⟩
  · have stuck : (s.setBuffer (s.link.rxBuffer ++ [⟨kind, tag, payload⟩])).canDispatch = false := by
      simp only [State.canDispatch, State.txFree, State.setBuffer, State.setLink_link, Config.txCapacity]
      rcases held with full | restart
      · simp [full]
      · simp [restart]
    have roomy : ¬ Config.rxCapacity ≤ s.link.rxBuffer.length := Nat.not_le.mpr room
    rw [arrive_running running, State.receiveFrame, if_neg roomy, State.dispatch, drain_held stuck,
      conclude_settled (settled_setBuffer _ hs)]
    rfl
  · have full : Config.rxCapacity ≤ s.link.rxBuffer.length := full
    rw [arrive_running running, State.receiveFrame, if_pos full, conclude_settled (settled_linkError _ hs)]

end Sys2Proof.Machine
end

section
/-! PROOF. Frames and fields as bytes (O11, O12, O13). -/

namespace Sys2Proof.Machine

open Sys2Proof

/-! ## The CRC-16 (R18, R155) -/

/-- One bit taken into the CRC-16. -/
def crcBit (c : Half) : Half := if c.msb then (c <<< 1) ^^^ 0x1021 else c <<< 1

theorem crcBits_eq_iterate (n : Nat) (c : Half) : crcBits n c = crcBit^[n] c := by
  induction n generalizing c with
  | zero => rfl
  | succ n ih =>
    rw [crcBits, ih]
    exact (Function.iterate_succ_apply crcBit n c).symm

theorem crc16_append (l : List Byte) (b : Byte) : crc16 (l ++ [b]) = crcBit^[8] (crc16 l ^^^ (b ++ (0 : Byte))) := by
  rw [crc16_eq_foldl, crc16_eq_foldl, List.foldl_append, List.foldl_cons, List.foldl_nil, crcBits_eq_iterate]

/-! ## Bytes delivered one after another (R156) -/

section
variable {s : State}

theorem feed_kept {b : Byte} {r : Receiver} (rest : List Byte) (h : exec (.rxByte b) s = .next (s.setReceiver r)) :
    feed (b :: rest) s = feed rest (s.setReceiver r) := by
  rw [feed, h]

/-- Bytes before the last one of a frame are kept, one after another. -/
theorem feed_later (running : s.power = .running) (hs : s.settled) {len : Byte} (l last got : List Byte)
    (h : s.link.receiver = .inFrame (len :: got)) (room : got.length + l.length < len.toNat + 2) :
    feed (l ++ last) s = feed last (s.setReceiver (.inFrame (len :: (got ++ l)))) := by
  induction l generalizing s got with
  | nil =>
    rw [List.append_nil, ← h]
    rfl
  | cons b l ih =>
    simp only [List.length_cons] at room
    have kept : s.receiveByte b = s.setReceiver (.inFrame (len :: (got ++ [b]))) := by
      rw [receiveByte_later h, if_pos (by omega)]
    rw [List.cons_append, feed_kept _ (exec_rxByte_kept running hs kept),
      ih (s := s.setReceiver (.inFrame (len :: (got ++ [b])))) running (settled_setReceiver _ hs) (got ++ [b]) rfl
        (by simp only [List.length_append, List.length_singleton]; omega), List.append_assoc]
    rfl

/-- START, the body of a frame and two bytes, delivered to an idle receiver, are a complete frame. -/
theorem feed_frame (running : s.power = .running) (hs : s.settled) (idle : s.link.receiver = .idle) (f : Frame)
    (fits : f.payload.length ≤ Config.maxPayload) (high low : Byte) :
    feed (0x5A :: (f.body ++ [high, low])) s = .next (s.frameComplete (f.body ++ [high, low])).conclude := by
  have fits : f.payload.length ≤ 240 := fits
  have len : (u8 (f.payload.length + 2)).toNat = f.payload.length + 2 := by
    rw [u8_toNat]
    omega
  have started := exec_rxByte_kept running hs (receiveByte_start idle rfl)
  have running' (r : Receiver) : (s.setReceiver r).power = .running := running
  have length : (s.setReceiver (.inFrame [])).receiveByte (u8 (f.payload.length + 2)) =
      (s.setReceiver (.inFrame [])).setReceiver (.inFrame [u8 (f.payload.length + 2)]) := by
    rw [receiveByte_length rfl, if_pos (by omega)]
  have split : f.body ++ [high, low] = u8 (f.payload.length + 2) :: ((f.kind :: f.tag :: f.payload ++ [high]) ++ [low]) := by
    simp [Frame.body]
  have room : ([] : List Byte).length + (f.kind :: f.tag :: f.payload ++ [high]).length <
      (u8 (f.payload.length + 2)).toNat + 2 := by
    simp only [len, List.length_nil, List.length_append, List.length_cons]
    omega
  rw [split, feed_kept _ started, feed_kept _ (exec_rxByte_kept (running' _) (settled_setReceiver _ hs) length),
    feed_later (s := (s.setReceiver (.inFrame [])).setReceiver (.inFrame [u8 (f.payload.length + 2)])) running
      (settled_setReceiver _ (settled_setReceiver _ hs)) (f.kind :: f.tag :: f.payload ++ [high]) [low] [] rfl room,
    List.nil_append]
  have whole : State.receiveByte (((s.setReceiver (.inFrame [])).setReceiver (.inFrame [u8 (f.payload.length + 2)])).setReceiver
      (.inFrame (u8 (f.payload.length + 2) :: (f.kind :: f.tag :: f.payload ++ [high])))) low =
      s.frameComplete (u8 (f.payload.length + 2) :: ((f.kind :: f.tag :: f.payload ++ [high]) ++ [low])) := by
    rw [receiveByte_later rfl, if_neg (by simp only [len, List.length_append, List.length_cons, List.length_nil]; omega)]
    have stands : s.setReceiver .idle = s := by
      rw [← idle]
      rfl
    exact congrArg (State.frameComplete · _) stands
  rw [feed, exec_rxByte (s := ((s.setReceiver (.inFrame [])).setReceiver (.inFrame [u8 (f.payload.length + 2)])).setReceiver
    (.inFrame (u8 (f.payload.length + 2) :: (f.kind :: f.tag :: f.payload ++ [high])))) running, whole]
  rfl

end

/-- The frame read back from its body and two CRC bytes. -/
theorem frameOf_body (f : Frame) (high low : Byte) :
    frameOf (f.body ++ [high, low]) = if bytesBE 2 (crc16 f.body).toNat = [high, low] then some f else none := by
  have rest : (f.payload ++ [high, low]).length - 2 = f.payload.length := by simp
  simp only [frameOf, Frame.body, List.cons_append, rest, List.take_left, List.drop_left]
  rfl

theorem bytesBE_two (v : Nat) : bytesBE 2 v = [BitVec.ofNat 8 (v / 256), BitVec.ofNat 8 v] := by simp [bytesBE]

theorem wire_eq (f : Frame) : f.wire = 0x5A ::
    (f.body ++ [BitVec.ofNat 8 ((crc16 f.body).toNat / 256), BitVec.ofNat 8 (crc16 f.body).toNat]) := by
  rw [Frame.wire, bytesBE_two]

/-- Settles O11: the receiver keeps every byte but the last, which completes the frame. -/
theorem frameBytesActAsTheFramesArrival : Obligations.FrameBytesActAsTheFramesArrival := by
  intro s f running hs idle fits
  rw [wire_eq, feed_frame running hs idle f fits, arrive_running running, State.frameComplete, frameOf_body,
    if_pos (bytesBE_two _)]

/-- Settles O12: the law of the CRC-16, and a frame whose check fails. -/
theorem damagedCrcIsDiscardedAndCounted : Obligations.DamagedCrcIsDiscardedAndCounted := by
  refine ⟨⟨rfl, crc16_append, by decide +kernel⟩, fun s f b running hs idle fits damaged => ?_⟩
  have damaged : BitVec.ofNat 8 (crc16 f.body).toNat ≠ b := fun same => damaged (by
    rw [wire_eq, same, ← List.cons_append, List.getLast?_append]
    rfl)
  have bytes : f.wire.dropLast ++ [b] = 0x5A :: (f.body ++ [BitVec.ofNat 8 ((crc16 f.body).toNat / 256), b]) := by
    rw [wire_eq, ← List.cons_append, List.dropLast_append_of_ne_nil (by simp)]
    simp
  have fails : ¬ bytesBE 2 (crc16 f.body).toNat = [BitVec.ofNat 8 ((crc16 f.body).toNat / 256), b] := by
    rw [bytesBE_two]
    simpa using damaged
  rw [bytes, feed_frame running hs idle f fits, State.frameComplete, frameOf_body, if_neg fails]
  simp only
  rw [conclude_settled (settled_linkError _ hs), linkError_eq]

/-! ## Fields read back from their bytes (R168, R171, R172) -/

theorem half_bytesBE (h : Half) : half (BitVec.ofNat 8 (h.toNat / 256)) (BitVec.ofNat 8 h.toNat) = h := by
  refine BitVec.eq_of_toNat_eq ?_
  have := h.isLt
  simp only [half, BitVec.toNat_append, BitVec.toNat_ofNat]
  rw [← Nat.shiftLeft_add_eq_or_of_lt (by omega), Nat.shiftLeft_eq]
  omega

theorem triple_bytesBE (h : Triple) : triple (BitVec.ofNat 8 (h.toNat / 65536)) (BitVec.ofNat 8 (h.toNat / 256))
    (BitVec.ofNat 8 h.toNat) = h := by
  refine BitVec.eq_of_toNat_eq ?_
  have := h.isLt
  simp only [triple, BitVec.toNat_append, BitVec.toNat_ofNat]
  rw [← Nat.shiftLeft_add_eq_or_of_lt (by omega), ← Nat.shiftLeft_add_eq_or_of_lt (by omega), Nat.shiftLeft_eq, Nat.shiftLeft_eq]
  omega

theorem bytesBE_three (v : Nat) : bytesBE 3 v = [BitVec.ofNat 8 (v / 65536), BitVec.ofNat 8 (v / 256), BitVec.ofNat 8 v] := by
  simp [bytesBE]

theorem coilBytes_length (w : CoilWire) : (coilBytes w).length = 38 := by simp [coilBytes]

theorem parseCoil_coilBytes (w : CoilWire) : parseCoil (coilBytes w) = some w := by
  simp only [coilBytes, bytesBE_two, bytesBE_three, List.cons_append, List.nil_append, parseCoil, half_bytesBE, triple_bytesBE]

theorem pairsOf_bytes (pairs : List (Byte × Half)) : pairsOf (pairs.flatMap fun p => p.1 :: halfBytes p.2) = pairs := by
  induction pairs with
  | nil => rfl
  | cons p l ih =>
    simp only [halfBytes, bytesBE_two] at ih ⊢
    rw [List.flatMap_cons, List.cons_append, List.cons_append, List.cons_append, List.nil_append, pairsOf, half_bytesBE, ih]

theorem toNat_ofNat_small {n v : Nat} (h : v < 2 ^ n) : (BitVec.ofNat n v).toNat = v := by
  rw [BitVec.toNat_ofNat, Nat.mod_eq_of_lt h]

theorem u8_small {v : Nat} (h : v < 256) : (u8 v).toNat = v := by
  rw [u8_toNat, Nat.mod_eq_of_lt h]

theorem toInt_ofInt_small {z : Int} (low : -32768 ≤ z) (high : z < 32768) : (BitVec.ofInt 16 z).toInt = z := by
  rw [BitVec.toInt_ofInt, Int.bmod]
  split <;> omega

/-- A record that meets its ranges is read back from the fields that a host sends to keep it (R2, R3). -/
theorem coilCfgOf_toWire {c : CoilCfg} (h : c.valid = true) : coilCfgOf c.toWire = some c := by
  have ranges := h
  simp only [CoilCfg.valid, within, withinInt, Bool.and_eq_true, decide_eq_true_eq] at ranges
  unfold coilCfgOf CoilCfg.toWire
  simp only [decFlag_flagByte, decNumber_encNumber (by omega : 3 < 256), decOptChannel_encOptChannel]
  simp (disch := omega) only [u8_small, toNat_ofNat_small, toInt_ofInt_small]
  exact if_pos h

/-- Settles O13. -/
theorem fieldsAreReadBackFromTheirBytes : Obligations.FieldsAreReadBackFromTheirBytes :=
  ⟨fun w => ⟨coilBytes_length w, parseCoil_coilBytes w⟩, pairsOf_bytes, fun _ => coilCfgOf_toWire, by decide +kernel, by decide +kernel,
    by decide +kernel, by decide +kernel, by decide +kernel, by decide +kernel, by decide +kernel⟩

end Sys2Proof.Machine
end

section
/-! PROOF. Requests from their bytes to their owner, and those that carry nothing to act on (O18, O19, O21, O22). -/

namespace Sys2Proof.Machine

open Sys2Proof

/-! ## An owner that leaves a settled state -/

/-- A request whose owner leaves a settled state: the response joins the queue, and nothing else happens. -/
theorem arrive_acted {s t : State} (h : s.ready) {kind tag : Byte} {payload body : List Byte}
    (e : handleRequest ⟨kind, tag, payload⟩ s = ⟨body, t⟩) (ht : t.settled) :
    arrive kind tag payload s = .next (t.answered (kind + 0x80) tag body) := by
  rw [arrive_ready h, State.respond, e]
  exact congrArg Host.Outcome.next (conclude_settled (settled_queueItem ht _))

/-- A request that its owner refuses: the state stands but for the response. -/
theorem arrive_refused {s : State} (h : s.ready) {kind tag : Byte} {payload body : List Byte}
    (e : handleRequest ⟨kind, tag, payload⟩ s = ⟨body, s⟩) :
    arrive kind tag payload s = .next (s.answered (kind + 0x80) tag body) :=
  arrive_acted h e h.2.1

theorem settled_clearLinkErrors {s : State} (h : s.settled) : s.clearLinkErrors.settled := settled_setLink rfl h

/-! ## From the bytes of a request to its owner (R169, R171, R172) -/

section
variable (tag : Byte) (s : State)

theorem handle_setCoil (coil : Byte) (w : CoilWire) :
    handleRequest ⟨0x30, tag, coil :: coilBytes w⟩ s = reqSetCoil coil w s := by
  change handleSetCoil (coil :: coilBytes w) s = _
  rw [handleSetCoil, parseCoil_coilBytes]

theorem handle_setUnit (u f : Byte) (d st h : Half) :
    handleRequest ⟨0x31, tag, u :: halfBytes d ++ halfBytes st ++ [f] ++ halfBytes h⟩ s = reqSetUnit u d st f h s := by
  change handleSetUnit (u :: halfBytes d ++ halfBytes st ++ [f] ++ halfBytes h) s = _
  simp only [halfBytes, bytesBE_two, List.cons_append, List.nil_append, handleSetUnit, half_bytesBE]

theorem handle_setChannel (c trim : Byte) (low high : Half) :
    handleRequest ⟨0x34, tag, [c, trim] ++ halfBytes low ++ halfBytes high⟩ s = reqSetChannel c trim low high s := by
  change handleSetChannel ([c, trim] ++ halfBytes low ++ halfBytes high) s = _
  simp only [halfBytes, bytesBE_two, List.cons_append, List.nil_append, handleSetChannel, half_bytesBE]

theorem handle_setOutput (o l p : Byte) (v : Half) :
    handleRequest ⟨0x36, tag, [o, l, p] ++ halfBytes v⟩ s = reqSetOutput o l p v s := by
  change handleSetOutput ([o, l, p] ++ halfBytes v) s = _
  simp only [halfBytes, bytesBE_two, List.cons_append, List.nil_append, handleSetOutput, half_bytesBE]

theorem handle_setScan {l : List Byte} (fits : l.length ≤ 16) :
    handleRequest ⟨0x35, tag, scanPayload l⟩ s = reqSetScan l s := by
  have count : (u8 l.length).toNat = l.length := u8_small (by omega)
  change handleSetScan (u8 l.length :: l) s = _
  simp [handleSetScan, within, count, fits]

theorem handle_putDemand {pairs : List (Byte × Half)} (some : 1 ≤ pairs.length) (fits : pairs.length ≤ 18) :
    handleRequest ⟨0x10, tag, demandPayload pairs⟩ s = reqPutDemand pairs s := by
  have count : (u8 pairs.length).toNat = pairs.length := u8_small (by omega)
  have length : (pairs.flatMap fun p => p.1 :: halfBytes p.2).length = 3 * pairs.length := by
    simp [List.length_flatMap, halfBytes, Nat.mul_comm]
  change handlePutDemand (u8 pairs.length :: pairs.flatMap fun p => p.1 :: halfBytes p.2) s = _
  rw [handlePutDemand, count, length, pairsOf_bytes]
  simp [within, some, fits]

end

theorem exec_setScan {s : State} (tag : Byte) {l : List Byte} (fits : l.length ≤ 239) :
    exec (.setScan tag l) s = arrive 0x35 tag (scanPayload l) s :=
  if_pos (by
    simp only [scanPayload, Config.maxPayload, List.length_cons]
    omega)

/-! ## Report requests (R163, R164) -/

theorem settled_setMaster {s : State} (g : Fin 3) (m : Master) (h : s.settled) : (s.setMaster g m).settled := h

/-- Settles O18: every report is read from the state before its own response joins the queue. -/
theorem reportRequestsAnswerFromTheState : Obligations.ReportRequestsAnswerFromTheState := by
  intro s tag ready
  have number {n : Nat} (hn : n < 256) (k : Fin n) := decNumber_encNumber hn k
  refine ⟨fun k => arrive_refused ready ?_, fun u => arrive_refused ready ?_, fun k => arrive_refused ready ?_,
    arrive_refused ready rfl, arrive_refused ready rfl, arrive_refused ready rfl,
    arrive_acted (t := s.clearLinkErrors) ready rfl (settled_clearLinkErrors ready.2.1), fun g p => arrive_refused ready ?_,
    fun g p => arrive_acted (t := s.clearFrameCounts g) ready ?_ (settled_setMaster g _ ready.2.1)⟩
  · change reqGetCoil (encNumber k) s = _
    rw [reqGetCoil, number (by omega)]
    rfl
  · change reqGetUnit (encNumber u) s = _
    rw [reqGetUnit, number (by omega)]
    rfl
  · change reqGetTrip (encNumber k) s = _
    rw [reqGetTrip, number (by omega)]
    rfl
  · change reqGetPoints (encNumber g) (encNumber p) 0 s = _
    rw [reqGetPoints, number (by omega), number (by omega)]
    rfl
  · change reqGetPoints (encNumber g) (encNumber p) 1 s = _
    rw [reqGetPoints, number (by omega), number (by omega)]
    rfl

/-! ## Payloads of a wrong length (R161, R169) -/

section
variable {s : State} {payload : List Byte}

theorem take0_wrongLength {req : State → Answer} (h : payload.length ≠ 0) : take0 req payload s = answer .length s := by
  unfold take0
  split
  · exact absurd rfl h
  · rfl

theorem take1_wrongLength {req : Byte → State → Answer} (h : payload.length ≠ 1) : take1 req payload s = answer .length s := by
  unfold take1
  split
  · exact absurd rfl h
  · rfl

theorem take2_wrongLength {req : Byte → Byte → State → Answer} (h : payload.length ≠ 2) :
    take2 req payload s = answer .length s := by
  unfold take2
  split
  · exact absurd rfl h
  · rfl

theorem take3_wrongLength {req : Byte → Byte → Byte → State → Answer} (h : payload.length ≠ 3) :
    take3 req payload s = answer .length s := by
  unfold take3
  split
  · exact absurd rfl h
  · rfl

theorem parseCoil_wrongLength (h : payload.length ≠ 38) : parseCoil payload = none := by
  unfold parseCoil
  split
  · exact absurd rfl h
  · rfl

theorem handleSetCoil_wrongLength (h : payload.length ≠ 39) : handleSetCoil payload s = answer .length s := by
  unfold handleSetCoil
  split
  · rfl
  · rw [parseCoil_wrongLength (by simpa using h)]
    rfl

theorem handleSetUnit_wrongLength (h : payload.length ≠ 8) : handleSetUnit payload s = answer .length s := by
  unfold handleSetUnit
  split
  · exact absurd rfl h
  · rfl

theorem handleSetPoint_wrongLength (h : payload.length ≠ 6) : handleSetPoint payload s = answer .length s := by
  unfold handleSetPoint
  split
  · exact absurd rfl h
  · rfl

theorem handleSetChannel_wrongLength (h : payload.length ≠ 6) : handleSetChannel payload s = answer .length s := by
  unfold handleSetChannel
  split
  · exact absurd rfl h
  · rfl

theorem handleSetOutput_wrongLength (h : payload.length ≠ 5) : handleSetOutput payload s = answer .length s := by
  unfold handleSetOutput
  split
  · exact absurd rfl h
  · rfl

theorem handleTripReset_wrongLength (h : payload.length ≠ 1) : handleTripReset payload s = ⟨[Result.length.code, 0], s⟩ := by
  unfold handleTripReset
  split
  · exact absurd rfl h
  · rfl

theorem handlePutDemand_wrongLength
    (h : ∀ count rest, payload = count :: rest → 1 ≤ count.toNat → count.toNat ≤ 18 → rest.length ≠ 3 * count.toNat) :
    handlePutDemand payload s = answer .length s := by
  unfold handlePutDemand
  split
  · rfl
  · rename_i count rest
    refine if_neg fun fits => ?_
    simp only [within, Bool.and_eq_true, decide_eq_true_eq, beq_iff_eq] at fits
    exact h count rest rfl fits.1.1 fits.1.2 fits.2

theorem handleSetScan_wrongLength
    (h : ∀ count rest, payload = count :: rest → count.toNat ≤ 16 → rest.length ≠ count.toNat) :
    handleSetScan payload s = answer .length s := by
  unfold handleSetScan
  split
  · rfl
  · rename_i count rest
    refine if_neg fun fits => ?_
    simp only [within, Bool.and_eq_true, decide_eq_true_eq, beq_iff_eq] at fits
    exact h count rest rfl fits.1.2 fits.2

/-- The kinds of R169 whose payload has one length, with that length; TRIP-RESET, which adds a reason byte, is not among them. -/
def fixedLengths : List (Byte × Nat) :=
  [((0x01 : Byte), 1), (0x02, 1), (0x03, 1), (0x04, 3), (0x05, 0), (0x06, 1), (0x07, 0), (0x18, 1), (0x19, 0),
    (0x21, 1), (0x22, 2), (0x23, 1), (0x30, 39), (0x31, 8), (0x32, 2), (0x33, 6), (0x34, 6), (0x36, 5), (0x37, 3),
    (0x38, 3), (0x39, 1), (0x40, 0), (0x41, 0)]

theorem handleRequest_wrongLength {kind : Byte} {n : Nat} (tag : Byte) (fixed : (kind, n) ∈ fixedLengths)
    (h : payload.length ≠ n) : handleRequest ⟨kind, tag, payload⟩ s = answer .length s := by
  simp only [fixedLengths, List.mem_cons, Prod.mk.injEq, List.not_mem_nil, or_false] at fixed
  rcases fixed with ⟨rfl, rfl⟩ | ⟨rfl, rfl⟩ | ⟨rfl, rfl⟩ | ⟨rfl, rfl⟩ | ⟨rfl, rfl⟩ | ⟨rfl, rfl⟩ | ⟨rfl, rfl⟩ | ⟨rfl, rfl⟩ |
    ⟨rfl, rfl⟩ | ⟨rfl, rfl⟩ | ⟨rfl, rfl⟩ | ⟨rfl, rfl⟩ | ⟨rfl, rfl⟩ | ⟨rfl, rfl⟩ | ⟨rfl, rfl⟩ | ⟨rfl, rfl⟩ | ⟨rfl, rfl⟩ |
    ⟨rfl, rfl⟩ | ⟨rfl, rfl⟩ | ⟨rfl, rfl⟩ | ⟨rfl, rfl⟩ | ⟨rfl, rfl⟩ | ⟨rfl, rfl⟩
  · exact take1_wrongLength (req := reqGetStatus) h
  · exact take1_wrongLength (req := reqGetCoil) h
  · exact take1_wrongLength (req := reqGetUnit) h
  · exact take3_wrongLength (req := reqGetPoints) h
  · exact take0_wrongLength (req := reqGetChannels) h
  · exact take1_wrongLength (req := reqGetTrip) h
  · exact take0_wrongLength (req := reqGetAlerts) h
  · exact take1_wrongLength (req := reqAckSource) h
  · exact take0_wrongLength (req := reqAckTop) h
  · exact take1_wrongLength (req := reqSetMode) h
  · exact take2_wrongLength (req := reqForceStage) h
  · exact take1_wrongLength (req := reqReleaseStage) h
  · exact handleSetCoil_wrongLength h
  · exact handleSetUnit_wrongLength h
  · exact take2_wrongLength (req := reqSetSegment) h
  · exact handleSetPoint_wrongLength h
  · exact handleSetChannel_wrongLength h
  · exact handleSetOutput_wrongLength h
  · exact take3_wrongLength (req := reqSetInput) h
  · exact take3_wrongLength (req := reqSetSource) h
  · exact take1_wrongLength (req := reqSetResolver) h
  · exact take0_wrongLength (req := reqSave) h
  · exact take0_wrongLength (req := reqRestart) h

/-- A KIND that is no request kind has no owner. -/
theorem handleRequest_unknown {kind : Byte} (tag : Byte) (h : requestKinds.contains kind = false) :
    handleRequest ⟨kind, tag, payload⟩ s = answer .unknown s := by
  have foreign : kind.toNat ∉ requestKinds.map BitVec.toNat := fun known => by
    obtain ⟨k, member, same⟩ := List.mem_map.mp known
    rw [BitVec.eq_of_toNat_eq same] at member
    rw [List.contains_iff_mem.mpr member] at h
    cases h
  unfold handleRequest
  dsimp only
  split
  case h_27 => rfl
  all_goals exact absurd (by rw [‹kind.toNat = _›]; decide) foreign

end

/-- Settles O19. -/
theorem emptyRequestsAreAnsweredAndChangeNothing : Obligations.EmptyRequestsAreAnsweredAndChangeNothing := by
  intro s tag ready
  refine ⟨fun b out => ⟨arrive_refused ready ?_, arrive_refused ready ?_⟩, fun b out => arrive_refused ready ?_,
    fun c out => arrive_refused ready ?_, fun g p c out => arrive_refused ready ?_,
    fun kind payload foreign => ⟨fun fits => ?_, fun long => if_neg (Nat.not_le.mpr long)⟩,
    fun kind n payload fixed wrong => arrive_refused ready (handleRequest_wrongLength tag fixed wrong),
    fun payload wrong => arrive_refused ready (handleTripReset_wrongLength wrong),
    fun payload wrong => arrive_refused ready (handlePutDemand_wrongLength wrong),
    fun payload wrong => arrive_refused ready (handleSetScan_wrongLength wrong), fun pairs count fits => ?_,
    fun channels count fits => ?_⟩
  · change reqGetCoil b s = _
    rw [reqGetCoil, decNumber_eq_none out]
    rfl
  · change reqGetTrip b s = _
    rw [reqGetTrip, decNumber_eq_none out]
    rfl
  · change reqGetUnit b s = _
    rw [reqGetUnit, decNumber_eq_none out]
    rfl
  · change reqGetStatus c s = _
    rw [reqGetStatus, decFlag_eq_none out]
    rfl
  · change reqGetPoints g p c s = _
    unfold reqGetPoints
    split
    · rename_i segment start clear
      rcases out with out | out | out | out | out
      · rw [decNumber_eq_none (.inl out)] at segment; cases segment
      · rw [decNumber_eq_none (.inr out)] at segment; cases segment
      · rw [decNumber_eq_none (.inl out)] at start; cases start
      · rw [decNumber_eq_none (.inr out)] at start; cases start
      · rw [decFlag_eq_none out] at clear; cases clear
    · rfl
  · exact (if_pos fits).trans (arrive_refused ready (handleRequest_unknown tag foreign))
  · have size : (u8 pairs.length).toNat = pairs.length := u8_small (by omega)
    have length : (demandPayload pairs).length = 1 + 3 * pairs.length := by
      simp [demandPayload, List.length_flatMap, halfBytes]
      omega
    refine (if_pos (by rw [length, Config.maxPayload]; omega)).trans (arrive_refused ready (handlePutDemand_wrongLength (payload := demandPayload pairs) ?_))
    intro count rest e low high
    obtain ⟨rfl, -⟩ := List.cons.inj e
    omega
  · have size : (u8 channels.length).toNat = channels.length := u8_small (by omega)
    rw [exec_setScan tag fits]
    refine arrive_refused ready (handleSetScan_wrongLength (payload := scanPayload channels) ?_)
    intro count rest e high
    obtain ⟨rfl, -⟩ := List.cons.inj e
    omega

/-! ## BUSY and MODE (R1, R3, R13, R19, R102, R104) -/

/-- Settles O21: BUSY is the first check of each of these requests. -/
theorem configurationIsBusyDuringASave : Obligations.ConfigurationIsBusyDuringASave := by
  intro s tag ready busy
  have refused (a : Answer) : (if s.saveBusy then answer .busy s else a) = ⟨[1], s⟩ := if_pos busy
  refine ⟨fun c w => arrive_refused ready ((handle_setCoil tag s c w).trans (refused _)),
    fun u d st f h => arrive_refused ready ((handle_setUnit tag s u f d st h).trans (refused _)),
    fun g n => arrive_refused ready (refused _), fun p e g a c i => arrive_refused ready (refused _),
    fun c t l h => arrive_refused ready ((handle_setChannel tag s c t l h).trans (refused _)),
    fun l fits => (exec_setScan tag (by omega)).trans (arrive_refused ready ((handle_setScan tag s fits).trans (refused _))),
    fun o l p v => arrive_refused ready ((handle_setOutput tag s o l p v).trans (refused _)),
    fun i p d => arrive_refused ready (refused _), fun x c m => arrive_refused ready (refused _),
    fun l => arrive_refused ready (refused _), arrive_refused ready (refused _), arrive_refused ready (refused _),
    arrive_refused ready (refused _)⟩

theorem decForceStage_isSome {b : Byte} (low : 2 ≤ b.toNat) (high : b.toNat ≤ 5) : ∃ st, decForceStage b = some st := by
  unfold decForceStage
  interval_cases b.toNat
  · exact ⟨_, rfl⟩
  · exact ⟨_, rfl⟩
  · exact ⟨_, rfl⟩
  · exact ⟨_, rfl⟩

/-- Settles O22: the mode check follows BUSY and the index. -/
theorem structuralChangesAreRefusedOutsideTest : Obligations.StructuralChangesAreRefusedOutsideTest := by
  intro s tag ready notTest
  refine ⟨fun free => ⟨fun p e g a c i => arrive_refused ready ?_, fun l fits => ?_, fun k w changed => arrive_refused ready ?_⟩,
    fun k st low high => arrive_refused ready ?_, fun k => arrive_refused ready ?_⟩
  · change reqSetPoint (encNumber p) e g a c i s = _
    unfold reqSetPoint
    rw [free, decNumber_encNumber (by omega)]
    exact if_pos notTest
  · refine (exec_setScan tag (by omega)).trans (arrive_refused ready ((handle_setScan tag s fits).trans ?_))
    unfold reqSetScan
    rw [free]
    exact if_pos notTest
  · refine (handle_setCoil tag s _ w).trans ?_
    have refuses : (!s.coilModeAdmits k w) = true := by simp [State.coilModeAdmits, notTest, changed]
    unfold reqSetCoil
    rw [free, decNumber_encNumber (by omega)]
    exact if_pos refuses
  · obtain ⟨stage, decoded⟩ := decForceStage_isSome low high
    change reqForceStage (encNumber k) st s = _
    rw [reqForceStage, decNumber_encNumber (by omega), decoded]
    exact if_pos notTest
  · change reqReleaseStage (encNumber k) s = _
    rw [reqReleaseStage, decNumber_encNumber (by omega)]
    exact if_pos notTest

end Sys2Proof.Machine
end

section
/-! PROOF. The configuration requests that replace a record or refuse (O23, O24, O25). -/

namespace Sys2Proof.Machine

open Sys2Proof

/-! ## What each encoding admits (R168) -/

theorem decNumber_eq_some {n : Nat} {b : Byte} {k : Fin n} (h : decNumber n b = some k) :
    1 ≤ b.toNat ∧ b.toNat ≤ n ∧ b.toNat = k.val + 1 := by
  unfold decNumber at h
  split at h
  · obtain rfl := Option.some.inj h
    simp only
    omega
  · cases h

theorem decNumber_exists {n : Nat} {b : Byte} : (∃ k, decNumber n b = some k) ↔ 1 ≤ b.toNat ∧ b.toNat ≤ n := by
  refine ⟨fun ⟨k, h⟩ => ⟨(decNumber_eq_some h).1, (decNumber_eq_some h).2.1⟩, fun h => ⟨_, dif_pos h⟩⟩

theorem decIndex_exists {n : Nat} {b : Byte} : (∃ k, decIndex n b = some k) ↔ b.toNat < n := by
  refine ⟨fun ⟨k, h⟩ => ?_, fun h => ⟨_, dif_pos h⟩⟩
  unfold decIndex at h
  split at h
  · assumption
  · cases h

theorem decFlag_exists {b : Byte} : (∃ v, decFlag b = some v) ↔ b.toNat ≤ 1 := by
  refine ⟨fun ⟨v, h⟩ => ?_, fun h => ?_⟩
  · by_contra big
    rw [decFlag_eq_none (by omega)] at h
    cases h
  · rcases Nat.le_one_iff_eq_zero_or_eq_one.mp h with zero | one
    · obtain rfl : b = 0 := BitVec.eq_of_toNat_eq zero
      exact ⟨_, rfl⟩
    · obtain rfl : b = 1 := BitVec.eq_of_toNat_eq one
      exact ⟨_, rfl⟩

theorem decOptChannel_exists {b : Byte} : (∃ c, decOptChannel b = some c) ↔ b = 0xFF ∨ b.toNat ≤ 15 := by
  unfold decOptChannel
  split
  · exact ⟨fun _ => .inl ‹_›, fun _ => ⟨_, rfl⟩⟩
  · rename_i bound
    simp only [Option.map_eq_some_iff, bound, false_or]
    rw [← Nat.lt_succ_iff, ← decIndex_exists]
    exact ⟨fun ⟨_, c, h, _⟩ => ⟨c, h⟩, fun ⟨c, h⟩ => ⟨_, c, h, rfl⟩⟩

theorem decOptCoil_exists {b : Byte} : (∃ c, decOptCoil b = some c) ↔ b = 0xFF ∨ 1 ≤ b.toNat ∧ b.toNat ≤ 6 := by
  unfold decOptCoil
  split
  · exact ⟨fun _ => .inl ‹_›, fun _ => ⟨_, rfl⟩⟩
  · rename_i bound
    simp only [Option.map_eq_some_iff, bound, false_or]
    rw [← decNumber_exists]
    exact ⟨fun ⟨_, c, h, _⟩ => ⟨c, h⟩, fun ⟨c, h⟩ => ⟨_, c, h, rfl⟩⟩

/-! ## A refusal changes nothing (R1) -/

/-- An answer that is not DONE leaves the state. -/
def Answer.refusalKeeps (s : State) (a : Answer) : Prop := a.payload ≠ [0] → a.state = s

theorem refusalKeeps_refused (s : State) (r : Result) : (answer r s).refusalKeeps s := fun _ => rfl

theorem refusalKeeps_done (s t : State) : (answer .done t).refusalKeeps s := fun h => absurd rfl h

theorem refusalKeeps_ite {s : State} {c : Prop} [Decidable c] {a b : Answer} (ha : a.refusalKeeps s) (hb : b.refusalKeeps s) :
    (if c then a else b).refusalKeeps s := by
  split
  · exact ha
  · exact hb

section
variable (s : State)

theorem reqSetCoil_refusalKeeps (c : Byte) (w : CoilWire) : (reqSetCoil c w s).refusalKeeps s := by
  refine refusalKeeps_ite (refusalKeeps_refused s _) ?_
  split
  · exact refusalKeeps_refused s _
  · refine refusalKeeps_ite (refusalKeeps_refused s _) ?_
    split
    · exact refusalKeeps_refused s _
    · exact refusalKeeps_ite (refusalKeeps_refused s _) (refusalKeeps_done s _)

theorem reqSetUnit_refusalKeeps (u : Byte) (d st : Half) (f : Byte) (h : Half) : (reqSetUnit u d st f h s).refusalKeeps s := by
  refine refusalKeeps_ite (refusalKeeps_refused s _) ?_
  split
  · exact refusalKeeps_refused s _
  · exact refusalKeeps_ite (refusalKeeps_done s _) (refusalKeeps_refused s _)

theorem reqSetSegment_refusalKeeps (g n : Byte) : (reqSetSegment g n s).refusalKeeps s := by
  refine refusalKeeps_ite (refusalKeeps_refused s _) ?_
  split
  · exact refusalKeeps_refused s _
  · exact refusalKeeps_ite (refusalKeeps_done s _) (refusalKeeps_refused s _)

theorem reqSetPoint_refusalKeeps (p e g a c i : Byte) : (reqSetPoint p e g a c i s).refusalKeeps s := by
  refine refusalKeeps_ite (refusalKeeps_refused s _) ?_
  split
  · exact refusalKeeps_refused s _
  · refine refusalKeeps_ite (refusalKeeps_refused s _) ?_
    split
    · exact refusalKeeps_refused s _
    · exact refusalKeeps_ite (refusalKeeps_refused s _)
        (refusalKeeps_ite (refusalKeeps_refused s _) (refusalKeeps_done s _))

theorem reqSetChannel_refusalKeeps (c t : Byte) (l h : Half) : (reqSetChannel c t l h s).refusalKeeps s := by
  refine refusalKeeps_ite (refusalKeeps_refused s _) ?_
  split
  · exact refusalKeeps_refused s _
  · exact refusalKeeps_ite (refusalKeeps_done s _) (refusalKeeps_refused s _)

theorem reqSetScan_refusalKeeps (l : List Byte) : (reqSetScan l s).refusalKeeps s := by
  refine refusalKeeps_ite (refusalKeeps_refused s _) (refusalKeeps_ite (refusalKeeps_refused s _) ?_)
  split
  · exact refusalKeeps_refused s _
  · exact refusalKeeps_ite (refusalKeeps_refused s _)
      (refusalKeeps_ite (refusalKeeps_refused s _) (refusalKeeps_done s _))

theorem reqSetOutput_refusalKeeps (o l p : Byte) (v : Half) : (reqSetOutput o l p v s).refusalKeeps s := by
  refine refusalKeeps_ite (refusalKeeps_refused s _) ?_
  split
  · exact refusalKeeps_refused s _
  · split
    · exact refusalKeeps_refused s _
    · exact refusalKeeps_ite (refusalKeeps_done s _) (refusalKeeps_refused s _)

theorem reqSetInput_refusalKeeps (i p d : Byte) : (reqSetInput i p d s).refusalKeeps s := by
  refine refusalKeeps_ite (refusalKeeps_refused s _) ?_
  split
  · exact refusalKeeps_ite (refusalKeeps_done s _) (refusalKeeps_refused s _)
  · exact refusalKeeps_refused s _

theorem reqSetSource_refusalKeeps (x c m : Byte) : (reqSetSource x c m s).refusalKeeps s := by
  refine refusalKeeps_ite (refusalKeeps_refused s _) ?_
  split
  · exact refusalKeeps_done s _
  · exact refusalKeeps_refused s _

theorem reqSetResolver_refusalKeeps (l : Byte) : (reqSetResolver l s).refusalKeeps s :=
  refusalKeeps_ite (refusalKeeps_refused s _) (refusalKeeps_ite (refusalKeeps_done s _) (refusalKeeps_refused s _))

end

/-! ## The ranges of SET-COIL (R2) -/

/-- The ranges of R2 and the encodings of R168, on the fields as they cross the link. -/
def coilRanges (w : CoilWire) : Prop :=
  w.present.toNat ≤ 1 ∧ (1 ≤ w.unit.toNat ∧ w.unit.toNat ≤ 3) ∧ (1 ≤ w.quorum.toNat ∧ w.quorum.toNat ≤ 8) ∧
    (-160 ≤ w.theta.toInt ∧ w.theta.toInt ≤ 160) ∧ (-80 ≤ w.phi.toInt ∧ w.phi.toInt ≤ 80) ∧
    (1 ≤ w.confirm.toNat ∧ w.confirm.toNat ≤ 4) ∧ (0 ≤ w.lambda.toInt ∧ w.lambda.toInt ≤ 160) ∧
    (1 ≤ w.weight.toNat ∧ w.weight.toNat ≤ 16) ∧ 1 ≤ w.a1.toNat ∧ 1 ≤ w.a2.toNat ∧ 1 ≤ w.trip.toNat ∧
    1 ≤ w.recover.toNat ∧ (1 ≤ w.settleFrames.toNat ∧ w.settleFrames.toNat ≤ 30) ∧
    (1 ≤ w.staleLimit.toNat ∧ w.staleLimit.toNat ≤ 20) ∧ w.g1.toNat ≤ 1000 ∧ w.holdDown.toNat ≤ 3600 ∧
    (5 ≤ w.proveLimit.toNat ∧ w.proveLimit.toNat ≤ 120) ∧ (2 ≤ w.lockoutLimit.toNat ∧ w.lockoutLimit.toNat ≤ 5) ∧
    (1 ≤ w.lockoutWindow.toNat ∧ w.lockoutWindow.toNat ≤ 48) ∧ w.blindOffset.toNat ≤ 160 ∧
    (-160 ≤ w.blindFloor.toInt ∧ w.blindFloor.toInt ≤ 80) ∧ (w.lwt = 0xFF ∨ w.lwt.toNat ≤ 15) ∧
    (w.lat = 0xFF ∨ w.lat.toNat ≤ 15)

/-- The two cross-field conditions of R2. -/
def coilCrossed (w : CoilWire) : Prop :=
  w.recover.toNat < w.a1.toNat ∧ w.a1.toNat < w.a2.toNat ∧ w.a2.toNat < w.trip.toNat ∧ w.phi.toInt < w.theta.toInt

/-- The fields of a SET-COIL give a record exactly where they meet their ranges. -/
theorem coilCfgOf_exists (w : CoilWire) : (∃ c, coilCfgOf w = some c) ↔ coilRanges w ∧ coilCrossed w := by
  have a1 := w.a1.isLt
  have a2 := w.a2.isLt
  have trip := w.trip.isLt
  have recover := w.recover.isLt
  unfold coilCfgOf coilRanges coilCrossed
  constructor
  · rintro ⟨c, h⟩
    split at h
    · rename_i present unit lwt lat hpresent hunit hlwt hlat
      have hpresent := decFlag_exists.mp ⟨_, hpresent⟩
      have hunit := decNumber_exists.mp ⟨_, hunit⟩
      have hlwt := decOptChannel_exists.mp ⟨_, hlwt⟩
      have hlat := decOptChannel_exists.mp ⟨_, hlat⟩
      dsimp only at h
      split at h
      · rename_i valid
        simp only [CoilCfg.valid, within, withinInt, Bool.and_eq_true, decide_eq_true_eq] at valid
        refine ⟨⟨hpresent, hunit, ?_, ?_, ?_, ?_, ?_, ?_, ?_, ?_, ?_, ?_, ?_, ?_, ?_, ?_, ?_, ?_, ?_, ?_, ?_, hlwt, hlat⟩, ?_⟩ <;>
          omega
      · cases h
    · cases h
  · rintro ⟨⟨present, unit, ranges⟩, crossed⟩
    obtain ⟨present, hpresent⟩ := decFlag_exists.mpr present
    obtain ⟨unit, hunit⟩ := decNumber_exists.mpr unit
    obtain ⟨lwt, hlwt⟩ := decOptChannel_exists.mpr (by tauto : w.lwt = 0xFF ∨ w.lwt.toNat ≤ 15)
    obtain ⟨lat, hlat⟩ := decOptChannel_exists.mpr (by tauto : w.lat = 0xFF ∨ w.lat.toNat ≤ 15)
    rw [hpresent, hunit, hlwt, hlat]
    refine ⟨_, if_pos ?_⟩
    simp only [CoilCfg.valid, within, withinInt, Bool.and_eq_true, decide_eq_true_eq]
    omega

theorem reqSetCoil_range {s : State} (free : s.saveBusy = false) (k : Fin 6) {w : CoilWire}
    (admits : s.mode = .test ∨ structuralBytes w = structuralBytes (s.cfg k).toWire) (out : ¬ (coilRanges w ∧ coilCrossed w)) :
    reqSetCoil (encNumber k) w s = answer .range s := by
  have none : coilCfgOf w = none := Option.eq_none_iff_forall_ne_some.mpr fun c h => out ((coilCfgOf_exists w).mp ⟨c, h⟩)
  have admitted : s.coilModeAdmits k w = true := by
    simpa only [State.coilModeAdmits, Bool.or_eq_true, beq_iff_eq] using admits
  unfold reqSetCoil
  rw [free, decNumber_encNumber (by omega)]
  simp only [Bool.false_eq_true, if_false]
  rw [admitted, none]
  rfl

/-! ## The ranges of the other records (R5 to R7, R9, R10) -/

section
variable {s : State} (free : s.saveBusy = false)
include free

theorem reqSetUnit_range {u f : Byte} {d st h : Half}
    (out : ¬ ((1 ≤ u.toNat ∧ u.toNat ≤ 3) ∧ d.toNat ≤ 1000 ∧ (10 ≤ st.toNat ∧ st.toNat ≤ 300) ∧
      (5 ≤ f.toNat ∧ f.toNat ≤ 180) ∧ h.toNat ≤ 1800)) : reqSetUnit u d st f h s = answer .range s := by
  unfold reqSetUnit
  rw [free]
  simp only [Bool.false_eq_true, if_false]
  split
  · rfl
  · rename_i k decoded
    refine if_neg fun valid => out ⟨decNumber_exists.mp ⟨k, decoded⟩, ?_⟩
    simp only [UnitCfg.valid, within, Bool.and_eq_true, decide_eq_true_eq] at valid
    omega

theorem reqSetSegment_range {g n : Byte} (out : ¬ ((1 ≤ g.toNat ∧ g.toNat ≤ 3) ∧ 1 ≤ n.toNat ∧ n.toNat ≤ 40)) :
    reqSetSegment g n s = answer .range s := by
  unfold reqSetSegment
  rw [free]
  simp only [Bool.false_eq_true, if_false]
  split
  · rfl
  · rename_i k decoded
    refine if_neg fun valid => out ⟨decNumber_exists.mp ⟨k, decoded⟩, ?_⟩
    simpa only [intervalValid, within, decide_eq_true_eq] using valid

theorem reqSetPoint_index {p : Byte} (out : p.toNat = 0 ∨ 48 < p.toNat) (e g a c i : Byte) :
    reqSetPoint p e g a c i s = answer .range s := by
  unfold reqSetPoint
  rw [free, decNumber_eq_none out]
  rfl

theorem reqSetPoint_range (test : s.mode = .test) (p : Fin 48) {e g a c i : Byte}
    (out : ¬ (e.toNat ≤ 1 ∧ (1 ≤ g.toNat ∧ g.toNat ≤ 3) ∧ (8 ≤ a.toNat ∧ a.toNat ≤ 119) ∧
      (c = 0xFF ∨ 1 ≤ c.toNat ∧ c.toNat ≤ 6) ∧ i.toNat ≤ 1)) :
    reqSetPoint (encNumber p) e g a c i s = answer .range s := by
  unfold reqSetPoint
  rw [free, decNumber_encNumber (by omega), test]
  simp only [Bool.false_eq_true, if_false, ne_eq, not_true_eq_false]
  split
  · rfl
  · rename_i r decoded
    refine if_pos ?_
    unfold pointOf at decoded
    split at decoded
    · rename_i enabled segment coil included he hg hc hi
      obtain rfl := Option.some.inj decoded
      have address : ¬ (8 ≤ a.toNat ∧ a.toNat ≤ 119) := fun fits => out ⟨decFlag_exists.mp ⟨_, he⟩, decNumber_exists.mp ⟨_, hg⟩,
        fits, decOptCoil_exists.mp ⟨_, hc⟩, decFlag_exists.mp ⟨_, hi⟩⟩
      simp [PointCfg.valid, within, address]
    · cases decoded

theorem reqSetChannel_range {c trim : Byte} {low high : Half}
    (out : ¬ (c.toNat ≤ 15 ∧ -800 ≤ low.toInt ∧ low.toInt < high.toInt ∧ high.toInt ≤ 800)) :
    reqSetChannel c trim low high s = answer .range s := by
  unfold reqSetChannel
  rw [free]
  simp only [Bool.false_eq_true, if_false]
  split
  · rfl
  · rename_i k decoded
    have index := decIndex_exists.mp ⟨k, decoded⟩
    refine if_neg fun valid => out ⟨by omega, ?_⟩
    simp only [ChannelCfg.valid, withinInt, Bool.and_eq_true, decide_eq_true_eq] at valid
    omega

theorem reqSetOutput_range {o l p : Byte} {v : Half}
    (out : ¬ ((1 ≤ o.toNat ∧ o.toNat ≤ 18) ∧ (p = 0 ∨ p = 1 ∧
      v.toNat ≤ if o.toNat ≤ 6 ∨ 13 ≤ o.toNat ∧ o.toNat ≤ 15 then 1000 else 1))) :
    reqSetOutput o l p v s = answer .range s := by
  unfold reqSetOutput
  rw [free]
  simp only [Bool.false_eq_true, if_false]
  split
  · rfl
  · rename_i k decoded
    obtain ⟨low, high, number⟩ := decNumber_eq_some decoded
    split
    · rfl
    · rename_i policy read
      refine if_neg fun valid => out ⟨⟨low, high⟩, ?_⟩
      unfold policyOf at read
      split at read
      · exact .inl ‹_›
      · split at read
        · obtain rfl := Option.some.inj read
          refine .inr ⟨‹_›, ?_⟩
          have position : isPosition k = true ↔ o.toNat ≤ 6 ∨ 13 ≤ o.toNat ∧ o.toNat ≤ 15 := by
            simp only [isPosition, Bool.or_eq_true, Bool.and_eq_true, decide_eq_true_eq]
            omega
          simp only [OutputCfg.valid, Policy.valid, within, Bool.and_eq_true, position] at valid
          split
          · rw [if_pos ‹_›] at valid
            exact (decide_eq_true_eq.mp valid.2).2
          · rw [if_neg ‹_›] at valid
            exact (decide_eq_true_eq.mp valid.2).2
        · cases read

theorem reqSetInput_range {i p d : Byte} (out : ¬ ((1 ≤ i.toNat ∧ i.toNat ≤ 15) ∧ p.toNat ≤ 1 ∧ d.toNat ≤ 15)) :
    reqSetInput i p d s = answer .range s := by
  unfold reqSetInput
  rw [free]
  simp only [Bool.false_eq_true, if_false]
  split
  · rename_i input low index polarity
    refine if_neg fun valid => out ⟨decNumber_exists.mp ⟨_, index⟩, decFlag_exists.mp ⟨_, polarity⟩, ?_⟩
    simp only [InputCfg.valid, within, decide_eq_true_eq] at valid
    exact valid.2
  · rfl

theorem reqSetSource_range {x c m : Byte} (out : ¬ (x.toNat ≤ 64 ∧ (1 ≤ c.toNat ∧ c.toNat ≤ 8) ∧ m.toNat ≤ 1)) :
    reqSetSource x c m s = answer .range s := by
  unfold reqSetSource
  rw [free]
  simp only [Bool.false_eq_true, if_false]
  split
  · rename_i source cls mask index number flag
    have index := decIndex_exists.mp ⟨_, index⟩
    exact absurd ⟨by omega, decNumber_exists.mp ⟨_, number⟩, decFlag_exists.mp ⟨_, flag⟩⟩ out
  · rfl

theorem reqSetResolver_range {level : Byte} (out : ¬ (1 ≤ level.toNat ∧ level.toNat ≤ 9)) :
    reqSetResolver level s = answer .range s := by
  unfold reqSetResolver
  rw [free]
  simp only [Bool.false_eq_true, if_false]
  refine if_neg fun valid => out ?_
  simpa only [autoAckValid, within, decide_eq_true_eq] using valid

theorem reqSetMode_range {code : Byte} (notArmed : code ≠ 1) (notTest : code ≠ 2) : reqSetMode code s = answer .range s := by
  unfold reqSetMode
  rw [free]
  simp only [Bool.false_eq_true, if_false]
  rw [if_neg notArmed, if_neg notTest]

end

/-! ### The scan list (R7) -/

theorem scanOf_map (l : List (Fin 16)) : scanOf (l.map fun c => u8 c.val) = some l := by
  induction l with
  | nil => rfl
  | cons c l ih =>
    rw [List.map_cons, scanOf, decIndex_u8 (by omega), ih]

theorem scanOf_none {l : List Byte} (h : ∃ b ∈ l, 15 < b.toNat) : scanOf l = none := by
  induction l with
  | nil =>
    obtain ⟨b, member, -⟩ := h
    cases member
  | cons a l ih =>
    rw [scanOf]
    split
    · rename_i c rest index scanned
      have index := decIndex_exists.mp ⟨_, index⟩
      obtain ⟨b, member, big⟩ := h
      rcases List.mem_cons.mp member with rfl | member
      · omega
      · rw [ih ⟨b, member, big⟩] at scanned
        cases scanned
    · rfl

/-- Bytes of channels are the bytes of a list of channels. -/
theorem exists_channels {l : List Byte} (h : ∀ b ∈ l, b.toNat ≤ 15) : ∃ c : List (Fin 16), l = c.map fun c => u8 c.val := by
  induction l with
  | nil => exact ⟨[], rfl⟩
  | cons b l ih =>
    obtain ⟨c, rfl⟩ := ih fun b member => h b (List.mem_cons_of_mem _ member)
    have small := h b List.mem_cons_self
    refine ⟨⟨b.toNat, by omega⟩ :: c, ?_⟩
    rw [List.map_cons]
    exact congrArg (· :: _) (BitVec.eq_of_toNat_eq (by rw [u8_toNat]; simp only; omega))

theorem u8_channel_injective : Function.Injective fun c : Fin 16 => u8 c.val := by
  intro a b same
  have same : (u8 a.val).toNat = (u8 b.val).toNat := congrArg BitVec.toNat same
  rw [u8_small (by omega), u8_small (by omega)] at same
  exact Fin.ext same

section
variable {s : State} (free : s.saveBusy = false) (test : s.mode = .test)
include free test

theorem reqSetScan_range {l : List Byte} (out : l = [] ∨ ∃ b ∈ l, 15 < b.toNat) : reqSetScan l s = answer .range s := by
  unfold reqSetScan
  rw [free, test]
  rcases out with rfl | out
  · rfl
  · rw [scanOf_none out]
    rfl

/-- SET-SCAN in TEST with 1 to 16 channels. -/
theorem reqSetScan_channels {c : List (Fin 16)} (entries : c ≠ []) (fits : c.length ≤ 16) :
    reqSetScan (c.map fun c => u8 c.val) s =
      if c.Nodup then answer .done (s.setTables { s.tables with scan := c }) else answer .conflict s := by
  have valid : scanValid c = true := by
    simp only [scanValid, within, decide_eq_true_eq]
    exact ⟨List.length_pos_iff.mpr entries, fits⟩
  unfold reqSetScan
  rw [free, test, scanOf_map]
  simp [valid]

end

/-- Settles O23. -/
theorem refusedSettingsChangeNothing : Obligations.RefusedSettingsChangeNothing := by
  refine ⟨fun s => ⟨reqSetCoil_refusalKeeps s, reqSetUnit_refusalKeeps s, reqSetSegment_refusalKeeps s,
    reqSetPoint_refusalKeeps s, reqSetChannel_refusalKeeps s, reqSetScan_refusalKeeps s, reqSetOutput_refusalKeeps s,
    reqSetInput_refusalKeeps s, reqSetSource_refusalKeeps s, reqSetResolver_refusalKeeps s⟩, fun s tag ready free => ?_⟩
  refine ⟨fun c w out => arrive_refused ready ((handle_setCoil tag s c w).trans ?_),
    fun k w ranges crossed hranges hcrossed => ?_,
    fun u d st f h out => arrive_refused ready ((handle_setUnit tag s u f d st h).trans (reqSetUnit_range free out)),
    fun g n out => arrive_refused ready (reqSetSegment_range free out),
    fun p e g a c i out => arrive_refused ready (reqSetPoint_index free out e g a c i),
    fun p e g a c i test out => arrive_refused ready (reqSetPoint_range free test p out),
    fun c trim low high out => arrive_refused ready ((handle_setChannel tag s c trim low high).trans (reqSetChannel_range free out)),
    fun l test fits => ⟨fun out => ?_, fun entries channels doubled => ?_⟩,
    fun o l p v out => arrive_refused ready ((handle_setOutput tag s o l p v).trans (reqSetOutput_range free out)),
    fun i p d out => arrive_refused ready (reqSetInput_range free out),
    fun x c m out => arrive_refused ready (reqSetSource_range free out),
    fun level out => arrive_refused ready (reqSetResolver_range free out),
    fun code notArmed notTest => arrive_refused ready (reqSetMode_range free notArmed notTest)⟩
  · unfold reqSetCoil
    rw [free, decNumber_eq_none out]
    rfl
  · rw [show ranges = coilRanges w from propext hranges, show crossed = coilCrossed w from propext hcrossed]
    exact ⟨coilCfgOf_exists w, fun admits out =>
      arrive_refused ready ((handle_setCoil tag s _ w).trans (reqSetCoil_range free k admits out))⟩
  · exact (exec_setScan tag (by omega)).trans
      (arrive_refused ready ((handle_setScan tag s fits).trans (reqSetScan_range free test out)))
  · refine (exec_setScan tag (by omega)).trans (arrive_refused ready ((handle_setScan tag s fits).trans ?_))
    obtain ⟨c, rfl⟩ := exists_channels channels
    rw [reqSetScan_channels free test (fun empty => entries (by rw [empty]; rfl)) (by simpa using fits)]
    exact if_neg fun nodup => doubled (nodup.map u8_channel_injective)

/-! ## Accepted writes of one record (R5, R6, R7, R10) -/

/-- Tables whose sources stand, in a settled state. -/
theorem settled_setTables {s : State} {t : Tables} (sources : t.sources = s.tables.sources) (h : s.settled) :
    (s.setTables t).settled := by
  obtain ⟨due, begun, line⟩ := h
  refine ⟨due, begun, line.trans ?_⟩
  unfold State.alertLineLevel
  rw [show (s.setTables t).tables.sources = s.tables.sources from sources]
  rfl

section
variable {s : State} (free : s.saveBusy = false)
include free

theorem reqSetSegment_done (g : Fin 3) {n : Byte} (low : 1 ≤ n.toNat) (high : n.toNat ≤ 40) :
    reqSetSegment (encNumber g) n s =
      answer .done (s.setTables { s.tables with intervals := s.tables.intervals.put g n.toNat }) := by
  unfold reqSetSegment
  rw [free, decNumber_encNumber (by omega)]
  exact if_pos (decide_eq_true ⟨low, high⟩)

theorem reqSetChannel_done (c : Fin 16) {trim : Byte} {low high : Half} (floor : -800 ≤ low.toInt)
    (order : low.toInt < high.toInt) (ceiling : high.toInt ≤ 800) :
    reqSetChannel (u8 c.val) trim low high s =
      answer .done (s.setTables { s.tables with channels := s.tables.channels.put c ⟨trim.toInt, low.toInt, high.toInt⟩ }) := by
  have above := BitVec.toInt_lt (x := trim)
  have below := BitVec.le_toInt (x := trim)
  unfold reqSetChannel
  rw [free, decIndex_u8 (by omega)]
  simp only [Bool.false_eq_true, if_false]
  refine if_pos ?_
  simp only [ChannelCfg.valid, withinInt, Bool.and_eq_true, decide_eq_true_eq]
  omega

theorem reqSetResolver_done {level : Byte} (low : 1 ≤ level.toNat) (high : level.toNat ≤ 9) :
    reqSetResolver level s = answer .done (s.setTables { s.tables with autoAck := level.toNat }) := by
  unfold reqSetResolver
  rw [free]
  exact if_pos (decide_eq_true ⟨low, high⟩)

/-- SET-POINT in TEST with the fields of a record, by its conditions of R6. -/
theorem reqSetPoint_test (test : s.mode = .test) (p : Fin 48) {c : PointCfg} (address : c.address < 256) :
    reqSetPoint (encNumber p) (flagByte c.enabled) (encNumber c.segment) (u8 c.address) (encOptCoil c.coil)
        (flagByte c.included) s =
      if !c.valid s.tables.coils then answer .range s
      else if !pointsConsistent (s.tables.points.put p c) then answer .conflict s
      else answer .done (s.setTables { s.tables with points := s.tables.points.put p c }) := by
  have read : pointOf (flagByte c.enabled) (encNumber c.segment) (u8 c.address) (encOptCoil c.coil) (flagByte c.included) =
      some c := by
    unfold pointOf
    rw [decFlag_flagByte, decNumber_encNumber (by omega), decOptCoil_encOptCoil, decFlag_flagByte]
    simp only
    rw [u8_small address]
  unfold reqSetPoint
  rw [free, decNumber_encNumber (by omega), test, read]
  rfl

end

/-- Settles O24. -/
theorem plainSettingsReplaceOneRecord : Obligations.PlainSettingsReplaceOneRecord := by
  intro s tag ready free
  have settled := ready.2.1
  refine ⟨fun g n low high => arrive_acted ready (reqSetSegment_done free g low high) (settled_setTables rfl settled),
    fun c trim low high floor order ceiling => arrive_acted ready
      ((handle_setChannel tag s _ trim low high).trans (reqSetChannel_done free c floor order ceiling)) (settled_setTables rfl settled),
    fun level low high => arrive_acted ready (reqSetResolver_done free low high) (settled_setTables rfl settled),
    fun l test entries nodup => ?_, fun p c test valid consistent => ?_⟩
  · have fits : l.length ≤ 16 := by simpa using nodup.length_le_card
    have fits' : (l.map fun c => u8 c.val).length ≤ 16 := by simpa using fits
    refine (exec_setScan tag (by omega)).trans (arrive_acted ready ((handle_setScan tag s fits').trans ?_)
      (settled_setTables rfl settled))
    rw [reqSetScan_channels free test entries fits]
    exact if_pos nodup
  · have address : c.address < 256 := by
      simp only [PointCfg.valid, within, Bool.and_eq_true, decide_eq_true_eq] at valid
      omega
    refine arrive_acted ready ?_ (settled_setTables (t := { s.tables with points := s.tables.points.put p c }) rfl settled)
    refine (reqSetPoint_test free test p address).trans ?_
    rw [valid, consistent]
    rfl

/-! ## The conditions of SET-POINT (R6) -/

theorem toList_eq_map {α : Type} {n : Nat} (t : Tab α n) : t.toList = (List.finRange n).map t.at := by
  refine List.ext_getElem (by simp) fun i hi hi' => ?_
  simp [Tab.at]

theorem mem_allCoils (k : Fin 6) : k ∈ allCoils := by
  revert k
  decide

theorem mem_allUnits (u : Fin 3) : u ∈ allUnits := by
  revert u
  decide

/-- Two enabled points of one segment that share an address, a ninth point of a coil and a seventeenth of a segment are each a
conflict. -/
theorem pointsConsistent_false {t : Tab PointCfg 48}
    (h : (∃ q r, q ≠ r ∧ (t.at q).enabled = true ∧ (t.at r).enabled = true ∧ (t.at q).segment = (t.at r).segment ∧
        (t.at q).address = (t.at r).address) ∨
      (∃ k, 8 < t.toList.countP fun q => q.enabled && q.coil == some k) ∨
      (∃ g, 16 < t.toList.countP fun q => q.enabled && q.segment == g)) : pointsConsistent t = false := by
  refine Bool.eq_false_iff.mpr fun consistent => ?_
  simp only [pointsConsistent, Bool.and_eq_true, decide_eq_true_eq, List.all_eq_true, List.countP_filter] at consistent
  obtain ⟨⟨nodup, coils⟩, segments⟩ := consistent
  rcases h with ⟨q, r, differ, qon, ron, segment, address⟩ | ⟨k, many⟩ | ⟨g, many⟩
  · rw [toList_eq_map, List.filter_map, List.map_map] at nodup
    exact differ (List.inj_on_of_nodup_map nodup (by simp [qon]) (by simp [ron]) (by simp [segment, address]))
  · have few := coils k (mem_allCoils k)
    simp only [Bool.and_comm, beq_eq_decide] at few many
    omega
  · have few := segments g (mem_allUnits g)
    simp only [Bool.and_comm, beq_eq_decide] at few many
    omega

/-- Settles O25. -/
theorem pointWritesKeepTheirConditions : Obligations.PointWritesKeepTheirConditions := by
  intro s tag p ready free test
  refine ⟨fun e g a c i out => arrive_refused ready (reqSetPoint_range free test p (by omega)),
    fun c low high => ⟨fun k named differs => arrive_refused ready ?_, fun agrees conflict => arrive_refused ready ?_⟩⟩
  · refine (reqSetPoint_test free test p (by omega)).trans (if_pos ?_)
    have differs : ¬ (s.tables.coils.at k).unit = c.segment := differs
    simp [PointCfg.valid, named, differs]
  · refine (reqSetPoint_test free test p (by omega)).trans ?_
    have valid : c.valid s.tables.coils = true := by
      unfold PointCfg.valid
      rw [Bool.and_eq_true]
      refine ⟨decide_eq_true ⟨low, high⟩, ?_⟩
      split
      · rfl
      · exact decide_eq_true (agrees _ ‹_›)
    rw [valid, pointsConsistent_false conflict]
    rfl

end Sys2Proof.Machine
end

section
/-! PROOF. What the end of an event leaves: the selections it makes, and everything else as it stood. -/

namespace Sys2Proof.Machine

open Sys2Proof

/-! ## Frames of `onlyAlerts` -/

theorem onlyAlerts_trans {s t u : State} (h : onlyAlerts s t) (h' : onlyAlerts t u) : onlyAlerts s u := by
  unfold onlyAlerts at h h' ⊢
  rw [h', h]

theorem onlyAlerts_answered (s : State) (kind tag : Byte) (body : List Byte) : onlyAlerts s (s.answered kind tag body) := rfl

section
variable {s t : State}

/-- A reading of the state that sees neither the resolver, nor the ALERT line, nor the transmit queue. -/
theorem onlyAlerts.reads (h : onlyAlerts s t) {α : Type} (f : State → α)
    (blind : ∀ a b q, f { s with alerts := a, alertLine := b, link := { s.link with txQueue := q } } = f s) : f t = f s :=
  (congrArg f h).trans (blind _ _ _)

variable (h : onlyAlerts s t)
include h

theorem onlyAlerts.power : t.power = s.power := h.reads State.power fun _ _ _ => rfl
theorem onlyAlerts.mode : t.mode = s.mode := h.reads State.mode fun _ _ _ => rfl
theorem onlyAlerts.tables : t.tables = s.tables := h.reads State.tables fun _ _ _ => rfl
theorem onlyAlerts.coils : t.coils = s.coils := h.reads State.coils fun _ _ _ => rfl
theorem onlyAlerts.units : t.units = s.units := h.reads State.units fun _ _ _ => rfl
theorem onlyAlerts.exposures : t.exposures = s.exposures := h.reads State.exposures fun _ _ _ => rfl
theorem onlyAlerts.faces : t.faces = s.faces := h.reads State.faces fun _ _ _ => rfl
theorem onlyAlerts.demands : t.demands = s.demands := h.reads State.demands fun _ _ _ => rfl
theorem onlyAlerts.inputs : t.inputs = s.inputs := h.reads State.inputs fun _ _ _ => rfl
theorem onlyAlerts.outputs : t.outputs = s.outputs := h.reads State.outputs fun _ _ _ => rfl
theorem onlyAlerts.store : t.store = s.store := h.reads State.store fun _ _ _ => rfl
theorem onlyAlerts.effective : t.effective = s.effective := h.reads State.effective fun _ _ _ => rfl

/-- What `sameOutside` names stands. -/
theorem onlyAlerts.sameOutside {q : State} (hq : sameOutside q s) : sameOutside q t := by
  unfold Machine.sameOutside at hq ⊢
  unfold onlyAlerts at h
  rw [h]
  exact hq

end

/-! ## The selections of an event (R145 to R147) -/

/-- From `s` to `t` selections alone have acted: the conditions stand, a source that is not pending stands, a pending one stays
pending or its notice has been queued, and the stack and the queue grow. -/
structure Selects (s t : State) : Prop where
  only : onlyAlerts s t
  told : ∀ x, t.told x = s.told x
  others : ∀ x, (s.alerts.sources.at x).membership ≠ .pending → t.alerts.sources.at x = s.alerts.sources.at x
  waits : ∀ x, (s.alerts.sources.at x).membership = .pending →
    (t.alerts.sources.at x).membership = .pending ∨ ∃ c late, TxItem.notice x c late ∈ t.link.txQueue
  stack : ∃ new, t.alerts.stack = new ++ s.alerts.stack
  queue : ∃ more, t.link.txQueue = s.link.txQueue ++ more

theorem Selects.refl (s : State) : Selects s s :=
  ⟨rfl, fun _ => rfl, fun _ _ => rfl, fun _ => .inl, ⟨[], rfl⟩, ⟨[], by simp⟩⟩

theorem Selects.trans {s t u : State} (h : Selects s t) (h' : Selects t u) : Selects s u where
  only := onlyAlerts_trans h.only h'.only
  told x := (h'.told x).trans (h.told x)
  others x hx := (h'.others x (by rw [h.others x hx]; exact hx)).trans (h.others x hx)
  waits x hx := by
    obtain ⟨more, grown⟩ := h'.queue
    rcases h.waits x hx with pending | ⟨c, late, queued⟩
    · exact h'.waits x pending
    · exact .inr ⟨c, late, by rw [grown]; exact List.mem_append_left _ queued⟩
  stack := by
    obtain ⟨new, e⟩ := h.stack
    obtain ⟨new', e'⟩ := h'.stack
    exact ⟨new' ++ new, by rw [e', e, List.append_assoc]⟩
  queue := by
    obtain ⟨more, e⟩ := h.queue
    obtain ⟨more', e'⟩ := h'.queue
    exact ⟨more ++ more', by rw [e', e, List.append_assoc]⟩

/-- The report of a pending source is a selection. -/
theorem selects_report {s : State} {x : Fin 65} (pending : (s.alerts.sources.at x).membership = .pending) :
    Selects s (s.report x) where
  only := rfl
  told y := Alerts.select_condition _ x y _ _
  others y hy := Alerts.select_other _ (fun same => hy (by rw [same]; exact pending)) _ _
  waits y hy := by
    by_cases same : y = x
    · exact .inr ⟨s.classOf x, none, by rw [same]; exact List.mem_append_right _ List.mem_cons_self⟩
    · refine .inl ?_
      rw [show (s.report x).alerts = s.alerts.select x (s.classOf x) s.tables.autoAck from rfl, Alerts.select_other _ same]
      exact hy
  stack := by
    rw [show (s.report x).alerts = s.alerts.select x (s.classOf x) s.tables.autoAck from rfl, Alerts.select_stack]
    split
    · exact ⟨[_], rfl⟩
    · exact ⟨[], rfl⟩
  queue := ⟨_, rfl⟩

theorem winner_pending {s : State} {x : Fin 65} (won : s.winner = some x) : (s.alerts.sources.at x).membership = .pending :=
  ((eligible_iff s x).mp (winner_eligible won).1).1

theorem selects_selectLoop (n : Nat) (s : State) : Selects s (selectLoop n s) := by
  induction n generalizing s with
  | zero => exact .refl s
  | succ n ih =>
    unfold selectLoop
    split
    · exact .refl s
    · rename_i x won
      exact (selects_report (winner_pending won)).trans (ih _)

theorem selects_runSelection (s : State) : Selects s s.runSelection := by
  unfold State.runSelection
  split
  · exact (selects_selectLoop _ s).trans ⟨rfl, fun _ => rfl, fun _ _ => rfl, fun _ => .inl, ⟨[], rfl⟩, ⟨[], by simp [State.setAlerts]⟩⟩
  · exact .refl s

/-- A report takes an entry of the queue. -/
theorem txFree_report (s : State) (x : Fin 65) : (s.report x).txFree = s.txFree - 1 := by
  simp only [State.txFree, State.report, State.queueItem, State.setLink_link, State.setAlerts_link, List.length_append,
    List.length_singleton]
  omega

theorem winner_none_of_full {s : State} (full : s.txFree < 2) : s.winner = none := if_pos full

/-- As many selections as there are entries leave no winner. -/
theorem winner_selectLoop (n : Nat) {s : State} (enough : s.txFree ≤ n + 1) : (selectLoop n s).winner = none := by
  induction n generalizing s with
  | zero => exact winner_none_of_full (by rw [selectLoop]; omega)
  | succ n ih =>
    unfold selectLoop
    split
    · assumption
    · exact ih (by rw [txFree_report]; omega)

theorem winner_runSelection {s : State} (due : s.alerts.selectionDue = true) : s.runSelection.winner = none := by
  unfold State.runSelection
  rw [if_pos due]
  exact winner_selectLoop (s := s) Config.txCapacity (by simp only [State.txFree]; omega)

/-! ## The end of an event -/

/-- What `beginHead` and `driveAlertLine` leave. -/
theorem beginHead_only (s : State) : onlyAlerts s s.beginHead := by
  unfold State.beginHead
  split <;> rfl

theorem beginHead_alerts (s : State) : s.beginHead.alerts = s.alerts := by
  unfold State.beginHead
  split <;> rfl

theorem beginHead_notices {s : State} {x : Fin 65} (h : ∃ c late, TxItem.notice x c late ∈ s.link.txQueue) :
    ∃ c late, TxItem.notice x c late ∈ s.beginHead.link.txQueue := by
  obtain ⟨c, late, member⟩ := h
  unfold State.beginHead
  split
  · rename_i y d rest e
    rw [e] at member
    rcases List.mem_cons.mp member with same | member
    · cases same
      exact ⟨_, _, List.mem_cons_self⟩
    · exact ⟨_, _, List.mem_cons_of_mem _ member⟩
  · exact ⟨c, late, member⟩

theorem winner_beginHead (s : State) : s.beginHead.winner = s.winner := by
  obtain ⟨q, link, len⟩ := beginHead_link s
  have frame := beginHead_only s
  have free : s.beginHead.txFree = s.txFree := by simp only [State.txFree, link, len]
  unfold State.winner State.eligible State.classOf
  rw [free, beginHead_alerts, frame.tables]

/-- From `s` to `t` an event has ended: selections have acted, and where one was due none is left with a winner. -/
structure Ends (s t : State) : Prop where
  only : onlyAlerts s t
  told : ∀ x, t.told x = s.told x
  others : ∀ x, (s.alerts.sources.at x).membership ≠ .pending → t.alerts.sources.at x = s.alerts.sources.at x
  waits : ∀ x, (s.alerts.sources.at x).membership = .pending →
    (t.alerts.sources.at x).membership = .pending ∨ ∃ c late, TxItem.notice x c late ∈ t.link.txQueue
  stack : ∃ new, t.alerts.stack = new ++ s.alerts.stack
  line : t.alertLine = t.alertLineLevel
  winner : s.alerts.selectionDue = true → t.winner = none

theorem ends_conclude (s : State) : Ends s s.conclude := by
  have selects := selects_runSelection s
  have alerts : s.conclude.alerts = s.runSelection.alerts := beginHead_alerts _
  refine ⟨onlyAlerts_trans selects.only (onlyAlerts_trans (beginHead_only _) rfl), fun x => ?_, fun x hx => ?_, fun x hx => ?_, ?_,
    rfl, fun due => ?_⟩
  · unfold State.told
    rw [alerts]
    exact selects.told x
  · rw [alerts]
    exact selects.others x hx
  · rw [alerts]
    exact (selects.waits x hx).imp id beginHead_notices
  · rw [alerts]
    exact selects.stack
  · exact (winner_beginHead s.runSelection).trans (winner_runSelection due)

/-- What an event raises is pending at its end, or its notice has been queued. -/
theorem Ends.raised {s q t : State} (h : Ends q t) {x : Fin 65}
    (raised : (s.alerts.sources.at x).membership = .none → (q.alerts.sources.at x).membership = .pending) :
    Machine.raised s t x := fun none => h.waits x (raised none)

theorem headBegun_append {s : State} {l more : List TxItem} (begun : s.headBegun) (queue : s.link.txQueue = l) {f : Frame} :
    ∀ t : State, t.link.txQueue = l ++ .response f :: more → t.headBegun := by
  intro t grown
  unfold State.headBegun at begun ⊢
  rw [grown]
  rw [queue] at begun
  match l with
  | [] => trivial
  | .response _ :: _ => trivial
  | .notice _ _ (some _) :: _ => trivial
  | .notice _ _ none :: _ => exact begun.elim

/-- A response queued on a settled state's queue stands right behind it at the end of the event. -/
theorem holdsResponse_conclude {s a : State} (begun : s.headBegun) (queue : a.link.txQueue = s.link.txQueue) (kind tag : Byte)
    (body : List Byte) : holdsResponse s (a.answered kind tag body).conclude kind tag body := by
  obtain ⟨more, grown⟩ := (selects_runSelection (a.answered kind tag body)).queue
  have grown : (a.answered kind tag body).runSelection.link.txQueue = s.link.txQueue ++ .response ⟨kind, tag, body⟩ :: more := by
    rw [grown]
    simp [State.answered, State.queueItem, queue]
  refine ⟨more, ?_⟩
  rw [State.conclude, beginHead_begun (headBegun_append begun rfl _ grown)]
  exact grown

/-- An accepted request on a ready link: its owner acts, its response joins the queue, and the event ends. -/
theorem arrive_ends {s a : State} (h : s.ready) {kind tag : Byte} {payload body : List Byte}
    (e : handleRequest ⟨kind, tag, payload⟩ s = ⟨body, a⟩) (queue : a.link.txQueue = s.link.txQueue) :
    ∃ t, arrive kind tag payload s = .next t ∧ holdsResponse s t (kind + 0x80) tag body ∧ Ends a t := by
  refine ⟨(a.answered (kind + 0x80) tag body).conclude, ?_, holdsResponse_conclude h.2.1.2.1 queue _ _ _, ?_⟩
  · rw [arrive_ready h, State.respond, e]
    rfl
  · obtain ⟨only, told, others, waits, stack, line, winner⟩ := ends_conclude (a.answered (kind + 0x80) tag body)
    exact ⟨onlyAlerts_trans (onlyAlerts_answered a _ _ _) only, told, others, waits, stack, line, winner⟩

/-- A block's event on a running part: the block acts and the event ends. -/
theorem whileRunning_ends {s : State} (running : s.power = .running) (act : State → State) :
    ∃ t, whileRunning s (fun s => (act s).conclude) = .next t ∧ Ends (act s) t :=
  ⟨_, whileRunning_running running _, ends_conclude _⟩

/-- A block's event that leaves a settled state. -/
theorem whileRunning_settled {s t : State} (running : s.power = .running) {act : State → State} (acts : act s = t)
    (settled : t.settled) : whileRunning s (fun s => (act s).conclude) = .next t := by
  rw [whileRunning_running running, acts, conclude_settled settled]

end Sys2Proof.Machine
end

section
/-! PROOF. Statements about one operation at a time: selection, effective outputs, validation, the clock, SAVE, RESTART and
acknowledgments (O31, O35, O38, O39, O42, O59, O60). -/

namespace Sys2Proof.Machine

open Sys2Proof

/-! ## A selection's winner and its report (R145 to R147) -/

/-- The first index that passes is the lowest one. -/
theorem find?_finRange_least {n : Nat} {p : Fin n → Bool} {c : Fin n} (h : (List.finRange n).find? p = some c) (d : Fin n)
    (hd : p d = true) : c ≤ d := by
  obtain ⟨-, before, after, split, skipped⟩ := List.find?_eq_some_iff_append.mp h
  by_contra lower
  have sorted := List.pairwise_lt_finRange n
  have member := List.mem_finRange d
  rw [split] at sorted member
  rcases List.mem_append.mp member with early | late
  · have := skipped d early
    simp [hd] at this
  · rcases List.mem_cons.mp late with rfl | late
    · exact lower le_rfl
    · exact lower (le_of_lt (List.rel_of_pairwise_cons (List.pairwise_append.mp sorted).2.1 late))

/-- The source found in a rotation passes its test and is the nearest one from the pointer that does. -/
theorem rotation_find {p : Fin 65} {f : Fin 65 → Bool} {x : Fin 65} (h : (rotation p).find? f = some x) :
    f x = true ∧ ∀ y, f y = true → (x.val + 65 - p.val) % 65 ≤ (y.val + 65 - p.val) % 65 := by
  unfold rotation at h
  rw [List.find?_map, Option.map_eq_some_iff] at h
  obtain ⟨i, first, rfl⟩ := h
  obtain ⟨passes, small, skipped⟩ := List.find?_range_eq_some.mp first
  refine ⟨passes, fun y hy => ?_⟩
  rw [List.mem_range] at small
  have place : ((Fin.ofNat 65 (p.val + i)).val + 65 - p.val) % 65 = i := by
    simp only [Fin.ofNat]
    omega
  rw [place]
  by_contra nearer
  have back : Fin.ofNat 65 (p.val + (y.val + 65 - p.val) % 65) = y := Fin.ext (by simp only [Fin.ofNat]; omega)
  have := skipped ((y.val + 65 - p.val) % 65) (by omega)
  simp only [Function.comp, back, hy] at this
  cases this

/-- Every source is met in a rotation. -/
theorem mem_rotation (p x : Fin 65) : x ∈ rotation p := by
  refine List.mem_map.mpr ⟨(x.val + 65 - p.val) % 65, List.mem_range.mpr (by omega), Fin.ext ?_⟩
  simp only [Fin.ofNat]
  omega

theorem txFree_lt_two (s : State) : s.txFree < 2 ↔ 3 ≤ s.link.txQueue.length := by
  simp only [State.txFree, Config.txCapacity]
  omega

theorem winner_none_iff (s : State) : s.winner = none ↔ 3 ≤ s.link.txQueue.length ∨ ∀ x, s.eligible x = false := by
  rw [← txFree_lt_two]
  unfold State.winner
  split
  · simp [*]
  · rename_i room
    simp only [room, false_or]
    split
    · rename_i missing
      refine ⟨fun _ x => Bool.eq_false_iff.mpr fun eligible => ?_, fun _ => rfl⟩
      have := List.find?_eq_none.mp missing (s.classOf x) (List.mem_finRange _)
      exact this (List.any_eq_true.mpr ⟨x, List.mem_finRange _, by simp [eligible]⟩)
    · rename_i c found
      have met := List.find?_some (p := fun c => (List.finRange 65).any fun x => s.eligible x && s.classOf x == c) found
      obtain ⟨x, -, hx⟩ := List.any_eq_true.mp met
      rw [Bool.and_eq_true] at hx
      refine ⟨fun missing => ?_, fun nobody => absurd hx.1 (by simp [nobody x])⟩
      have := List.find?_eq_none.mp missing x (mem_rotation _ x)
      simp [hx.1, hx.2] at this

/-- A winner is eligible, of the lowest class, and the first of that class from its rotation pointer. -/
theorem winner_some {s : State} {x : Fin 65} (won : s.winner = some x) :
    s.eligible x = true ∧ (∀ y, s.eligible y = true → s.classOf x ≤ s.classOf y) ∧
      ∀ y, s.eligible y = true → s.classOf y = s.classOf x →
        (x.val + 65 - (s.alerts.pointers.at (s.classOf x)).val) % 65 ≤
          (y.val + 65 - (s.alerts.pointers.at (s.classOf x)).val) % 65 := by
  unfold State.winner at won
  split at won
  · cases won
  · split at won
    · cases won
    · rename_i c found
      obtain ⟨passes, nearest⟩ := rotation_find won
      rw [Bool.and_eq_true, beq_iff_eq] at passes
      obtain ⟨eligible, cls⟩ := passes
      rw [cls]
      refine ⟨eligible, fun y hy => ?_, fun y hy same => nearest y (by simp [hy, same])⟩
      exact find?_finRange_least found _ (List.any_eq_true.mpr ⟨y, List.mem_finRange _, by simp [hy]⟩)

theorem succ_pointer (x : Fin 65) : (Fin.ofNat 65 (x.val + 1)).val = if x.val = 64 then 0 else x.val + 1 := by
  simp only [Fin.ofNat]
  split <;> omega

/-- Where the selected source goes (R147). -/
theorem Alerts.select_membership (a : Alerts) (x : Fin 65) (c : Fin 8) (l : Nat) :
    ((a.select x c l).sources.at x).membership =
      if classNumber c < l then .inService else if isLevel x then .standing else .none := by
  unfold Alerts.select
  split
  · simp [Alerts.move_at]
  · split <;> simp [Alerts.move_at, *]

/-- Settles O60. -/
theorem selectionTakesTheLowestClassInRotation : Obligations.SelectionTakesTheLowestClassInRotation := by
  intro s eligible heligible
  have same (x : Fin 65) : eligible x ↔ s.eligible x = true := by
    rw [heligible, eligible_iff]
    refine and_congr_right fun _ => and_congr_right fun _ => ?_
    cases s.alerts.stack with
    | nil => simp
    | cons top rest => simp [State.classOf]
  refine ⟨?_, fun x won => ?_⟩
  · rw [winner_none_iff]
    simp only [same, Bool.not_eq_true]
  · obtain ⟨passes, lowest, nearest⟩ := winner_some won
    refine ⟨(same x).mpr passes, fun y hy => lowest y ((same y).mp hy), fun y hy => nearest y ((same y).mp hy), ?_⟩
    rintro t rfl
    have alerts : (s.report x).alerts = s.alerts.select x (s.classOf x) s.tables.autoAck := rfl
    have pointers := Alerts.select_pointers s.alerts x (s.classOf x) s.tables.autoAck
    refine ⟨rfl, rfl, ?_, fun c other => ?_, fun y hy => Alerts.select_other _ hy _ _, Alerts.select_condition _ x x _ _,
      fun below => ?_, fun above => ?_⟩
    · rw [alerts, pointers]
      exact (congrArg Fin.val (Tab.at_put_self _ _ _)).trans (succ_pointer x)
    · rw [alerts, pointers]
      exact Tab.at_put_of_ne _ _ other
    · have below : classNumber (s.classOf x) < s.tables.autoAck := below
      rw [alerts, Alerts.select_membership, Alerts.select_stack, if_pos below, if_pos below]
      exact ⟨rfl, rfl⟩
    · have above : ¬ classNumber (s.classOf x) < s.tables.autoAck := Nat.not_lt.mpr above
      rw [alerts, Alerts.select_membership, Alerts.select_stack, if_neg above, if_neg above]
      exact ⟨rfl, rfl⟩

/-! ## Acknowledgments (R149, R150) -/

/-- The end of an event after an acknowledgment: the source stays where the acknowledgment puts it. -/
theorem ends_acknowledged {s t : State} {x : Fin 65} (h : Ends (s.setAlerts (s.alerts.acknowledge x)) t) :
    onlyAlerts s t ∧ (∃ new, t.alerts.stack = new ++ s.alerts.stack.filter fun e => e.source != x) ∧
      (t.alerts.sources.at x).membership = (if isLevel x ∧ s.told x = true then .standing else .none) ∧ t.told x = s.told x := by
  have membership := Alerts.acknowledge_self s.alerts x
  have condition : ((s.alerts.acknowledge x).sources.at x).condition = (s.alerts.sources.at x).condition := by
    simp [Alerts.acknowledge, Alerts.move_at]
  have settled : ((s.alerts.acknowledge x).sources.at x).membership ≠ .pending := by
    rw [membership]
    split <;> simp
  have stands := h.others x settled
  refine ⟨onlyAlerts_trans (t := s.setAlerts (s.alerts.acknowledge x)) rfl h.only, h.stack, ?_, ?_⟩
  · rw [stands]
    refine membership.trans ?_
    unfold State.told
    cases isLevel x <;> cases (s.alerts.sources.at x).condition <;> rfl
  · rw [State.told, stands]
    exact condition

/-- Settles O42. -/
theorem acknowledgmentTakesTheSourceOutOfService : Obligations.AcknowledgmentTakesTheSourceOutOfService := by
  intro s tag ready
  refine ⟨fun b big => arrive_refused ready ?_, fun x out => arrive_refused ready ?_, fun empty => arrive_refused ready ?_,
    fun x served => ?_, fun top rest stack => ?_⟩
  · change reqAckSource b s = _
    rw [reqAckSource, decIndex_eq_none (by omega)]
    rfl
  · change reqAckSource (u8 x.val) s = _
    rw [reqAckSource, decIndex_u8 (by omega)]
    exact if_neg (by simpa using out)
  · change reqAckTop s = _
    rw [reqAckTop, empty]
    rfl
  · have e : handleRequest ⟨0x18, tag, [u8 x.val]⟩ s = ⟨[0], s.setAlerts (s.alerts.acknowledge x)⟩ := by
      change reqAckSource (u8 x.val) s = _
      rw [reqAckSource, decIndex_u8 (by omega)]
      exact if_pos (by simpa using served)
    obtain ⟨t, arrives, holds, ends⟩ := arrive_ends ready e rfl
    exact ⟨t, arrives, holds, ends_acknowledged ends⟩
  · have e : handleRequest ⟨0x19, tag, []⟩ s = ⟨[0, u8 top.source.val], s.setAlerts (s.alerts.acknowledge top.source)⟩ := by
      change reqAckTop s = _
      rw [reqAckTop, stack]
      rfl
    obtain ⟨t, arrives, holds, ends⟩ := arrive_ends ready e rfl
    obtain ⟨only, ⟨new, grown⟩, membership, -⟩ := ends_acknowledged ends
    refine ⟨t, arrives, holds, only, ⟨new, ?_⟩, membership⟩
    rw [grown, stack, List.filter_cons_of_neg (by simp)]

/-! ## SAVE, RESTART and the clock (R16, R17, R19) -/

theorem settled_setStore {s : State} (t : Store) (h : s.settled) : (s.setStore t).settled := h

/-- Settles O39. -/
theorem saveTakesItsSnapshotAtAcceptance : Obligations.SaveTakesItsSnapshotAtAcceptance := by
  intro s tag ready free
  have done : reqSave s = answer .done s.startSave := if_neg (by simp [free])
  refine ⟨fun idle => arrive_acted ready (done.trans ?_) (settled_setStore _ ready.2.1),
    fun j busy => arrive_acted ready (done.trans ?_) (settled_setStore _ ready.2.1)⟩
  · rw [State.startSave, idle]
    rfl
  · rw [State.startSave, busy]
    rfl

/-- Settles O35. -/
theorem restartHoldsDispatch : Obligations.RestartHoldsDispatch := by
  intro s tag ready
  refine ⟨fun busy => arrive_refused ready (if_pos busy), fun free => arrive_acted ready ?_ (settled_setLink rfl ready.2.1)⟩
  exact if_neg (by simp [free])

/-- Settles O38. -/
theorem plantSecondAdvancesTheClock : Obligations.PlantSecondAdvancesTheClock := by
  refine ⟨fun n => ⟨rfl, rfl⟩, fun s running =>
    ⟨s.advanceSeconds.countTimers, whileRunning_running running fun s => s.advanceSeconds.countTimers, ?_, fun below => ?_,
      fun top => ?_, fun k => ?_, fun u => ?_, fun o => ?_⟩⟩
  · rw [secondPasses_eq]
  · have e : s.advanceSeconds = { s with plantSeconds := s.plantSeconds + 1 } := if_neg below
    rw [e]
    exact ⟨rfl, rfl⟩
  · have e : s.advanceSeconds =
        { s with plantSeconds := Config.plantSecondsAfterTop s.freeUses, freeUses := s.freeUses + 1 } := if_pos top
    rw [e]
    exact ⟨rfl, rfl⟩
  all_goals
    rw [secondPasses_eq]
    exact Tab.at_each _ _ _

/-! ## ARMED validation (R11) -/

theorem countP_included (t : Tables) (k : Fin 6) :
    (t.pointsOf k).countP (·.included) = (List.finRange 48).countP fun p =>
      (t.points.at p).enabled && (t.points.at p).coil == some k && (t.points.at p).included := by
  unfold Tables.pointsOf
  rw [List.countP_filter, toList_eq_map, List.countP_map]
  refine List.countP_congr fun p _ => ?_
  simp only [Function.comp, Bool.and_eq_true]
  tauto

theorem pointsOf_segments (t : Tables) (k : Fin 6) (u : Fin 3) :
    (t.pointsOf k).any (fun p => p.segment != u) = true ↔
      ¬ ∀ p, (t.points.at p).enabled = true → (t.points.at p).coil = some k → (t.points.at p).segment = u := by
  unfold Tables.pointsOf
  rw [toList_eq_map]
  simp only [List.any_eq_true, List.mem_filter, List.mem_map, List.mem_finRange, true_and, Bool.and_eq_true, beq_iff_eq, bne_iff_ne]
  push Not
  constructor
  · rintro ⟨-, ⟨⟨p, rfl⟩, on, coil⟩, differs⟩
    exact ⟨p, on, coil, differs⟩
  · rintro ⟨p, on, coil, differs⟩
    exact ⟨_, ⟨⟨p, rfl⟩, on, coil⟩, differs⟩

theorem listed_iff (t : Tables) (c : Option (Fin 16)) : t.listed c = true ↔ ∀ d, c = some d → d ∈ t.scan := by
  cases c <;> simp [Tables.listed]

/-- The coils below a coil, that coil and the coils above it are the coils in ascending order. -/
theorem allCoils_split (k : Fin 6) :
    allCoils = allCoils.take k ++ k :: allCoils.drop (k + 1) ∧ ∀ j ∈ allCoils.take k, j < k := by
  revert k
  decide

/-- Settles O31. -/
theorem validationNamesTheFirstFailingCoil : Obligations.ValidationNamesTheFirstFailingCoil := by
  intro t
  refine ⟨fun k quorum segments channels hquorum hsegments hchannels => ?_, fun passes => ?_, fun k r present fails below => ?_⟩
  · have count : (t.pointsOf k).countP (·.included) < (t.coils.at k).quorum ↔ ¬ quorum := by
      rw [hquorum, countP_included, Nat.not_le]
    have segment := pointsOf_segments t k (t.coils.at k).unit
    rw [← hsegments] at segment
    have listed : (t.listed (t.coils.at k).lwt && t.listed (t.coils.at k).lat) = true ↔ channels := by
      rw [Bool.and_eq_true, listed_iff, listed_iff, hchannels]
      exact ⟨fun ⟨lwt, lat⟩ c bound => bound.elim (lwt c) (lat c), fun all => ⟨fun c h => all c (.inl h), fun c h => all c (.inr h)⟩⟩
    unfold Tables.failure
    dsimp only
    classical
    simp only [count, segment, listed]
    by_cases q : quorum <;> by_cases g : segments <;> by_cases c : channels <;> simp [q, g, c]
  · unfold Tables.validate
    rw [List.findSome?_eq_none_iff.mpr fun k _ => ?_]
    · rfl
    · split
      · rw [passes k ‹_›]
        rfl
      · rfl
  · obtain ⟨split, lower⟩ := allCoils_split k
    unfold Tables.validate
    rw [List.findSome?_eq_some_iff.mpr ⟨_, k, _, split, by rw [if_pos present, fails]; rfl, fun j hj => ?_⟩]
    · rfl
    · split
      · rw [below j (lower j hj) ‹_›]
        rfl
      · rfl

/-! ## The effective outputs (R131 to R134) -/

theorem unitProtected_iff {s : State} (protects : s.mode ≠ .fallback) (u : Fin 3) :
    s.unitProtected u = true ↔ s.mode = .armed ∨
      ∃ k, (s.cfg k).present = true ∧ (s.cfg k).unit = u ∧ (s.coils.at k).forced = true := by
  unfold State.unitProtected
  cases e : s.mode
  · simp
  · simp only [reduceCtorEq, false_or, List.any_eq_true, State.coilOf, Bool.and_eq_true, decide_eq_true_eq]
    exact ⟨fun ⟨k, _, ⟨present, unit⟩, forced⟩ => ⟨k, present, unit, forced⟩,
      fun ⟨k, present, unit, forced⟩ => ⟨k, mem_allCoils k, ⟨present, unit⟩, forced⟩⟩
  · exact absurd e protects

theorem effective_merged {s : State} (protects : s.mode ≠ .fallback) :
    s.effective = ⟨Tab.build s.valveOf, Tab.build s.pumpOf, Tab.build s.damperOf, Tab.build s.fanOf⟩ := by
  unfold State.effective
  split
  · exact absurd ‹_› protects
  · rfl
  · rfl

theorem tripOf_false_iff (s : State) (u : Fin 3) : s.tripOf u = false ↔
    ∀ k, (s.cfg k).present = true → (s.cfg k).unit = u → (s.coils.at k).stage ≠ .tripped ∧ (s.coils.at k).stage ≠ .lockout := by
  simp only [State.tripOf, List.any_eq_false, State.coilOf]
  refine ⟨fun h k present unit => ?_, fun h k _ => ?_⟩
  · have := h k (mem_allCoils k)
    simpa [present, unit] using this
  · by_cases of : (s.cfg k).present = true ∧ (s.cfg k).unit = u
    · simp [h k of.1 of.2]
    · rcases not_and_or.mp of with absent | other
      · simp [absent]
      · simp [other]

/-- Settles O59. -/
theorem outputsMergeHostAndProtection : Obligations.OutputsMergeHostAndProtection := by
  intro s
  refine ⟨fun fallback => ?_, fun protects u shielded hshielded => ?_, fun k fits => ?_, fun u => ?_⟩
  · have posture : s.effective = Outputs.posture := by rw [State.effective, fallback]
    rw [posture]
    exact ⟨fun k => ⟨Tab.at_build _ _, Tab.at_build _ _⟩, fun u => ⟨Tab.at_build _ _, Tab.at_build _ _⟩⟩
  · rw [effective_merged protects]
    simp only [Tab.at_build]
    have protected_iff := (unitProtected_iff protects u).trans hshielded.symm
    refine ⟨fun shield => ⟨fun k present unit => ?_, fun placed => ?_⟩, fun bare => ⟨fun k unit => ?_, ?_⟩, fun k absent => ?_⟩
    · have coil : s.coilProtected k = true := by simp [State.coilProtected, present, unit, protected_iff.mpr shield]
      unfold State.valveOf State.pumpOf
      simp only [coil]
      cases (s.coils.at k).stage <;> simp [CoilStage.valveFloor, CoilStage.pumpDemand, raiseTo]
    · have unit := protected_iff.mpr shield
      unfold State.damperOf State.fanOf
      simp only [unit, if_true]
      refine ⟨?_, ?_⟩
      · cases e : (s.units.at u).stage <;> simp_all [UnitStage.ceiling, lowerTo]
      · rw [← tripOf_false_iff]
        cases e : (s.units.at u).stage <;> simp_all [UnitStage.fanPermitted]
    · have coil : s.coilProtected k = false := by
        simp only [State.coilProtected, unit, Bool.and_eq_false_iff]
        exact .inr (Bool.eq_false_iff.mpr fun h => bare (protected_iff.mp h))
      simp [State.valveOf, State.pumpOf, coil]
    · have unit : s.unitProtected u = false := Bool.eq_false_iff.mpr fun h => bare (protected_iff.mp h)
      simp [State.damperOf, State.fanOf, unit]
    · have coil : s.coilProtected k = false := by simp [State.coilProtected, absent]
      simp [State.valveOf, State.pumpOf, coil]
  · by_cases fallback : s.mode = .fallback
    · have posture : s.effective = Outputs.posture := by rw [State.effective, fallback]
      rw [posture]
      exact fits.trans (Tab.at_build (n := 6) (fun _ => 1000) k).ge
    · rw [effective_merged fallback]
      simp only [Tab.at_build, State.valveOf]
      split
      · cases (s.coils.at k).stage.valveFloor (s.cfg k).g1 with
        | none => exact le_rfl
        | some floor => exact Nat.le_max_left _ _
      · exact le_rfl
  · by_cases fallback : s.mode = .fallback
    · have posture : s.effective = Outputs.posture := by rw [State.effective, fallback]
      rw [posture]
      exact (Tab.at_build (n := 3) (fun _ => 0) u).le.trans (Nat.zero_le _)
    · rw [effective_merged fallback]
      simp only [Tab.at_build, State.damperOf]
      split
      · cases (s.units.at u).stage.ceiling (s.tables.units.at u).damperMin with
        | none => exact le_rfl
        | some ceiling => exact Nat.min_le_left _ _
      · exact le_rfl

end Sys2Proof.Machine
end

section
/-! PROOF. What the resolver is told by the shared operations, and the settings and demands that reach the outputs
(O26, O27, O28, O41). -/

namespace Sys2Proof.Machine

open Sys2Proof

/-! ## The numbering of the sources (R140) -/

@[simp] theorem coilSource_inj (k j : Fin 6) (a b : Fin 8) : coilSource k a = coilSource j b ↔ k = j ∧ a = b := by
  simp only [coilSource, Fin.ext_iff]
  omega

@[simp] theorem unitSource_inj (u v : Fin 3) (a b : Fin 4) : unitSource u a = unitSource v b ↔ u = v ∧ a = b := by
  simp only [unitSource, Fin.ext_iff]
  omega

@[simp] theorem coilSource_ne_unitSource (k : Fin 6) (a : Fin 8) (u : Fin 3) (b : Fin 4) : coilSource k a ≠ unitSource u b := by
  simp only [coilSource, unitSource, ne_eq, Fin.ext_iff]
  omega

@[simp] theorem unitSource_ne_coilSource (k : Fin 6) (a : Fin 8) (u : Fin 3) (b : Fin 4) : unitSource u b ≠ coilSource k a :=
  (coilSource_ne_unitSource k a u b).symm

theorem coilSource_ne_device (k : Fin 6) (a : Fin 8) {x : Fin 65} (hx : 60 ≤ x.val) : coilSource k a ≠ x := by
  simp only [coilSource, ne_eq, Fin.ext_iff]
  omega

theorem unitSource_ne_device (u : Fin 3) (a : Fin 4) {x : Fin 65} (hx : 60 ≤ x.val) : unitSource u a ≠ x := by
  simp only [unitSource, ne_eq, Fin.ext_iff]
  omega

/-! ## What is told -/

section
variable (s : State)

theorem told_handLevel (x y : Fin 65) (c : Bool) : (s.handLevel x c).told y = if y = x then c else s.told y := by
  change ((s.alerts.handLevel x c).sources.at y).condition = _
  split
  · rename_i h
    rw [h, Alerts.handLevel_condition]
  · rename_i h
    rw [Alerts.handLevel_other _ h]
    rfl

@[simp] theorem told_handLevel_self (x : Fin 65) (c : Bool) : (s.handLevel x c).told x = c := by
  rw [told_handLevel, if_pos rfl]

theorem told_handLevel_other {x y : Fin 65} (h : y ≠ x) (c : Bool) : (s.handLevel x c).told y = s.told y := by
  rw [told_handLevel, if_neg h]

@[simp] theorem told_raiseEdge (x y : Fin 65) : (s.raiseEdge x).told y = s.told y := Alerts.raiseEdge_condition _ x y

/-- DEMAND_STALE of every unit is told as it stands. -/
theorem told_handDemandsStale (u : Fin 3) :
    s.handDemandsStale.told (srcDemandStale u) = s.demandStaleCondition u := by
  change (State.handDemandStale (State.handDemandStale (s.handDemandStale 0) 1) 2).told (srcDemandStale u) = _
  simp only [State.handDemandStale, told_handLevel, srcDemandStale, unitSource_inj, and_true]
  match u with
  | 0 => rfl
  | 1 => rfl
  | 2 => rfl

end

/-! ### Pump proving -/

/-- Between `s` and `t` pump proving alone has moved, and PUMP_FAIL is the only source it tells. -/
structure Proves (s t : State) : Prop where
  frame : proveFrame s t
  told : ∀ y, (∀ k, y ≠ srcPumpFail k) → t.told y = s.told y
  pumpFail : ∀ k, s.told (srcPumpFail k) = s.pumpFailCondition k → t.told (srcPumpFail k) = t.pumpFailCondition k
  membership : ∀ y, (∀ k, y ≠ srcPumpFail k) → t.alerts.sources.at y = s.alerts.sources.at y

theorem Proves.refl (s : State) : Proves s s := ⟨proveFrame_refl s, fun _ _ => rfl, fun _ => id, fun _ _ => rfl⟩

theorem Proves.trans {s t u : State} (h : Proves s t) (h' : Proves t u) : Proves s u :=
  ⟨proveFrame_trans h.frame h'.frame, fun y hy => (h'.told y hy).trans (h.told y hy), fun k => h'.pumpFail k ∘ h.pumpFail k,
    fun y hy => (h'.membership y hy).trans (h.membership y hy)⟩

theorem setProve_eq (s : State) (k : Fin 6) (p : Prove) (n : Option Nat) :
    s.setProve k p n = (s.setCoil k { s.coils.at k with prove := p, proveTimer := n }).handLevel (srcPumpFail k)
      ((s.cfg k).present && p == .failed) := by
  unfold State.setProve State.handPumpFail State.pumpFailCondition
  rw [State.setCoil_coils, Tab.at_put_self]
  rfl

theorem proves_setProve (s : State) (k : Fin 6) (p : Prove) (n : Option Nat) : Proves s (s.setProve k p n) := by
  refine ⟨proveFrame_setProve s k p n, fun y hy => told_handLevel_other _ (hy k) _, fun j hj => ?_,
    fun y hy => Alerts.handLevel_other _ (hy k) _⟩
  rw [setProve_eq, told_handLevel]
  unfold State.pumpFailCondition at hj ⊢
  change _ = ((s.cfg j).present && ((s.coils.put k _).at j).prove == .failed)
  rw [Tab.at_put]
  by_cases same : j = k
  · rw [same, if_pos rfl, if_pos rfl]
  · rw [if_neg same, if_neg (by simpa [srcPumpFail] using same)]
    exact hj

theorem proves_pumpTurned (s : State) (k : Fin 6) (on : Bool) : Proves s (s.pumpTurned k on) := by
  unfold State.pumpTurned
  split
  · split
    · split
      · exact proves_setProve s k _ _
      · exact proves_setProve s k _ _
    · exact .refl s
    · exact .refl s
    · exact .refl s
    · exact .refl s
    · exact proves_setProve s k _ _
    · exact proves_setProve s k _ _
    · exact proves_setProve s k _ _
  · exact .refl s

theorem proves_foldl {α : Type} (f : State → α → State) (h : ∀ s a, Proves s (f s a)) (l : List α) (s : State) :
    Proves s (l.foldl f s) := by
  induction l generalizing s with
  | nil => exact .refl s
  | cons a l ih => exact (h s a).trans (ih (f s a))

theorem proves_handPump (before : Outputs) (s : State) (k : Fin 6) : Proves s (handPump before s k) := by
  unfold handPump
  split
  · exact .refl s
  · exact proves_pumpTurned s k _

/-- A recompute sets the pins, and then pump proving alone moves. -/
theorem proves_recompute (s : State) : Proves (s.setOutputs s.effective) s.recompute :=
  proves_foldl _ (proves_handPump s.outputs) _ _

theorem proves_proveFresh (s : State) (k : Fin 6) : Proves s (s.proveFresh k) := by
  unfold State.proveFresh
  split
  · split
    · exact proves_setProve s k _ _
    · split
      · exact proves_setProve s k _ _
      · exact proves_setProve s k _ _
  · exact proves_setProve s k _ _

section
variable {s t : State} (h : proveFrame s t)
include h

theorem proveFrame_units : t.units = s.units := by rw [h.1]
theorem proveFrame_exposures : t.exposures = s.exposures := by rw [h.1]
theorem proveFrame_store : t.store = s.store := by rw [h.1]
theorem proveFrame_outputs : t.outputs = s.outputs := by rw [h.1]

end

section
variable (s : State)

@[simp] theorem recompute_units : s.recompute.units = s.units := (proveFrame_units (recompute_proves s)).trans rfl
@[simp] theorem recompute_exposures : s.recompute.exposures = s.exposures := (proveFrame_exposures (recompute_proves s)).trans rfl
@[simp] theorem recompute_store : s.recompute.store = s.store := (proveFrame_store (recompute_proves s)).trans rfl
@[simp] theorem recompute_link : s.recompute.link = s.link := seqFrame_link (seqFrame_recompute s)

theorem recompute_coils (j : Fin 6) : (s.coils.at j).sameButProve (s.recompute.coils.at j) :=
  proveFrame_sameButProve (recompute_proves s) j

theorem recompute_told {y : Fin 65} (h : ∀ k, y ≠ srcPumpFail k) : s.recompute.told y = s.told y := (proves_recompute s).told y h

end

/-! ## What stands outside the protection blocks -/

theorem sameOutside_refl (s : State) : sameOutside s s :=
  ⟨rfl, rfl, rfl, rfl, rfl, rfl, rfl, rfl, rfl, rfl, rfl, rfl, rfl, rfl, rfl, rfl, rfl⟩

theorem seqFrame.outside {s t : State} (h : seqFrame s t) : sameOutside s t := by
  rw [show t = _ from h]
  exact sameOutside_refl s

theorem sameOutside_trans {s t u : State} (h : sameOutside s t) (h' : sameOutside t u) : sameOutside s u := by
  unfold sameOutside at *
  obtain ⟨h1, h2, h3, h4, h5, h6, h7, h8, h9, h10, h11, h12, h13, h14, h15, h16, h17⟩ := h
  rw [h1, h2, h3, h4, h5, h6, h7, h8, h9, h10, h11, h12, h13, h14, h15, h16, h17] at h'
  exact h'

/-- The outputs at their rules after the end of an event whose block has recomputed them. -/
theorem Ends.driven {q t : State} (h : Ends q t) (driven : q.driven) : t.outputs = t.effective := by
  rw [h.only.outputs, h.only.effective]
  exact driven

/-- A write of the tables that recomputes the outputs, to the end of its event. -/
theorem ends_recomputed {s t : State} {T : Tables} (h : Ends (s.setTables T).recompute t) :
    t.tables = T ∧ t.outputs = t.effective ∧ t.mode = s.mode ∧ t.demands = s.demands ∧ t.exposures = s.exposures ∧
      t.units = s.units ∧ t.faces = s.faces ∧ t.inputs = s.inputs ∧ t.store = s.store ∧ coilsSameButProve s t ∧
      sameOutside s t := by
  have frame := seqFrame_recompute (s.setTables T)
  have only := h.only
  have coils (k : Fin 6) : (s.coils.at k).sameButProve (t.coils.at k) := by
    rw [only.coils]
    exact recompute_coils (s.setTables T) k
  exact ⟨only.tables.trans (seqFrame_tables frame), h.driven (recompute_driven _), only.mode.trans ((seqFrame_mode frame).trans rfl),
    only.demands.trans ((seqFrame_demands frame).trans rfl), only.exposures.trans (recompute_exposures _), only.units.trans (recompute_units _),
    only.faces.trans ((seqFrame_faces frame).trans rfl), only.inputs.trans ((seqFrame_inputs frame).trans rfl), only.store.trans (recompute_store _),
    coils, only.sameOutside (sameOutside_trans (sameOutside_refl s) frame.outside)⟩

/-! ## SET-UNIT and SET-OUTPUT (R5, R9) -/

/-- Settles O26. -/
theorem unitAndOutputSettingsReachTheOutputs : Obligations.UnitAndOutputSettingsReachTheOutputs := by
  intro s tag ready free
  refine ⟨fun u d st h f hd hst hst' hf hf' hh => ?_, fun o l code v p hp => ?_⟩
  · have e : handleRequest ⟨0x31, tag, encNumber u :: halfBytes d ++ halfBytes st ++ [f] ++ halfBytes h⟩ s = ⟨[0],
        (s.setTables { s.tables with units := s.tables.units.put u ⟨d.toNat, st.toNat, f.toNat, h.toNat⟩ }).recompute⟩ := by
      refine (handle_setUnit tag s _ f d st h).trans ?_
      unfold reqSetUnit
      rw [free, decNumber_encNumber (by omega)]
      simp only [Bool.false_eq_true, if_false]
      refine if_pos ?_
      simp only [UnitCfg.valid, within, Bool.and_eq_true, decide_eq_true_eq]
      omega
    obtain ⟨t, arrives, holds, ends⟩ := arrive_ends ready e (by rw [recompute_link]; rfl)
    exact ⟨t, arrives, holds, ends_recomputed ends⟩
  · have e : handleRequest ⟨0x36, tag, [encNumber o, l, code] ++ halfBytes v⟩ s = ⟨[0],
        (s.setTables { s.tables with outputs := s.tables.outputs.put o { lifetime := l.toNat, policy := p } }).recompute⟩ := by
      have read : policyOf code v = some p := by
        rcases hp with ⟨rfl, rfl⟩ | ⟨rfl, rfl, -⟩ <;> rfl
      have valid : OutputCfg.valid o { lifetime := l.toNat, policy := p } = true := by
        have life : within 0 255 l.toNat = true := decide_eq_true ⟨Nat.zero_le _, by omega⟩
        rcases hp with ⟨-, rfl⟩ | ⟨-, rfl, fits⟩
        · simp [OutputCfg.valid, life, Policy.valid]
        · simp only [OutputCfg.valid, life, Policy.valid, Bool.true_and]
          split at fits <;> simp_all [within]
      refine (handle_setOutput tag s _ l code v).trans ?_
      unfold reqSetOutput
      rw [free, decNumber_encNumber (by omega), read]
      exact if_pos valid
    obtain ⟨t, arrives, holds, ends⟩ := arrive_ends ready e (by rw [recompute_link]; rfl)
    exact ⟨t, arrives, holds, ends_recomputed ends⟩

end Sys2Proof.Machine
end

section
/-! PROOF. Inputs, sources, demands and the unit's timers (O27, O28, O41, O56, O57). -/

namespace Sys2Proof.Machine

open Sys2Proof

/-! ## Frames of a block's event -/

/-- A block that leaves the rest of the part, to the end of its event. -/
theorem onlyProtection_of_ends {s q t : State} (h : Ends q t) (frame : seqFrame s q) : onlyProtection s t := by
  unfold onlyProtection onlyAlerts
  have only : t = _ := h.only
  have coils := h.only.coils
  have exposures := h.only.exposures
  have units := h.only.units
  have outputs := h.only.outputs
  have store := h.only.store
  rw [coils, exposures, units, outputs, store]
  rw [show q = _ from frame] at only
  exact only

/-! ## Delivery of a debounced change (R138) -/

theorem seqFrame_deliver (s : State) (i : Fin 15) : seqFrame s (s.deliver i) := by
  unfold State.deliver
  dsimp only
  split
  · exact seqFrame_flowEvent s _ _
  · split
    · exact seqFrame_trans (seqFrame_proofEvent s _ _ _) (seqFrame_recompute _)
    · split
      · exact seqFrame_trans (seqFrame_proofEvent s _ _ _) (seqFrame_recompute _)
      · split
        · exact seqFrame_localReset s _
        · exact seqFrame_refl s

section
variable {s : State} {i : Fin 15}

theorem levelChanged_reverts (same : s.inputLevel i = (s.inputs.at i).debounced) :
    s.levelChanged i = s.setInput i { debounced := (s.inputs.at i).debounced, timer := none } := by
  unfold State.levelChanged
  exact if_pos same

theorem levelChanged_starts (differs : s.inputLevel i ≠ (s.inputs.at i).debounced) (steps : 0 < (s.tables.inputs.at i).debounce) :
    s.levelChanged i =
      s.setInput i { debounced := (s.inputs.at i).debounced, timer := some (100 * (s.tables.inputs.at i).debounce) } := by
  unfold State.levelChanged
  exact (if_neg differs).trans (if_neg (by omega))

theorem levelChanged_adopts (differs : s.inputLevel i ≠ (s.inputs.at i).debounced) (steps : (s.tables.inputs.at i).debounce = 0) :
    s.levelChanged i = s.adoptLevel i := by
  unfold State.levelChanged
  exact (if_neg differs).trans (if_pos steps)

theorem settled_setInput (r : InputRec) (h : s.settled) : (s.setInput i r).settled := h

theorem adoptLevel_inputs : (s.adoptLevel i).inputs = s.inputs.put i { debounced := s.inputLevel i, timer := none } :=
  seqFrame_inputs (seqFrame_deliver (s.setInput i _) i)

theorem seqFrame_adoptLevel : seqFrame (s.setInput i { debounced := s.inputLevel i, timer := none }) (s.adoptLevel i) :=
  seqFrame_deliver _ i

end

/-! ## SET-INPUT (R9, R136, R137) -/

theorem reqSetInput_done {s : State} (free : s.saveBusy = false) (i : Fin 15) (low : Bool) {d : Byte} (fits : d.toNat ≤ 15) :
    reqSetInput (encNumber i) (flagByte low) d s =
      answer .done (if (s.tables.inputs.at i).activeLow = low
        then s.setTables { s.tables with inputs := s.tables.inputs.put i { activeLow := low, debounce := d.toNat } }
        else (s.setTables { s.tables with
          inputs := s.tables.inputs.put i { activeLow := low, debounce := d.toNat } }).levelChanged i) := by
  unfold reqSetInput
  rw [free, decNumber_encNumber (by omega), decFlag_flagByte]
  exact if_pos (decide_eq_true ⟨Nat.zero_le _, fits⟩)

/-- The level of input `i` under a record that has replaced its own. -/
theorem inputLevel_written (s : State) (i : Fin 15) (c : InputCfg) :
    (s.setTables { s.tables with inputs := s.tables.inputs.put i c }).inputLevel i = (s.pins.at i != c.activeLow) := by
  change (s.pins.at i != ((s.tables.inputs.put i c).at i).activeLow) = _
  rw [Tab.at_put_self]

theorem debounce_written (s : State) (i : Fin 15) (c : InputCfg) :
    ((s.setTables { s.tables with inputs := s.tables.inputs.put i c }).tables.inputs.at i).debounce = c.debounce :=
  congrArg InputCfg.debounce (Tab.at_put_self _ _ _)

/-- Settles O27. -/
theorem inputSettingInvertsTheLevel : Obligations.InputSettingInvertsTheLevel := by
  intro s tag i low d ready free fits
  have settled := ready.2.1
  have done := reqSetInput_done free i low fits
  have level := inputLevel_written s i { activeLow := low, debounce := d.toNat }
  have steps := debounce_written s i { activeLow := low, debounce := d.toNat }
  have inverted (h : low ≠ (s.tables.inputs.at i).activeLow) :
      reqSetInput (encNumber i) (flagByte low) d s = answer .done ((s.setTables { s.tables with
        inputs := s.tables.inputs.put i { activeLow := low, debounce := d.toNat } }).levelChanged i) := by
    rw [done, if_neg (Ne.symm h)]
  refine ⟨fun kept => ?_, fun differs agrees => ?_, fun differs moved some => ?_, fun differs moved zero => ?_⟩
  · refine arrive_acted ready ?_ (settled_setTables (t := { s.tables with
      inputs := s.tables.inputs.put i { activeLow := low, debounce := d.toNat } }) rfl settled)
    refine done.trans ?_
    rw [if_pos kept.symm]
    rfl
  · refine arrive_acted ready ((inverted differs).trans ?_) (settled_setInput _ (settled_setTables (t := { s.tables with
      inputs := s.tables.inputs.put i { activeLow := low, debounce := d.toNat } }) rfl settled))
    rw [levelChanged_reverts (level.trans agrees.symm)]
    rfl
  · refine arrive_acted ready ((inverted differs).trans ?_) (settled_setInput _ (settled_setTables (t := { s.tables with
      inputs := s.tables.inputs.put i { activeLow := low, debounce := d.toNat } }) rfl settled))
    rw [levelChanged_starts (s := s.setTables { s.tables with
      inputs := s.tables.inputs.put i { activeLow := low, debounce := d.toNat } }) (fun same => moved (same.symm.trans level))
      (by rw [steps]; exact some), steps]
    rfl
  · have e := inverted differs
    rw [levelChanged_adopts (s := s.setTables { s.tables with
      inputs := s.tables.inputs.put i { activeLow := low, debounce := d.toNat } }) (fun same => moved (same.symm.trans level))
      (by rw [steps]; exact zero)] at e
    have frame := seqFrame_adoptLevel (s := s.setTables { s.tables with
      inputs := s.tables.inputs.put i { activeLow := low, debounce := d.toNat } }) (i := i)
    obtain ⟨t, arrives, holds, ends⟩ := arrive_ends (tag := tag) (kind := 0x37)
      (payload := [encNumber i, flagByte low, d]) ready e (by rw [seqFrame_link frame]; rfl)
    have inputs := ends.only.inputs.trans adoptLevel_inputs
    rw [level] at inputs
    refine ⟨t, arrives, holds, ?_, ?_, fun j hj => ?_⟩
    · rw [← zero]
      exact ends.only.tables.trans ((seqFrame_tables frame).trans rfl)
    · rw [inputs]
      exact Tab.at_put_self _ _ _
    · rw [inputs]
      exact Tab.at_put_of_ne _ _ hj

/-! ## Debounce (R136, R137) -/

theorem inputLevel_moved (s : State) (i : Fin 15) (high : Bool) :
    (s.setPin i high).inputLevel i = (high != (s.tables.inputs.at i).activeLow) := by
  change ((s.pins.put i high).at i != (s.tables.inputs.at i).activeLow) = _
  rw [Tab.at_put_self]

theorem exec_pinStands {s : State} {i : Fin 15} {high : Bool} (stands : s.pins.at i = high) :
    exec (.inputLevelChange i high) s = .next s := if_pos stands

theorem exec_pinMoves {s : State} {i : Fin 15} {high : Bool} (moves : s.pins.at i ≠ high) :
    exec (.inputLevelChange i high) s = whileRunning (s.setPin i high) fun s => (s.levelChanged i).conclude := if_neg moves

theorem whileRunning_stopped {s : State} (stopped : s.power ≠ .running) (act : State → State) : whileRunning s act = .next s := by
  unfold whileRunning
  split
  · exact absurd ‹_› stopped
  · rfl
  · rfl

/-- Settles O57. -/
theorem inputsAreDebounced : Obligations.InputsAreDebounced := by
  intro s i
  refine ⟨fun high stands => exec_pinStands stands, fun high moves stopped => ?_, fun running settled => ⟨fun high moves same => ?_,
    fun high moves differs steps => ?_, fun high moves differs zero => ?_, fun stopped => ?_, fun n runs => ?_⟩⟩
  · rw [exec_pinMoves moves]
    exact whileRunning_stopped (s := s.setPin i high) stopped _
  · rw [exec_pinMoves moves]
    exact whileRunning_settled (s := s.setPin i high) (act := (State.levelChanged · i)) running
      (levelChanged_reverts ((inputLevel_moved s i high).trans same)) settled
  · rw [exec_pinMoves moves]
    exact whileRunning_settled (s := s.setPin i high) (act := (State.levelChanged · i)) running
      (levelChanged_starts (fun same => differs ((inputLevel_moved s i high).symm.trans same)) steps) settled
  · obtain ⟨t, acts, ends⟩ := whileRunning_ends (s := s.setPin i high) running (State.levelChanged · i)
    have adopts : (s.setPin i high).levelChanged i = (s.setPin i high).adoptLevel i :=
      levelChanged_adopts (fun same => differs ((inputLevel_moved s i high).symm.trans same)) zero
    have ends : Ends ((s.setPin i high).adoptLevel i) t := adopts ▸ ends
    have frame := seqFrame_adoptLevel (s := s.setPin i high) (i := i)
    have inputs := ends.only.inputs.trans adoptLevel_inputs
    have pins : t.pins = s.pins.put i high := (ends.only.reads State.pins fun _ _ _ => rfl).trans
      (frame.outside.2.2.2.2.2.2.2.2.2.2.2.1.trans rfl)
    refine ⟨t, (exec_pinMoves moves).trans acts, ?_, pins, by rw [inputs, inputLevel_moved]; rfl⟩
    rw [pins, inputs]
    exact onlyProtection_of_ends ends frame
  · refine whileRunning_settled (act := (State.debounceExpires · i)) running ?_ settled
    unfold State.debounceExpires
    dsimp only
    rw [stopped]
  · obtain ⟨t, acts, ends⟩ := whileRunning_ends running (State.debounceExpires · i)
    have inputs : t.inputs = s.inputs.put i { debounced := s.inputLevel i, timer := none } ∧
        seqFrame (s.setInput i { debounced := s.inputLevel i, timer := none }) (s.debounceExpires i) := by
      rw [ends.only.inputs]
      unfold State.debounceExpires
      dsimp only
      rw [runs]
      dsimp only
      split
      · rename_i same
        rw [same]
        exact ⟨rfl, seqFrame_refl _⟩
      · exact ⟨adoptLevel_inputs, seqFrame_adoptLevel⟩
    obtain ⟨inputs, frame⟩ := inputs
    refine ⟨t, acts, ?_, inputs⟩
    rw [inputs]
    exact onlyProtection_of_ends ends frame

/-! ## SET-SOURCE (R10, R145, R151) -/

theorem reqSetSource_done {s : State} (free : s.saveBusy = false) (x : Fin 65) (c : Fin 8) (m : Bool) :
    reqSetSource (u8 x.val) (encNumber c) (flagByte m) s =
      answer .done (if (s.tables.sources.at x).masked = m
        then s.setTables { s.tables with sources := s.tables.sources.put x { cls := c, masked := m } }
        else (s.setTables { s.tables with sources := s.tables.sources.put x { cls := c, masked := m } }).noteSelection) := by
  unfold reqSetSource
  rw [free, decIndex_u8 (by omega), decNumber_encNumber (by omega), decFlag_flagByte]
  rfl

/-- A class does not enter the ALERT line. -/
theorem settled_classWritten {s : State} {x : Fin 65} {c : Fin 8} {m : Bool} (kept : (s.tables.sources.at x).masked = m)
    (h : s.settled) : (s.setTables { s.tables with sources := s.tables.sources.put x { cls := c, masked := m } }).settled := by
  obtain ⟨due, begun, line⟩ := h
  refine ⟨due, begun, line.trans ?_⟩
  unfold State.alertLineLevel
  have masks (y : Fin 65) : ((s.tables.sources.put x { cls := c, masked := m }).at y).masked = (s.tables.sources.at y).masked := by
    rw [Tab.at_put]
    split
    · rename_i hy
      rw [hy]
      exact kept.symm
    · rfl
  simp only [State.setTables_alerts, State.setTables_tables, masks]

/-- Settles O28. -/
theorem sourceSettingSelectsOnAMaskChange : Obligations.SourceSettingSelectsOnAMaskChange := by
  intro s tag x c m ready free
  have done := reqSetSource_done free x c m
  refine ⟨fun kept => arrive_acted ready ?_ (settled_classWritten (c := c) kept.symm ready.2.1), fun changed => ?_⟩
  · refine done.trans ?_
    rw [if_pos kept.symm]
    rfl
  · rw [if_neg (Ne.symm changed)] at done
    obtain ⟨t, arrives, holds, ends⟩ := arrive_ends (tag := tag) (kind := 0x38)
      (payload := [u8 x.val, encNumber c, flagByte m]) ready done rfl
    have only := ends.only
    exact ⟨t, arrives, holds, only.tables, ends.line, .inl (ends.winner rfl), only.mode, only.coils, only.exposures, only.units,
      only.outputs, only.demands, only.faces, only.inputs, only.store, only.sameOutside (sameOutside_refl s)⟩

/-! ## PUT-DEMAND and the lifetime's expiry (R125 to R127) -/

theorem demandPairs_none {pairs : List (Byte × Half)} (h : ∃ p ∈ pairs, p.1.toNat = 0 ∨ 18 < p.1.toNat) :
    demandPairs pairs = none := by
  induction pairs with
  | nil =>
    obtain ⟨p, member, -⟩ := h
    cases member
  | cons p l ih =>
    obtain ⟨q, member, out⟩ := h
    unfold demandPairs
    split
    · rename_i o rest number pairs
      rcases List.mem_cons.mp member with rfl | member
      · rw [decNumber_eq_none out] at number
        cases number
      · rw [ih ⟨q, member, out⟩] at pairs
        cases pairs
    · rfl

theorem demandPairs_map (l : List (Fin 18 × Half)) : demandPairs (l.map fun p => (encNumber p.1, p.2)) = some l := by
  induction l with
  | nil => rfl
  | cons p l ih => rw [List.map_cons, demandPairs, decNumber_encNumber (by omega), ih]

/-- An output that no pair names keeps its record. -/
theorem applyDemands_other (s : State) (l : List (Fin 18 × Half)) (o : Fin 18) (h : ∀ p ∈ l, p.1 ≠ o) :
    (s.applyDemands l).demands.at o = s.demands.at o := by
  have fold (f : State → Fin 18 × Half → State) (other : ∀ s p, p.1 ≠ o → (f s p).demands.at o = s.demands.at o)
      (l : List (Fin 18 × Half)) (h : ∀ p ∈ l, p.1 ≠ o) (s : State) : (l.foldl f s).demands.at o = s.demands.at o := by
    induction l generalizing s with
    | nil => rfl
    | cons p l ih =>
      rw [List.foldl_cons, ih (fun q hq => h q (List.mem_cons_of_mem _ hq)), other s p (h p List.mem_cons_self)]
  unfold State.applyDemands
  rw [fold State.refreshDemand (fun s p hp => Tab.at_put_of_ne _ _ (Ne.symm hp)) l h,
    fold State.applyDemand (fun s p hp => Tab.at_put_of_ne _ _ (Ne.symm hp)) l h]

theorem foldl_applyDemand_other {o : Fin 18} {l : List (Fin 18 × Half)} (h : ∀ p ∈ l, p.1 ≠ o) (s : State) :
    (l.foldl State.applyDemand s).demands.at o = s.demands.at o := by
  induction l generalizing s with
  | nil => rfl
  | cons p l ih =>
    rw [List.foldl_cons, ih (fun q hq => h q (List.mem_cons_of_mem _ hq))]
    exact Tab.at_put_of_ne _ _ (Ne.symm (h p List.mem_cons_self))

/-- A refresh leaves the values, and makes the named output FRESH with its lifetime. -/
theorem foldl_refreshDemand (o : Fin 18) (l : List (Fin 18 × Half)) (s : State) :
    ((l.foldl State.refreshDemand s).demands.at o).value = (s.demands.at o).value ∧
      ((l.foldl State.refreshDemand s).demands.at o).received = (s.demands.at o).received ∧
      ((∃ p ∈ l, p.1 = o) ∨ (s.demands.at o).fresh = true ∧ (s.demands.at o).timer = lifetimeTimer (s.tables.outputs.at o).lifetime →
        ((l.foldl State.refreshDemand s).demands.at o).fresh = true ∧
        ((l.foldl State.refreshDemand s).demands.at o).timer = lifetimeTimer (s.tables.outputs.at o).lifetime) := by
  induction l generalizing s with
  | nil => exact ⟨rfl, rfl, fun h => h.resolve_left (by simp)⟩
  | cons p l ih =>
    obtain ⟨value, received, refreshed⟩ := ih (s.refreshDemand p)
    rw [List.foldl_cons, value, received]
    by_cases named : p.1 = o
    · have now : (s.refreshDemand p).demands.at o =
          { s.demands.at o with fresh := true, timer := lifetimeTimer (s.tables.outputs.at o).lifetime } := by
        rw [← named]
        exact Tab.at_put_self _ _ _
      rw [now] at refreshed ⊢
      exact ⟨rfl, rfl, fun _ => refreshed (.inr ⟨rfl, rfl⟩)⟩
    · have kept : (s.refreshDemand p).demands.at o = s.demands.at o := Tab.at_put_of_ne _ _ (Ne.symm named)
      rw [kept] at refreshed ⊢
      refine ⟨rfl, rfl, fun h => refreshed (h.imp_left fun ⟨q, member, hq⟩ => ?_)⟩
      rcases List.mem_cons.mp member with rfl | member
      · exact absurd hq named
      · exact ⟨q, member, hq⟩

/-- A named output holds its last pair's value, received and FRESH, with its lifetime started (R126). -/
theorem applyDemands_last (s : State) {o : Fin 18} {v : Half} {front back : List (Fin 18 × Half)} (last : ∀ p ∈ back, p.1 ≠ o) :
    (s.applyDemands (front ++ (o, v) :: back)).demands.at o =
      { value := demandValue o v, received := true, fresh := true, timer := lifetimeTimer (s.tables.outputs.at o).lifetime } := by
  have stored : ((front ++ (o, v) :: back).foldl State.applyDemand s).demands.at o =
      { (front.foldl State.applyDemand s).demands.at o with value := demandValue o v, received := true } := by
    rw [List.foldl_append, List.foldl_cons, foldl_applyDemand_other last]
    exact Tab.at_put_self _ _ _
  have tables (l : List (Fin 18 × Half)) (s : State) : (l.foldl State.applyDemand s).tables = s.tables := by
    induction l generalizing s with
    | nil => rfl
    | cons p l ih => exact ih (s.applyDemand p)
  obtain ⟨value, received, refreshed⟩ := foldl_refreshDemand o (front ++ (o, v) :: back)
    ((front ++ (o, v) :: back).foldl State.applyDemand s)
  obtain ⟨fresh, timer⟩ := refreshed (.inl ⟨(o, v), by simp, rfl⟩)
  rw [stored] at value received
  rw [tables] at timer
  unfold State.applyDemands
  generalize (List.foldl State.refreshDemand _ _).demands.at o = d at *
  obtain ⟨_, _, _, _⟩ := d
  simp_all

theorem onlyAlerts.demandStale {s t : State} (h : onlyAlerts s t) (u : Fin 3) :
    t.demandStaleCondition u = s.demandStaleCondition u := h.reads (State.demandStaleCondition · u) fun _ _ _ => rfl

theorem onlyAlerts_handDemandsStale (s : State) : onlyAlerts s s.handDemandsStale := rfl

/-- The outputs recomputed and DEMAND_STALE told, to the end of the event. -/
theorem ends_recomputedStale {s t : State} (h : Ends s.recompute.handDemandsStale t) :
    t.demands = s.demands ∧ onlyProtection s t ∧ t.exposures = s.exposures ∧ t.units = s.units ∧
      t.store = s.store ∧ coilsSameButProve s t ∧ t.outputs = t.effective ∧
      ∀ u, t.told (srcDemandStale u) = t.demandStaleCondition u := by
  have frame := seqFrame_trans (seqFrame_recompute s) (seqFrame_handDemandsStale _)
  have only := onlyAlerts_trans (onlyAlerts_handDemandsStale s.recompute) h.only
  refine ⟨h.only.demands.trans (seqFrame_demands frame), onlyProtection_of_ends h frame, only.exposures.trans (recompute_exposures _),
    only.units.trans (recompute_units _), only.store.trans (recompute_store _), fun k => ?_, ?_, fun u => ?_⟩
  · rw [only.coils]
    exact recompute_coils s k
  · rw [only.outputs, only.effective]
    exact recompute_driven _
  · rw [h.told, told_handDemandsStale]
    exact (only.demandStale u).symm

/-- Demand records written, the outputs recomputed and DEMAND_STALE told, to the end of the event. -/
theorem ends_staled {s t : State} {D : Tab Demand 18} (h : Ends ({ s with demands := D } : State).recompute.handDemandsStale t) :
    t.demands = D ∧ onlyProtection { s with demands := t.demands } t ∧ t.exposures = s.exposures ∧ t.units = s.units ∧
      t.store = s.store ∧ coilsSameButProve s t ∧ t.outputs = t.effective ∧
      ∀ u, t.told (srcDemandStale u) = t.demandStaleCondition u := by
  obtain ⟨demands, protection, rest⟩ := ends_recomputedStale h
  change t.demands = D at demands
  exact ⟨demands, demands ▸ protection, rest⟩

theorem exec_putDemand {s : State} (tag : Byte) {pairs : List (Byte × Half)} (fits : pairs.length ≤ 18) :
    exec (.putDemand tag pairs) s = arrive 0x10 tag (demandPayload pairs) s := by
  have length : (pairs.flatMap fun p => p.1 :: halfBytes p.2).length = 3 * pairs.length := by
    simp [List.length_flatMap, halfBytes, Nat.mul_comm]
  refine if_pos ?_
  simp only [demandPayload, List.length_cons, length, Config.maxPayload]
  omega

/-- Settles O41. -/
theorem demandsAreStoredWholeAndExpire : Obligations.DemandsAreStoredWholeAndExpire := by
  intro s
  refine ⟨fun tag pairs ready fits out => ?_, fun tag l ready some fits => ?_, fun o running settled stopped => ?_,
    fun o n running runs => ?_⟩
  · have some : 1 ≤ pairs.length := by
      obtain ⟨p, member, -⟩ := out
      exact List.length_pos_of_mem member
    refine (exec_putDemand tag fits).trans (arrive_refused ready ((handle_putDemand tag s some fits).trans ?_))
    rw [reqPutDemand, demandPairs_none out]
    rfl
  · have named : (l.map fun p => (encNumber p.1, p.2)).length = l.length := List.length_map _
    have e : handleRequest ⟨0x10, tag, demandPayload (l.map fun p => (encNumber p.1, p.2))⟩ s =
        ⟨[0], ({ s with demands := (s.applyDemands l).demands } : State).recompute.handDemandsStale⟩ := by
      rw [handle_putDemand tag s (by omega) (by omega), reqPutDemand, demandPairs_map, ← applyDemands_eq]
      rfl
    obtain ⟨t, arrives, holds, ends⟩ := arrive_ends ready e (by
      rw [seqFrame_link (seqFrame_handDemandsStale _), recompute_link])
    obtain ⟨demands, rest⟩ := ends_staled ends
    refine ⟨t, (exec_putDemand tag (by omega)).trans arrives, holds, fun o unnamed => ?_, fun o v front back split last => ?_, rest⟩
    · rw [demands]
      exact applyDemands_other s l o unnamed
    · rw [demands, split, applyDemands_last s last]
      exact ⟨rfl, rfl, rfl, rfl⟩
  · refine whileRunning_settled (act := (State.lifetimeExpires · o)) running ?_ settled
    unfold State.lifetimeExpires
    dsimp only
    rw [stopped]
  · obtain ⟨t, acts, ends⟩ := whileRunning_ends running (State.lifetimeExpires · o)
    refine ⟨t, acts, ends_staled (s := s) ?_⟩
    unfold State.lifetimeExpires at ends
    dsimp only at ends
    rw [runs] at ends
    exact ends

/-! ## The unit's timers (R114, R116, R119) -/

/-- A recompute that turns no pump sets the pins and nothing else. -/
theorem recompute_of_pumps {s : State} (h : s.effective.pumps = s.outputs.pumps) : s.recompute = s.setOutputs s.effective := by
  have still (k : Fin 6) : handPump s.outputs (s.setOutputs s.effective) k = s.setOutputs s.effective :=
    if_pos (congrArg (Tab.at · k) h)
  unfold State.recompute
  induction allCoils with
  | nil => rfl
  | cons k l ih => rw [List.foldl_cons, still, ih]

/-- A recompute of outputs at their rules leaves the state. -/
theorem recompute_of_driven {s : State} (h : s.outputs = s.effective) : s.recompute = s := by
  rw [recompute_of_pumps (congrArg Outputs.pumps h.symm), ← h]
  rfl

/-- No pump is computed from a unit's stage. -/
theorem unitFrame_pumps {u : Fin 3} {s t : State} (h : unitFrame u s t) : t.effective.pumps = s.effective.pumps := by
  rw [h.1]
  unfold State.effective
  dsimp only
  split
  · rfl
  · rfl
  · rfl

/-- A unit that moves turns no pump. -/
theorem unitFrame_recompute {u : Fin 3} {s t : State} (h : unitFrame u s t) (driven : s.outputs = s.effective) :
    t.recompute = t.setOutputs t.effective := by
  refine recompute_of_pumps ((unitFrame_pumps h).trans ?_)
  rw [h.1, ← driven]

theorem unitFrame_units {u : Fin 3} {s t : State} (h : unitFrame u s t) : t.units = s.units.put u (t.units.at u) := by
  refine Tab.ext_at fun v => ?_
  rw [Tab.at_put]
  split
  · rename_i own
    rw [own]
  · exact h.2 v ‹_›

/-- A unit that has moved and the outputs on its new stage, to the end of the event. -/
theorem ends_unitMoved {s q t : State} {u : Fin 3} (h : Ends q.recompute t) (frame : unitFrame u s q)
    (driven : s.outputs = s.effective) :
    onlyProtection s t ∧ t.coils = s.coils ∧ t.exposures = s.exposures ∧ t.store = s.store ∧
      t.units = s.units.put u (q.units.at u) ∧ t.outputs = t.effective := by
  have seq : seqFrame s q := by
    rw [frame.1]
    rfl
  have outputs := h.driven (recompute_driven _)
  have whole := onlyProtection_of_ends h (seqFrame_trans seq (seqFrame_recompute q))
  rw [unitFrame_recompute frame driven] at h
  have only := h.only
  exact ⟨whole, only.coils.trans (by rw [frame.1]; rfl), only.exposures.trans (by rw [frame.1]; rfl),
    only.store.trans (by rw [frame.1]; rfl), only.units.trans (show q.units = _ from unitFrame_units frame), outputs⟩

/-- The stroke or fan timer of a closing unit expires with its proof missing: SECURE_FAULT, told, and the outputs on it (R114, R116). -/
theorem whileRunning_secureFault {s : State} {u : Fin 3} (running : s.power = .running) (driven : s.outputs = s.effective)
    {act : State → State} (acts : act s = (s.enterSecureFault u).recompute) :
    ∃ t, whileRunning s (fun s => (act s).conclude) = .next t ∧ onlyProtection s t ∧ t.coils = s.coils ∧
      t.exposures = s.exposures ∧ t.store = s.store ∧
      t.units = s.units.put u { s.units.at u with
        stage := .secureFault, stroke := none, fan := none, missingDamper := !s.damperProof u, missingFan := !s.fanProof u } ∧
      t.told (srcSecureFault u) = true ∧ t.outputs = t.effective := by
  obtain ⟨t, next, ends⟩ := whileRunning_ends running act
  rw [acts] at ends
  obtain ⟨whole, coils, exposures, store, units, outputs⟩ := ends_unitMoved ends (unitFrame_enterSecureFault u s) driven
  rw [enterSecureFault_record] at units
  refine ⟨t, next, whole, coils, exposures, store, units, ?_, outputs⟩
  rw [ends.told, recompute_told _ (by simp [srcSecureFault, srcPumpFail])]
  unfold State.enterSecureFault State.handSecureFault
  rw [told_handLevel_self]
  simp [State.secureFaultCondition]

/-- A timer record of a unit written with its stage kept leaves the outputs (R111). -/
theorem recompute_setUnit {s : State} {u : Fin 3} {r : UnitRec} (stage : r.stage = (s.units.at u).stage)
    (driven : s.outputs = s.effective) : (s.setUnit u r).recompute = s.setUnit u r :=
  recompute_of_driven (driven.trans (steady_setUnit (s := s) (u := u) stage).effective.symm)

theorem settled_setUnit {s : State} (u : Fin 3) (r : UnitRec) (h : s.settled) : (s.setUnit u r).settled := h

/-- Settles O56. -/
theorem unitTimersJudgeTheProofs : Obligations.UnitTimersJudgeTheProofs := by
  intro s u running settled driven
  refine ⟨fun idle => ?_, fun idle => ?_, fun idle => ?_, fun n closing runs proof => ?_, fun n closing runs proof => ?_,
    fun n c closing missing => ?_, fun n holding runs => ?_⟩
  · refine whileRunning_settled (act := (State.strokeExpired · u)) running ?_ settled
    unfold State.strokeExpired
    split
    · rename_i closing some
      simp [closing, some] at idle
    · rfl
  · refine whileRunning_settled (act := (State.fanExpired · u)) running ?_ settled
    unfold State.fanExpired
    split
    · rename_i closing some
      simp [closing, some] at idle
    · rfl
  · refine whileRunning_settled (act := (State.holdOffExpired · u)) running ?_ settled
    unfold State.holdOffExpired
    split
    · rename_i holding some
      simp [holding, some] at idle
    · rfl
  · refine whileRunning_settled (act := (State.strokeExpired · u)) running ?_ (settled_setUnit u _ settled)
    simp only [State.strokeExpired, closing, runs, State.strokeExpires, proof, if_true]
    exact recompute_setUnit closing.symm driven
  · refine whileRunning_settled (act := (State.fanExpired · u)) running ?_ (settled_setUnit u _ settled)
    simp only [State.fanExpired, closing, runs, State.fanExpires, proof, if_true]
    exact recompute_setUnit closing.symm driven
  · rcases missing with ⟨rfl, runs, missing⟩ | ⟨rfl, runs, missing⟩
    · refine whileRunning_secureFault (act := (State.strokeExpired · u)) running driven ?_
      simp [State.strokeExpired, closing, runs, State.strokeExpires, missing]
    · refine whileRunning_secureFault (act := (State.fanExpired · u)) running driven ?_
      simp [State.fanExpired, closing, runs, State.fanExpires, missing]
  · obtain ⟨t, next, ends⟩ := whileRunning_ends running (State.holdOffExpired · u)
    have acts : s.holdOffExpired u = (s.leaveRestartHold u).recompute := by simp [State.holdOffExpired, holding, runs]
    have settles : (s.leaveRestartHold u).recompute.settled := by
      rw [unitFrame_recompute (unitFrame_leaveRestartHold u s) driven]
      exact settled
    obtain ⟨whole, coils, exposures, store, units, outputs⟩ := ends_unitMoved (acts ▸ ends) (unitFrame_leaveRestartHold u s) driven
    have record : (s.leaveRestartHold u).units.at u = _ := Tab.at_put_self _ _ _
    rw [record] at units
    refine ⟨t, next, whole, coils, exposures, store, ?_, units, outputs⟩
    have same := whileRunning_settled (act := (State.holdOffExpired · u)) running acts settles
    obtain rfl := Host.Outcome.next.inj (next.symm.trans same)
    rw [unitFrame_recompute (unitFrame_leaveRestartHold u s) driven]
    rfl

end Sys2Proof.Machine
end

section
/-! PROOF. Closed frames of a face, the beginning of a start and the store's phases (O34, O40, O51). -/

namespace Sys2Proof.Machine

open Sys2Proof

/-! ## The face record of a closed frame (R56 to R63) -/

theorem validTemps_length (entries : List SnapEntry) : (validTemps entries).length = (validPoints entries).length := by
  rw [validTemps, validPoints, List.length_map, List.length_filterMap_eq_countP, List.countP_filter, ← List.countP_eq_length_filter]
  exact List.countP_congr fun e _ => by simp [and_comm]

theorem excludedPoints_points (entries : List SnapEntry) :
    (excludedPoints entries).map (·.1) = (entries.filter fun e => !e.included && e.result.isSome).map (·.point) := by
  unfold excludedPoints
  induction entries with
  | nil => rfl
  | cons e l ih =>
    cases included : e.included
    · cases result : e.result <;> simp [included, result, ih]
    · simp [included, ih]

theorem mem_excludedPoints {entries : List SnapEntry} {p : Fin 48} {r : PointResult} :
    (p, r) ∈ excludedPoints entries ↔ ∃ e ∈ entries, e.included = false ∧ e.point = p ∧ e.result = some r := by
  simp only [excludedPoints, List.mem_filterMap, List.mem_filter, Bool.not_eq_eq_eq_not, Bool.not_true, Option.map_eq_some_iff,
    Prod.mk.injEq]
  exact ⟨fun ⟨e, ⟨member, out⟩, r, result, point, same⟩ => ⟨e, member, out, point, same ▸ result⟩,
    fun ⟨e, member, out, point, result⟩ => ⟨e, ⟨member, out⟩, r, result, point, rfl⟩⟩

/-- Where the frame is ACCEPTED the record is of this frame (R57 to R62). -/
theorem closeFace_accepted {s : State} {k : Fin 6} {entries : List SnapEntry}
    (quorum : (s.cfg k).quorum ≤ (validTemps entries).length) :
    (s.closeFace k entries).status = .accepted ∧ (s.closeFace k entries).state = .sighted ∧ (s.closeFace k entries).starved = 0 ∧
      (s.closeFace k entries).held = some (coldSpot (validTemps entries)) ∧
      (s.closeFace k entries).mean = some (meanOf (validTemps entries)) ∧
      (s.closeFace k entries).spread = some (hotSpot (validTemps entries) - coldSpot (validTemps entries)) ∧
      (s.closeFace k entries).cEff = some (coldSpot (validTemps entries)) := by
  simp [State.closeFace, quorum, nextFace, State.cEffOf]

/-- Where the frame is STARVED the statistics stand and the starved count goes up (R57, R60). -/
theorem closeFace_starved {s : State} {k : Fin 6} {entries : List SnapEntry}
    (short : ¬ (s.cfg k).quorum ≤ (validTemps entries).length) :
    (s.closeFace k entries).status = .starved ∧ (s.closeFace k entries).held = (s.faces.at k).held ∧
      (s.closeFace k entries).starved = satAdd Config.maxCount8 (s.faces.at k).starved ∧
      (s.closeFace k entries).state =
        nextFace (s.faces.at k).state false (s.closeFace k entries).starved (s.cfg k).staleLimit ∧
      (s.closeFace k entries).raggedMask = (s.faces.at k).raggedMask ∧
      (s.closeFace k entries).raggedSecond = (s.faces.at k).raggedSecond := by
  simp [State.closeFace, short]

theorem closeFace_cEff (s : State) (k : Fin 6) (entries : List SnapEntry) : (s.closeFace k entries).cEff =
    some (s.cEffOf k (s.closeFace k entries).state (coldSpot (validTemps entries)) (s.closeFace k entries).held) := rfl

theorem closeFace_status (s : State) (k : Fin 6) (entries : List SnapEntry) :
    (s.closeFace k entries).status = .accepted ∧ (s.cfg k).quorum ≤ (validTemps entries).length ∨
      (s.closeFace k entries).status = .starved ∧ ¬ (s.cfg k).quorum ≤ (validTemps entries).length := by
  by_cases quorum : (s.cfg k).quorum ≤ (validTemps entries).length
  · exact .inl ⟨(closeFace_accepted quorum).1, quorum⟩
  · exact .inr ⟨(closeFace_starved quorum).1, quorum⟩

/-- A face that is not seen takes the LAT reading less its offset, or the blind floor (R63). -/
theorem blindFallback_cases (s : State) (k : Fin 6) :
    (∀ c, (s.cfg k).lat = some c → (s.channels.at c).status = .ok →
      s.blindFallback k = (s.channels.at c).temperature - ((s.cfg k).blindOffset : Int)) ∧
    ((s.cfg k).lat = none → s.blindFallback k = (s.cfg k).blindFloor) ∧
    (∀ c, (s.cfg k).lat = some c → (s.channels.at c).status ≠ .ok → s.blindFallback k = (s.cfg k).blindFloor) := by
  unfold State.blindFallback State.validTemp
  exact ⟨fun c lat ok => by simp [lat, ok], fun lat => by simp [lat], fun c lat bad => by simp [lat, bad]⟩

/-- A ragged frame's mask and second (R59); any other frame leaves them. -/
theorem closeFace_ragged (s : State) (k : Fin 6) (entries : List SnapEntry) :
    ((s.closeFace k entries).status = .accepted → missingPoints entries ≠ [] →
      (s.closeFace k entries).raggedMask = some (missingPoints entries) ∧
      (s.closeFace k entries).raggedSecond = some s.plantSeconds) ∧
    ((s.closeFace k entries).status = .starved ∨ missingPoints entries = [] →
      (s.closeFace k entries).raggedMask = (s.faces.at k).raggedMask ∧
      (s.closeFace k entries).raggedSecond = (s.faces.at k).raggedSecond) := by
  refine ⟨fun accepted missing => ?_, fun whole => ?_⟩
  · rcases closeFace_status s k entries with ⟨-, quorum⟩ | ⟨starved, -⟩
    · simp [State.closeFace, quorum, missing]
    · rw [starved] at accepted
      cases accepted
  · rcases closeFace_status s k entries with ⟨accepted, quorum⟩ | ⟨-, short⟩
    · rcases whole with starved | whole
      · rw [accepted] at starved
        cases starved
      · simp [State.closeFace, whole]
    · exact (closeFace_starved short).2.2.2.2

/-- Settles O51. -/
theorem faceStateAndEffectiveColdSpotFollowTheFrame : Obligations.FaceStateAndEffectiveColdSpotFollowTheFrame := by
  intro s k entries f hf
  obtain ⟨ragged, whole⟩ := closeFace_ragged s k entries
  have status := closeFace_status s k entries
  have cEff := closeFace_cEff s k entries
  rw [← hf] at ragged whole status cEff
  have valid : f.validSet = validPoints entries := by rw [hf]; rfl
  have missing : f.missingSet = missingPoints entries := by rw [hf]; rfl
  have excluded : f.excludedSet = excludedPoints entries := by rw [hf]; rfl
  have either : f.status = .accepted ∨ f.status = .starved := status.imp And.left And.left
  rw [valid, missing, excluded, ← validTemps_length]
  refine ⟨either, ?_, ?_, ?_, excludedPoints_points entries, fun p r => mem_excludedPoints, by rw [hf]; rfl, fun accepted => ?_,
    whole, fun starved => ?_⟩
  · rcases status with ⟨accepted, quorum⟩ | ⟨starved, short⟩
    · simp [accepted, quorum]
    · simp [starved, short]
  · unfold validPoints
    refine congrArg (List.map SnapEntry.point) (List.filter_congr fun e _ => ?_)
    obtain ⟨_, _, _, _, _ | r⟩ := e
    · rfl
    · cases r <;> rfl
  · unfold missingPoints
    refine congrArg (List.map SnapEntry.point) (List.filter_congr fun e _ => ?_)
    obtain ⟨_, _, _, _, _ | r⟩ := e
    · rfl
    · cases r <;> rfl
  · have quorum : (s.cfg k).quorum ≤ (validTemps entries).length := by
      rcases status with ⟨-, quorum⟩ | ⟨starved, -⟩
      · exact quorum
      · rw [accepted] at starved
        cases starved
    obtain ⟨-, state, count, held, -, -, value⟩ := closeFace_accepted quorum
    rw [← hf] at state count held value
    exact ⟨state, count, value.trans held.symm, ragged accepted⟩
  · have short : ¬ (s.cfg k).quorum ≤ (validTemps entries).length := by
      rcases status with ⟨accepted, -⟩ | ⟨-, short⟩
      · rw [accepted] at starved
        cases starved
      · exact short
    obtain ⟨-, held, count, state, -, -⟩ := closeFace_starved short
    rw [← hf] at held count state
    refine ⟨held, count, fun blind => by rw [state, blind]; rfl, fun seen => ?_, fun h holding some => ?_, fun blind => ?_⟩
    · rw [state]
      cases e : (s.faces.at k).state with
      | blind => exact absurd e seen
      | sighted => rfl
      | holding => rfl
    · rw [cEff, holding, some]
      rfl
    · have value : f.cEff = some (s.blindFallback k) := by rw [cEff, blind]; rfl
      obtain ⟨lat, floor, bad⟩ := blindFallback_cases s k
      rw [value]
      exact ⟨fun c hc ok => congrArg some (lat c hc ok), fun none => congrArg some (floor none),
        fun c hc wrong => congrArg some (bad c hc wrong)⟩

/-! ## The beginning of a start and the loss of power (R16, R17, R22) -/

theorem abandonJob_regions (s : State) : s.regionsLeft s.abandonJob := by
  unfold State.regionsLeft State.abandonJob
  cases e : s.store.job with
  | none => simp [State.setStore]
  | some j =>
    obtain ⟨kind, phase⟩ := j
    cases phase with
    | areaProgram flags => simp [State.setStore]
    | _ =>
      simp [State.setStore]
      rintro _ _ rfl wrong
      cases wrong

/-- With no job in flight both regions stand. -/
theorem abandonJob_idle {s : State} (idle : s.store.job = none) : s.abandonJob.image = s.image ∧ s.abandonJob.area = s.area := by
  unfold State.abandonJob
  rw [idle]
  exact ⟨rfl, rfl⟩

theorem beginStart_eq (s : State) (cold : Bool) : s.beginStart cold = { s with
    power := .starting cold, image := s.abandonJob.image, area := s.abandonJob.area, store := Store.idle,
    outputs := Outputs.posture, sampler := { passList := [], position := 0 }, masters := (s.beginStart cold).masters,
    units := (s.beginStart cold).units, alerts := Alerts.start, alertLine := false, link := Link.start } := by
  unfold State.beginStart
  rw [abandonJob_eq]

theorem begun_beginStart (s : State) (cold : Bool) : s.begun (s.beginStart cold) :=
  ⟨abandonJob_regions s, beginStart_eq s cold, fun _ => Tab.at_each _ _ _, fun _ => Tab.at_each _ _ _⟩

/-- An accepted RESTART's response has left, and no store job stands (R17). -/
theorem warmStartDue_iff (s : State) : s.warmStartDue = true ↔ s.link.restartAccepted = true ∧
    (∀ f, .response f ∈ s.link.txQueue → ¬ (f.kind = 0xC1 ∧ f.payload = [0])) ∧ s.storeBusy = false := by
  simp only [State.warmStartDue, State.restartSent, Bool.and_eq_true, Bool.not_eq_true', List.any_eq_false, and_assoc]
  refine and_congr Iff.rfl (and_congr ⟨fun none f queued => ?_, fun none i queued => ?_⟩ Iff.rfl)
  · simpa [Result.code] using none _ queued
  · cases i with
    | response f => simpa [Result.code] using none f queued
    | notice x c late => simp

/-- Settles O34. -/
theorem startsAndPowerLossAbandonWorkInFlight : Obligations.StartsAndPowerLossAbandonWorkInFlight := by
  intro s
  refine ⟨⟨_, rfl, rfl, begun_beginStart s true⟩, fun due hdue => ⟨fun now => ?_, fun never => ?_⟩, _, rfl, ?_, ?_⟩
  · obtain ⟨running, begins⟩ := hdue.mp now
    have idle : s.store.job = none := by
      have := begins.2.2
      simp only [State.storeBusy, Bool.or_eq_false_iff, Option.isSome_eq_false_iff, Option.isNone_iff_eq_none] at this
      exact this.1.1
    refine ⟨s.beginStart false, ?_, rfl, begun_beginStart s false, abandonJob_idle idle⟩
    change whileRunning s _ = _
    rw [whileRunning_running running, if_pos ((warmStartDue_iff s).mpr begins)]
  · change whileRunning s _ = _
    by_cases running : s.power = .running
    · rw [whileRunning_running running, if_neg fun begins => never (hdue.mpr ⟨running, (warmStartDue_iff s).mp begins⟩)]
    · exact whileRunning_stopped running _
  · exact abandonJob_regions s
  · rw [abandonJob_eq]

end Sys2Proof.Machine
end

section
/-! PROOF. The store's phases (O40). -/

namespace Sys2Proof.Machine

open Sys2Proof

/-! ## The end of a job (R19, R21) -/

theorem nextJob_eq (s : State) : s.nextJob = s.setStore s.storeAfter := by
  unfold State.storeAfter
  rcases nextJob_cases s with ⟨waits, e⟩ | ⟨t, none, waits, e⟩ | ⟨none, idle, e⟩
  · rw [e, if_pos waits]
    rfl
  · rw [e, if_neg (by simp [none]), waits]
    simp [none]
  · rw [e, if_neg (by simp [none]), idle]
    simp [none, idle]

theorem imageFails_eq (s : State) :
    s.imageFails = ((s.spoilImage.setImageInvalid true).raiseEdge srcStoreFail).setStore s.storeAfter := by
  unfold State.imageFails
  rw [nextJob_eq]
  rfl

theorem areaFails_eq (s : State) :
    s.areaFails = (({ s with areaDirty := true } : State).raiseEdge srcStoreFail).setStore s.storeAfter := by
  unfold State.areaFails
  rw [nextJob_eq]
  rfl

theorem imagePasses_clean {s : State} (clean : s.areaDirty = false) (j : Job) :
    s.imagePasses j = ((s.setImageInvalid false).raiseEdge srcStoreDone).setStore s.storeAfter := by
  unfold State.imagePasses
  simp only [nextJob_eq]
  exact if_neg (Bool.eq_false_iff.mp clean)

theorem imagePasses_dirty {s : State} (dirty : s.areaDirty = true) (j : Job) :
    s.imagePasses j = ((s.setImageInvalid false).raiseEdge srcStoreDone).startPhase j (.areaProgram s.lockoutFlags) :=
  if_pos dirty

/-! ## Edges and the image flag at the resolver -/

/-- An edge puts a source of no collection into the pending set (R142). -/
theorem raiseEdge_pending {s : State} {x : Fin 65} (none : (s.alerts.sources.at x).membership = .none) :
    ((s.raiseEdge x).alerts.sources.at x).membership = .pending := by
  change ((s.alerts.raiseEdge x).sources.at x).membership = _
  rcases s.alerts.raiseEdge_cases x with ⟨-, e⟩ | ⟨some, -⟩
  · rw [e, Alerts.move_at, if_pos rfl]
  · exact absurd none some

theorem setImageInvalid_other (s : State) {x : Fin 65} (h : x ≠ srcImageInvalid) (v : Bool) :
    (s.setImageInvalid v).alerts.sources.at x = s.alerts.sources.at x := Alerts.handLevel_other _ h v

theorem told_setImageInvalid (s : State) (v : Bool) : (s.setImageInvalid v).told srcImageInvalid = v := told_handLevel_self _ _ _

/-! ## A store event, to its end -/

/-- A store event on a running part: what its operation leaves of the store and the regions, and the rest as it stood. -/
theorem whileRunning_store {s q : State} (running : s.power = .running) {act : State → State} (acts : act s = q)
    (frame : storeFrame s q) :
    ∃ t, whileRunning s (fun s => (act s).conclude) = .next t ∧ onlyStore s t ∧ t.store = q.store ∧ t.image = q.image ∧
      t.area = q.area ∧ t.imageInvalid = q.imageInvalid ∧ t.areaDirty = q.areaDirty ∧ Ends q t := by
  obtain ⟨t, next, ends⟩ := whileRunning_ends running act
  rw [acts] at ends
  have store := ends.only.store
  have image : t.image = q.image := ends.only.reads State.image fun _ _ _ => rfl
  have area : t.area = q.area := ends.only.reads State.area fun _ _ _ => rfl
  have invalid : t.imageInvalid = q.imageInvalid := ends.only.reads State.imageInvalid fun _ _ _ => rfl
  have dirty : t.areaDirty = q.areaDirty := ends.only.reads State.areaDirty fun _ _ _ => rfl
  refine ⟨t, next, ?_, store, image, area, invalid, dirty, ends⟩
  have only : t = _ := ends.only
  unfold onlyStore onlyAlerts
  rw [store, image, area, invalid, dirty]
  rw [show q = _ from frame] at only
  exact only

/-- A failed image phase (R21). -/
theorem whileRunning_imageFails {s : State} (running : s.power = .running) {act : State → State} (acts : act s = s.imageFails) :
    ∃ t, whileRunning s (fun s => (act s).conclude) = .next t ∧ onlyStore s t ∧ t.image.crcMatches = false ∧ t.area = s.area ∧
      t.imageInvalid = true ∧ t.told srcImageInvalid = true ∧ t.areaDirty = s.areaDirty ∧ raised s t srcStoreFail ∧
      t.store = s.storeAfter := by
  obtain ⟨t, next, only, store, image, area, invalid, dirty, ends⟩ :=
    whileRunning_store running acts (storeFrame_imageFails s)
  rw [imageFails_eq] at store image area invalid dirty ends
  have spoiled : t.image = s.image.spoiled := image
  refine ⟨t, next, only, by rw [spoiled, Image.spoiled_crcMatches], area, invalid, ?_, dirty, ends.raised fun none => ?_, store⟩
  · rw [ends.told]
    exact (told_raiseEdge (s.spoilImage.setImageInvalid true) srcStoreFail srcImageInvalid).trans (told_setImageInvalid _ _)
  · refine raiseEdge_pending (s := s.spoilImage.setImageInvalid true) ?_
    rw [setImageInvalid_other _ (by decide)]
    exact none

/-- A failed write of the area, from a state whose area alone has changed (R21). -/
theorem whileRunning_areaFails {s q : State} (running : s.power = .running) {act : State → State} {a : Area}
    (acts : act s = q.areaFails) (area : q = { s with area := a }) :
    ∃ t, whileRunning s (fun s => (act s).conclude) = .next t ∧ onlyStore s t ∧ t.store = s.storeAfter ∧ t.image = s.image ∧
      t.imageInvalid = s.imageInvalid ∧ t.areaDirty = true ∧ raised s t srcStoreFail ∧ t.area = a := by
  subst area
  obtain ⟨t, next, only, store, image, written, invalid, dirty, ends⟩ :=
    whileRunning_store running acts (storeFrame_trans (t := { s with area := a }) rfl (storeFrame_areaFails _))
  rw [areaFails_eq] at store image written invalid dirty ends
  exact ⟨t, next, only, store, image, invalid, dirty,
    ends.raised fun none => raiseEdge_pending (s := { s with area := a, areaDirty := true }) none, written⟩

/-- A passed image VERIFY leaves the flag cleared and STORE_DONE raised (R20, R21). -/
theorem ends_imagePasses {s t : State} {j : Job} (h : Ends (s.imagePasses j) t) :
    t.told srcImageInvalid = false ∧ raised s t srcStoreDone ∧ (s.imagePasses j).image = s.image ∧ (s.imagePasses j).area = s.area ∧
      (s.imagePasses j).imageInvalid = false ∧ (s.imagePasses j).areaDirty = s.areaDirty := by
  have alerts : (s.imagePasses j).alerts = ((s.setImageInvalid false).raiseEdge srcStoreDone).alerts ∧
      (s.imagePasses j).image = s.image ∧ (s.imagePasses j).area = s.area ∧ (s.imagePasses j).imageInvalid = false ∧
      (s.imagePasses j).areaDirty = s.areaDirty := by
    cases dirty : s.areaDirty
    · rw [imagePasses_clean dirty]
      exact ⟨rfl, rfl, rfl, rfl, dirty⟩
    · rw [imagePasses_dirty dirty]
      exact ⟨rfl, rfl, rfl, rfl, dirty⟩
  obtain ⟨alerts, rest⟩ := alerts
  refine ⟨?_, h.raised fun none => ?_, rest⟩
  · rw [h.told]
    unfold State.told
    rw [alerts]
    exact (told_raiseEdge (s.setImageInvalid false) srcStoreDone srcImageInvalid).trans (told_setImageInvalid _ _)
  · rw [alerts]
    refine raiseEdge_pending (s := s.setImageInvalid false) ?_
    rw [setImageInvalid_other _ (by decide)]
    exact none

/-! ## The phases by their table (R20, R21) -/

section
variable {s : State} {j : Job} (job : s.store.job = some j)
include job

theorem phaseCompletes_imageErase (phase : j.phase = .imageErase) (same : Bool) :
    s.phaseCompletes same = s.spoilImage.startPhase j .imageProgram := by
  simp [State.phaseCompletes, job, phase]

theorem phaseCompletes_imageProgram (phase : j.phase = .imageProgram) {tables : Tables} (kind : j.kind = .save tables) (same : Bool) :
    s.phaseCompletes same = ({ s with image := Image.written tables } : State).startPhase j .imageVerify := by
  simp [State.phaseCompletes, job, phase, kind]

theorem phaseCompletes_imageVerify (phase : j.phase = .imageVerify) (same : Bool) :
    s.phaseCompletes same = if same then s.imagePasses j else s.imageFails := by
  simp [State.phaseCompletes, job, phase]

theorem phaseCompletes_areaProgram {flags : Tab Bool 6} (phase : j.phase = .areaProgram flags) (same : Bool) :
    s.phaseCompletes same = ({ s with area := Area.written flags } : State).startPhase j (.areaVerify flags) := by
  simp [State.phaseCompletes, job, phase]

theorem phaseCompletes_areaVerify {flags : Tab Bool 6} (phase : j.phase = .areaVerify flags) (same : Bool) :
    s.phaseCompletes same = if same then ({ s with areaDirty := false } : State).nextJob else s.spoilArea.areaFails := by
  simp [State.phaseCompletes, job, phase]

theorem phaseExpires_image (phase : j.phase = .imageErase ∨ j.phase = .imageProgram ∨ j.phase = .imageVerify) :
    s.phaseExpires = s.imageFails := by
  rcases phase with phase | phase | phase <;> simp [State.phaseExpires, job, phase]

theorem phaseExpires_areaProgram {flags : Tab Bool 6} (phase : j.phase = .areaProgram flags) :
    s.phaseExpires = s.spoilArea.areaFails := by
  simp [State.phaseExpires, job, phase]

theorem phaseExpires_areaVerify {flags : Tab Bool 6} (phase : j.phase = .areaVerify flags) : s.phaseExpires = s.areaFails := by
  simp [State.phaseExpires, job, phase]

end

/-- Settles O40. -/
theorem storePhasesFollowTheirTable : Obligations.StorePhasesFollowTheirTable := by
  intro s running
  refine ⟨whileRunning_running running fun s => s, fun settled idle => ⟨fun same => ?_, ?_⟩, fun j job => ⟨fun same phase => ?_,
    fun same tables phase kind => ?_, fun phase => ?_, fun c fails => ?_, fun same flags phase => ?_, fun flags phase => ?_,
    fun c flags fails => ?_⟩⟩
  · refine whileRunning_settled (act := (State.phaseCompletes · same)) running ?_ settled
    unfold State.phaseCompletes
    rw [idle]
  · refine whileRunning_settled (act := State.phaseExpires) running ?_ settled
    unfold State.phaseExpires
    rw [idle]
  · obtain ⟨t, next, only, store, image, area, invalid, dirty, -⟩ := whileRunning_store (act := (State.phaseCompletes · same)) running
      (phaseCompletes_imageErase job phase same) rfl
    refine ⟨t, next, only, store, ?_, area, invalid, dirty⟩
    rw [image]
    exact s.image.spoiled_crcMatches
  · obtain ⟨t, next, only, store, image, area, invalid, dirty, -⟩ := whileRunning_store (act := (State.phaseCompletes · same)) running
      (phaseCompletes_imageProgram job phase kind same) rfl
    exact ⟨t, next, only, store, image, area, invalid, dirty⟩
  · obtain ⟨t, next, only, store, image, area, invalid, dirty, ends⟩ := whileRunning_store (act := (State.phaseCompletes · true)) running
      (phaseCompletes_imageVerify job phase true) (storeFrame_imagePasses s j)
    obtain ⟨told, edge, image', area', invalid', dirty'⟩ := ends_imagePasses ends
    refine ⟨t, next, only, image.trans image', area.trans area', invalid.trans invalid', told, dirty.trans dirty', edge,
      fun clean => store.trans ?_, fun dirty => store.trans ?_⟩
    · change (s.imagePasses j).store = _
      rw [imagePasses_clean clean]
      rfl
    · change (s.imagePasses j).store = _
      rw [imagePasses_dirty dirty]
      rfl
  · rcases fails with ⟨phase, rfl⟩ | ⟨rfl, phase⟩
    · exact whileRunning_imageFails (act := (State.phaseCompletes · false)) running (phaseCompletes_imageVerify job phase false)
    · exact whileRunning_imageFails (act := State.phaseExpires) running (phaseExpires_image job phase)
  · obtain ⟨t, next, only, store, image, area, invalid, dirty, -⟩ := whileRunning_store (act := (State.phaseCompletes · same)) running
      (phaseCompletes_areaProgram job phase same) rfl
    exact ⟨t, next, only, store, image, area, invalid, dirty⟩
  · have acts := phaseCompletes_areaVerify job phase true
    rw [if_pos rfl, nextJob_eq] at acts
    obtain ⟨t, next, only, store, image, area, invalid, dirty, -⟩ := whileRunning_store (act := (State.phaseCompletes · true)) running
      acts rfl
    exact ⟨t, next, only, store, image, area, invalid, dirty⟩
  · rcases fails with ⟨phase, rfl | rfl⟩ | ⟨phase, rfl⟩
    · obtain ⟨t, next, only, store, image, invalid, dirty, edge, area⟩ := whileRunning_areaFails
        (act := (State.phaseCompletes · false)) running (phaseCompletes_areaVerify job phase false) rfl
      refine ⟨t, next, only, store, image, invalid, dirty, edge, fun _ wrong => ?_, fun _ => by rw [area, Area.spoiled_crcMatches]⟩
      cases wrong
    · obtain ⟨t, next, only, store, image, invalid, dirty, edge, area⟩ := whileRunning_areaFails (a := s.area)
        (act := State.phaseExpires) running (phaseExpires_areaVerify job phase) rfl
      refine ⟨t, next, only, store, image, invalid, dirty, edge, fun _ _ => area, fun wrong => ?_⟩
      rcases wrong with wrong | wrong
      · rw [phase] at wrong
        cases wrong
      · cases wrong
    · obtain ⟨t, next, only, store, image, invalid, dirty, edge, area⟩ := whileRunning_areaFails
        (act := State.phaseExpires) running (phaseExpires_areaProgram job phase) rfl
      refine ⟨t, next, only, store, image, invalid, dirty, edge, fun wrong => ?_, fun _ => by rw [area, Area.spoiled_crcMatches]⟩
      rw [phase] at wrong
      cases wrong

end Sys2Proof.Machine
end

section
/-! PROOF. The opening of a frame (O46). -/

namespace Sys2Proof.Machine

open Sys2Proof

/-! ## Snapshots and coil sets (R46) -/

theorem takeSnapshot_points (s : State) (g : Fin 3) : (s.takeSnapshot g).map (·.point) =
    (List.finRange 48).filter fun p => (s.tables.points.at p).enabled && (s.tables.points.at p).segment == g := by
  unfold State.takeSnapshot
  induction List.finRange 48 with
  | nil => rfl
  | cons p l ih =>
    by_cases on : (s.tables.points.at p).enabled = true ∧ (s.tables.points.at p).segment = g
    · simp [on, ih]
    · rw [List.filterMap_cons_none (by exact if_neg on), ih, List.filter_cons_of_neg]
      simpa using on

theorem mem_takeSnapshot {s : State} {g : Fin 3} {e : SnapEntry} : e ∈ s.takeSnapshot g ↔
    ((s.tables.points.at e.point).enabled = true ∧ (s.tables.points.at e.point).segment = g) ∧
      e.address = (s.tables.points.at e.point).address ∧ e.coil = (s.tables.points.at e.point).coil ∧
      e.included = (s.tables.points.at e.point).included ∧ e.result = none := by
  unfold State.takeSnapshot
  rw [List.mem_filterMap]
  constructor
  · rintro ⟨p, -, found⟩
    dsimp only at found
    split at found
    · obtain rfl := Option.some.inj found
      exact ⟨‹_›, rfl, rfl, rfl, rfl⟩
    · cases found
  · rintro ⟨on, address, coil, included, result⟩
    refine ⟨e.point, List.mem_finRange _, (if_pos on).trans ?_⟩
    rw [← address, ← coil, ← included, ← result]

theorem mem_coilSetOf {s : State} {g : Fin 3} {k : Fin 6} : k ∈ s.coilSetOf g (s.takeSnapshot g) ↔
    (s.cfg k).present = true ∧ (s.cfg k).unit = g ∧ ∃ p, (s.tables.points.at p).enabled = true ∧
      (s.tables.points.at p).segment = g ∧ (s.tables.points.at p).coil = some k := by
  simp only [State.coilSetOf, List.mem_filter, State.coilOf, Bool.and_eq_true, decide_eq_true_eq, List.any_eq_true, beq_iff_eq]
  refine ⟨fun ⟨_, ⟨present, unit⟩, e, member, coil⟩ => ?_, fun ⟨present, unit, p, enabled, segment, coil⟩ => ?_⟩
  · obtain ⟨⟨enabled, segment⟩, -, same, -⟩ := mem_takeSnapshot.mp member
    exact ⟨present, unit, e.point, enabled, segment, same ▸ coil⟩
  · exact ⟨mem_allCoils k, ⟨present, unit⟩, ⟨p, (s.tables.points.at p).address, (s.tables.points.at p).coil,
      (s.tables.points.at p).included, none⟩,
      mem_takeSnapshot.mpr ⟨⟨enabled, segment⟩, rfl, rfl, rfl, rfl⟩, coil⟩

theorem coilSetOf_sorted (s : State) (g : Fin 3) (l : List SnapEntry) : (s.coilSetOf g l).Pairwise (· < ·) :=
  List.Pairwise.filter _ (by decide)

/-! ## The master that a frame's opening leaves (R45, R46) -/

theorem setMaster_setMaster (s : State) (g : Fin 3) (a b : Master) : (s.setMaster g a).setMaster g b = s.setMaster g b := by
  unfold State.setMaster
  congr 1
  refine Tab.ext_at fun h => ?_
  simp only [Tab.at_put]
  split <;> rfl

/-- The master of segment `g` once its next frame has opened. -/
def State.opened (s : State) (g : Fin 3) : Master :=
  { s.masters.at g with
    state := if (s.masters.at g).state = .faulted then .recovering else if s.takeSnapshot g = [] then .idle else .reading,
    frameTimer := some (s.tables.intervals.at g), intervalAtOpen := s.tables.intervals.at g, snapshot := s.takeSnapshot g,
    coilSet := s.coilSetOf g (s.takeSnapshot g), openPending := false,
    framesOpened := satAdd Config.maxCount16 (s.masters.at g).framesOpened }

theorem openFrame_eq (s : State) (g : Fin 3) : s.openFrame g = s.setMaster g (s.opened g) := by
  unfold State.openFrame State.opened
  dsimp only
  congr 2
  cases (s.masters.at g).state <;> simp

/-- A master that reads sends the address byte of the entry in flight (R175). -/
theorem addressSent_of_position {m : Master} {e : SnapEntry} (position : m.position = some e) (small : e.address < 128) :
    ∃ b, m.addressSent = some b ∧ b.toNat = 2 * e.address + 1 :=
  ⟨addressByte e.address, by rw [Master.addressSent, position]; rfl, addressByte_toNat small⟩

theorem position_first {m : Master} {e : SnapEntry} {rest : List SnapEntry} (reading : m.state = .reading)
    (snapshot : m.snapshot = e :: rest) (untried : e.result = none) : m.position = some e := by
  unfold Master.position
  rw [reading, snapshot]
  exact List.find?_cons_of_pos (by rw [SnapEntry.untried, untried]; rfl)

/-- Settles O46. -/
theorem frameTimerOpensTheNextFrame : Obligations.FrameTimerOpensTheNextFrame := by
  intro s g running settled
  refine ⟨fun stopped => ?_, fun n runs busy => ?_, fun n runs free => ?_⟩
  · refine whileRunning_settled (act := (State.frameTimerExpires · g)) running ?_ settled
    unfold State.frameTimerExpires
    dsimp only
    rw [stopped]
  · refine whileRunning_settled (act := (State.frameTimerExpires · g)) running ?_ (settled_setMaster g _ settled)
    rcases busy with busy | busy <;> simp only [State.frameTimerExpires, runs, busy] <;> exact setMaster_setMaster _ _ _ _
  · have acts : s.frameTimerExpires g =
        s.setMaster g ((s.setMaster g { s.masters.at g with frameTimer := none }).opened g) := by
      have opens : s.frameTimerExpires g = (s.setMaster g { s.masters.at g with frameTimer := none }).openFrame g := by
        rcases free with free | free <;> simp only [State.frameTimerExpires, runs, free]
      rw [opens, openFrame_eq, setMaster_setMaster]
    refine ⟨_, whileRunning_settled (act := (State.frameTimerExpires · g)) running acts (settled_setMaster g _ settled), ?_⟩
    have master : (s.setMaster g { s.masters.at g with frameTimer := none }).masters.at g =
        { s.masters.at g with frameTimer := none } := Tab.at_put_self _ _ _
    unfold State.opened
    rw [master]
    refine ⟨rfl, rfl, rfl, rfl, rfl, rfl, takeSnapshot_points s g, fun e member => (mem_takeSnapshot.mp member).2,
      coilSetOf_sorted _ _ _, fun k => mem_coilSetOf, fun faulted => if_pos faulted, fun idle => ?_, fun e rest snapshot reading small => ?_⟩
    · rw [idle]
      rfl
    · have first : e ∈ s.takeSnapshot g := by
        change s.takeSnapshot g = e :: rest at snapshot
        rw [snapshot]
        exact List.mem_cons_self
      obtain ⟨-, -, -, -, untried⟩ := mem_takeSnapshot.mp first
      exact addressSent_of_position (position_first reading snapshot untried) small

end Sys2Proof.Machine
end

section
/-! PROOF. Conversions, passes and crossing detectors (O45). -/

namespace Sys2Proof.Machine

open Sys2Proof

/-! ## The channel's record (R25 to R28) -/

theorem convert_wire {code : Nat} (wire : code < 20 ∨ 4075 < code) (r : ChannelRec) (c : ChannelCfg) :
    r.convert c code = { r with code := code, status := .wire, conversions := satAdd Config.maxCount16 r.conversions } := by
  unfold ChannelRec.convert
  exact if_pos (decide_eq_true wire)

theorem convert_temp {code : Nat} (sound : ¬ (code < 20 ∨ 4075 < code)) (r : ChannelRec) (c : ChannelCfg) :
    r.convert c code = {
      code := code, temperature := codeTemp code c.trim,
      status := if codeTemp code c.trim < c.low ∨ c.high < codeTemp code c.trim then .implausible else .ok,
      conversions := satAdd Config.maxCount16 r.conversions } := by
  unfold ChannelRec.convert
  exact if_neg (by simpa [wiringFault] using sound)

theorem convert_code (r : ChannelRec) (c : ChannelCfg) (code : Nat) :
    (r.convert c code).code = code ∧ (r.convert c code).conversions = satAdd Config.maxCount16 r.conversions := by
  by_cases wire : code < 20 ∨ 4075 < code
  · rw [convert_wire wire]
    exact ⟨rfl, rfl⟩
  · rw [convert_temp wire]
    exact ⟨rfl, rfl⟩

/-- A conversion is OK exactly where its code is no wiring fault and its temperature lies within the channel's bounds. -/
theorem convert_ok_iff (r : ChannelRec) (c : ChannelCfg) (code : Nat) : (r.convert c code).status = .ok ↔
    ¬ (code < 20 ∨ 4075 < code) ∧ c.low ≤ (r.convert c code).temperature ∧ (r.convert c code).temperature ≤ c.high := by
  by_cases wire : code < 20 ∨ 4075 < code
  · rw [convert_wire wire]
    simp [wire]
  · rw [convert_temp wire]
    simp [wire]

/-! ## The crossing detectors (R32) -/

/-- A detector after an OK completion at temperature `t` under the threshold `lambda`. -/
def Detector.after (d : Detector) (lambda t : Int) : Detector :=
  match d with
  | .ready => if t < lambda then .latched else .ready
  | .latched => if lambda + 8 ≤ t then .ready else .latched

/-- One detector's step: its own state, and the edge of a crossing. -/
theorem stepDetector_cases (t : Int) (s : State) (k : Fin 6) :
    (State.stepDetector t s k).detectors = s.detectors.put k ((s.detectors.at k).after (s.cfg k).lambda t) ∧
    (State.stepDetector t s k).alerts =
      if s.detectors.at k = .ready ∧ t < (s.cfg k).lambda then s.alerts.raiseEdge (srcWaterCold k) else s.alerts := by
  have kept : s.detectors = s.detectors.put k (s.detectors.at k) := Tab.ext_at fun j => by
    rw [Tab.at_put]
    split
    · rename_i own
      rw [own]
    · rfl
  unfold State.stepDetector
  dsimp only
  cases e : s.detectors.at k with
  | ready =>
    by_cases cold : t < (s.cfg k).lambda
    · simp [cold, Detector.after, State.raiseEdge, State.setDetector]
    · simp only [cold, if_false, Detector.after, and_false]
      exact ⟨e ▸ kept, trivial⟩
  | latched =>
    by_cases warm : (s.cfg k).lambda + 8 ≤ t
    · simp [warm, Detector.after, State.setDetector]
    · simp only [warm, if_false, Detector.after, reduceCtorEq, false_and]
      exact ⟨e ▸ kept, trivial⟩

section
variable (t : Int)

theorem stepDetector_cfg (s : State) (j k : Fin 6) : (State.stepDetector t s j).cfg k = s.cfg k := by
  unfold State.cfg
  rw [show State.stepDetector t s j = _ from samplerFrame_stepDetector t s j]

theorem stepDetector_source (s : State) {j : Fin 6} {x : Fin 65} (other : x ≠ srcWaterCold j) :
    (State.stepDetector t s j).alerts.sources.at x = s.alerts.sources.at x := by
  rw [(stepDetector_cases t s j).2]
  split
  · exact Alerts.raiseEdge_other _ other
  · rfl

theorem foldl_stepDetector_source {x : Fin 65} {l : List (Fin 6)} (other : ∀ j ∈ l, x ≠ srcWaterCold j) (s : State) :
    (l.foldl (State.stepDetector t) s).alerts.sources.at x = s.alerts.sources.at x := by
  induction l generalizing s with
  | nil => rfl
  | cons j l ih =>
    rw [List.foldl_cons, ih fun i hi => other i (List.mem_cons_of_mem _ hi)]
    exact stepDetector_source t s (other j List.mem_cons_self)

/-- Detectors stepped one after another: each of the coils listed once, the others not at all. -/
theorem foldl_stepDetector {l : List (Fin 6)} (once : l.Nodup) (s : State) (k : Fin 6) :
    (l.foldl (State.stepDetector t) s).detectors.at k =
      if k ∈ l then (s.detectors.at k).after (s.cfg k).lambda t else s.detectors.at k := by
  induction l generalizing s with
  | nil => rfl
  | cons j l ih =>
    rw [List.nodup_cons] at once
    have step := (stepDetector_cases t s j).1
    rw [List.foldl_cons, ih once.2, stepDetector_cfg, step, Tab.at_put]
    by_cases own : k = j
    · subst own
      simp [once.1]
    · simp [own]

/-- A crossing among them has raised its source. -/
theorem foldl_stepDetector_raised {l : List (Fin 6)} (once : l.Nodup) {s : State} {k : Fin 6} (member : k ∈ l)
    (ready : s.detectors.at k = .ready) (cold : t < (s.cfg k).lambda)
    (none : (s.alerts.sources.at (srcWaterCold k)).membership = .none) :
    ((l.foldl (State.stepDetector t) s).alerts.sources.at (srcWaterCold k)).membership = .pending := by
  induction l generalizing s with
  | nil => cases member
  | cons j l ih =>
    rw [List.nodup_cons] at once
    rw [List.foldl_cons]
    by_cases own : k = j
    · subst own
      rw [foldl_stepDetector_source t (fun i hi same => once.1 ?_), (stepDetector_cases t s k).2, if_pos ⟨ready, cold⟩]
      · exact raiseEdge_pending none
      · obtain ⟨rfl, -⟩ := (coilSource_inj k i 7 7).mp same
        exact hi
    · have others : srcWaterCold k ≠ srcWaterCold j := fun same => own ((coilSource_inj k j 7 7).mp same).1
      refine ih once.2 ((List.mem_cons.mp member).resolve_left own) ?_ ?_ ?_
      · rw [(stepDetector_cases t s j).1, Tab.at_put_of_ne _ _ own]
        exact ready
      · rw [stepDetector_cfg]
        exact cold
      · rw [stepDetector_source t s others]
        exact none

end

/-! ## Passes (R23, R24) -/

theorem foldl_dropChannel (l : List (Fin 16)) (s : State) (d : Fin 16) : (l.foldl State.dropChannel s).channels.at d =
    if d ∈ l then { s.channels.at d with status := .notScanned } else s.channels.at d := by
  induction l generalizing s with
  | nil => rfl
  | cons c l ih =>
    rw [List.foldl_cons, ih]
    have step : (s.dropChannel c).channels.at d =
        if d = c then { s.channels.at d with status := .notScanned } else s.channels.at d := by
      change (s.channels.put c _).at d = _
      rw [Tab.at_put]
      split
      · rename_i own
        rw [own]
      · rfl
    rw [step]
    by_cases own : d = c
    · simp [own]
    · simp [own]

theorem told_handAnalogFault (s : State) : s.handAnalogFault.told srcAnalogFault = s.handAnalogFault.analogFaultCondition :=
  told_handLevel_self _ _ _

theorem handAnalogFault_source (s : State) {x : Fin 65} (other : x ≠ srcAnalogFault) :
    s.handAnalogFault.alerts.sources.at x = s.alerts.sources.at x := Alerts.handLevel_other _ other _

theorem dropChannels_eq (l : List (Fin 16)) (s : State) :
    l.foldl State.dropChannel s = { s with channels := (l.foldl State.dropChannel s).channels } := by
  induction l generalizing s with
  | nil => rfl
  | cons c l ih => rw [List.foldl_cons, ih]; rfl

/-- The state of a pass that has begun, up to the resolver (R23, R24). -/
theorem beginPass_fields (s : State) :
    s.beginPass.sampler = { passList := s.tables.scan, position := 1 } ∧ s.beginPass.detectors = s.detectors ∧
    (∀ d, s.beginPass.channels.at d =
      if d ∈ s.sampler.passList ∧ d ∉ s.tables.scan then { s.channels.at d with status := .notScanned } else s.channels.at d) ∧
    (∀ x, x ≠ srcAnalogFault → s.beginPass.alerts.sources.at x = s.alerts.sources.at x) := by
  unfold State.beginPass
  dsimp only
  refine ⟨?_, ?_, fun d => ?_, fun x other => ?_⟩
  · rw [dropChannels_eq]
    rfl
  · rw [dropChannels_eq]
    rfl
  · refine (foldl_dropChannel _ _ d).trans ?_
    simp
  · rw [handAnalogFault_source _ other, dropChannels_eq]

/-- The state after a conversion's record, detectors and next conversion, up to the resolver (R23, R24, R32, R35). -/
theorem nextConversion_fields (s : State) (faults : s.told srcAnalogFault = s.analogFaultCondition) :
    s.nextConversion.told srcAnalogFault = s.nextConversion.analogFaultCondition ∧
    s.nextConversion.detectors = s.detectors ∧
    (∀ x, x ≠ srcAnalogFault → s.nextConversion.alerts.sources.at x = s.alerts.sources.at x) ∧
    (s.sampler.position < s.sampler.passList.length →
      s.nextConversion.sampler = { s.sampler with position := s.sampler.position + 1 } ∧ s.nextConversion.channels = s.channels) ∧
    (s.sampler.passList.length ≤ s.sampler.position →
      s.nextConversion.sampler = { passList := s.tables.scan, position := 1 } ∧
      ∀ d, s.nextConversion.channels.at d = if d ∈ s.sampler.passList ∧ d ∉ s.tables.scan
        then { s.channels.at d with status := .notScanned } else s.channels.at d) := by
  unfold State.nextConversion
  by_cases more : s.sampler.position < s.sampler.passList.length
  · rw [if_pos more]
    exact ⟨faults, rfl, fun _ _ => rfl, fun _ => ⟨rfl, rfl⟩, fun done => absurd more (by omega)⟩
  · rw [if_neg more]
    obtain ⟨sampler, detectors, channels, alerts⟩ := beginPass_fields s
    exact ⟨told_handAnalogFault _, detectors, alerts, fun going => absurd going more, fun _ => ⟨sampler, channels⟩⟩

/-! ## A conversion (R25 to R35) -/

/-- The detectors after channel `c`'s record is written: stepped where the reading is valid. -/
theorem stepDetectors_of_valid {s : State} {c : Fin 16} (ok : (s.channels.at c).status = .ok) :
    s.stepDetectors c = (allCoils.filter fun k => (s.cfg k).present && (s.cfg k).lwt == some c).foldl
      (State.stepDetector (s.channels.at c).temperature) s := by
  simp [State.stepDetectors, State.validTemp, ok]

theorem stepDetectors_of_invalid {s : State} {c : Fin 16} (bad : (s.channels.at c).status ≠ .ok) : s.stepDetectors c = s := by
  simp [State.stepDetectors, State.validTemp, bad]

theorem allCoils_nodup : allCoils.Nodup := by decide

/-- What the detectors' steps leave of the sampler's records. -/
theorem stepDetectors_fields (s : State) (c : Fin 16) : (s.stepDetectors c).channels = s.channels ∧
    (s.stepDetectors c).sampler = s.sampler ∧ (s.stepDetectors c).tables = s.tables := by
  have step (t : Int) (s : State) (k : Fin 6) : (State.stepDetector t s k).channels = s.channels ∧
      (State.stepDetector t s k).sampler = s.sampler ∧ (State.stepDetector t s k).tables = s.tables := by
    unfold State.stepDetector
    dsimp only
    split <;> split <;> exact ⟨rfl, rfl, rfl⟩
  have fold (t : Int) (l : List (Fin 6)) (s : State) : (l.foldl (State.stepDetector t) s).channels = s.channels ∧
      (l.foldl (State.stepDetector t) s).sampler = s.sampler ∧ (l.foldl (State.stepDetector t) s).tables = s.tables := by
    induction l generalizing s with
    | nil => exact ⟨rfl, rfl, rfl⟩
    | cons k l ih =>
      obtain ⟨channels, sampler, tables⟩ := step t s k
      rw [List.foldl_cons, ← channels, ← sampler, ← tables]
      exact ih _
  unfold State.stepDetectors
  split
  · exact ⟨rfl, rfl, rfl⟩
  · exact fold _ _ _

/-- The state as channel `c`'s conversion of `code` leaves its record (R25). -/
def State.converted (s : State) (c : Fin 16) (code : Nat) : State :=
  s.setChannel c ((s.channels.at c).convert (s.tables.channels.at c) code)

theorem converted_record (s : State) (c : Fin 16) (code : Nat) :
    (s.converted c code).channels.at c = (s.channels.at c).convert (s.tables.channels.at c) code := Tab.at_put_self _ _ _

theorem conversionEnds_eq {s : State} {c : Fin 16} (flies : s.sampler.channel = some c) (code : Nat) :
    s.conversionEnds code = ((s.converted c code).stepDetectors c).handAnalogFault.nextConversion := by
  unfold State.conversionEnds
  rw [flies]
  rfl

/-- The channels that a conversion leaves (R23 to R25). -/
theorem conversionEnds_channels {s : State} {c : Fin 16} (flies : s.sampler.channel = some c) (code : Nat) :
    (s.sampler.position < s.sampler.passList.length →
      (s.conversionEnds code).sampler = { s.sampler with position := s.sampler.position + 1 } ∧
      (s.conversionEnds code).channels = (s.converted c code).channels) ∧
    (s.sampler.passList.length ≤ s.sampler.position →
      (s.conversionEnds code).sampler = { passList := s.tables.scan, position := 1 } ∧
      ∀ d, (s.conversionEnds code).channels.at d = if d ∈ s.sampler.passList ∧ d ∉ s.tables.scan
        then { (s.converted c code).channels.at d with status := .notScanned } else (s.converted c code).channels.at d) := by
  obtain ⟨channels, sampler, tables⟩ := stepDetectors_fields (s.converted c code) c
  obtain ⟨-, -, -, going, done⟩ := nextConversion_fields ((s.converted c code).stepDetectors c).handAnalogFault
    (told_handAnalogFault _)
  rw [conversionEnds_eq flies]
  rw [show ((s.converted c code).stepDetectors c).handAnalogFault.sampler = s.sampler from sampler,
    show ((s.converted c code).stepDetectors c).handAnalogFault.channels = (s.converted c code).channels from channels] at going done
  rw [show ((s.converted c code).stepDetectors c).handAnalogFault.tables = s.tables from tables] at done
  exact ⟨going, done⟩

/-- The detectors that a conversion leaves, and the crossings that it raises (R32). -/
theorem conversionEnds_detectors {s : State} {c : Fin 16} (flies : s.sampler.channel = some c) (code : Nat) {r : ChannelRec}
    (record : r = (s.channels.at c).convert (s.tables.channels.at c) code) :
    (r.status ≠ .ok → (s.conversionEnds code).detectors = s.detectors) ∧
    (∀ k, ((s.cfg k).present = false ∨ (s.cfg k).lwt ≠ some c) → (s.conversionEnds code).detectors.at k = s.detectors.at k) ∧
    (r.status = .ok → ∀ k, (s.cfg k).present = true → (s.cfg k).lwt = some c →
      (s.conversionEnds code).detectors.at k = (s.detectors.at k).after (s.cfg k).lambda r.temperature ∧
      (s.detectors.at k = .ready → r.temperature < (s.cfg k).lambda → (s.alerts.sources.at (srcWaterCold k)).membership = .none →
        ((s.conversionEnds code).alerts.sources.at (srcWaterCold k)).membership = .pending)) := by
  obtain ⟨-, detectors, alerts, -, -⟩ := nextConversion_fields ((s.converted c code).stepDetectors c).handAnalogFault
    (told_handAnalogFault _)
  have written := (converted_record s c code).trans record.symm
  have bound (k : Fin 6) : k ∈ allCoils.filter (fun k => (s.cfg k).present && (s.cfg k).lwt == some c) ↔
      (s.cfg k).present = true ∧ (s.cfg k).lwt = some c := by
    simp [mem_allCoils]
  have once := allCoils_nodup.filter fun k => (s.cfg k).present && (s.cfg k).lwt == some c
  rw [conversionEnds_eq flies, detectors]
  change (_ → ((s.converted c code).stepDetectors c).detectors = _) ∧
    (∀ k, _ → ((s.converted c code).stepDetectors c).detectors.at k = _) ∧
    (_ → ∀ k, _ → _ → ((s.converted c code).stepDetectors c).detectors.at k = _ ∧ _)
  by_cases ok : r.status = .ok
  · have steps := stepDetectors_of_valid (s := s.converted c code) (c := c) (by rw [written]; exact ok)
    rw [written] at steps
    rw [steps] at alerts ⊢
    refine ⟨fun bad => absurd ok bad, fun k free => ?_, fun _ k present lwt => ⟨?_, fun ready cold none => ?_⟩⟩
    · refine (foldl_stepDetector _ once _ k).trans (if_neg fun member => ?_)
      obtain ⟨present, lwt⟩ := (bound k).mp member
      rcases free with absent | other
      · rw [present] at absent
        cases absent
      · exact other lwt
    · exact (foldl_stepDetector _ once _ k).trans (if_pos ((bound k).mpr ⟨present, lwt⟩))
    · have coil : srcWaterCold k ≠ srcAnalogFault := coilSource_ne_device k 7 (by decide)
      rw [alerts _ coil, handAnalogFault_source _ coil]
      exact foldl_stepDetector_raised _ once (s := s.converted c code) ((bound k).mpr ⟨present, lwt⟩) ready cold none
  · rw [stepDetectors_of_invalid (by rw [written]; exact ok)]
    exact ⟨fun _ => rfl, fun _ _ => rfl, fun good => absurd good ok⟩

theorem onlySampler_of_ends {s q t : State} (h : Ends q t) (frame : samplerFrame s q) : onlySampler s t := by
  have channels : t.channels = q.channels := h.only.reads State.channels fun _ _ _ => rfl
  have sampler : t.sampler = q.sampler := h.only.reads State.sampler fun _ _ _ => rfl
  have detectors : t.detectors = q.detectors := h.only.reads State.detectors fun _ _ _ => rfl
  have only : t = _ := h.only
  unfold onlySampler onlyAlerts
  rw [channels, sampler, detectors]
  rw [show q = _ from frame] at only
  exact only

/-- Settles O45. -/
theorem conversionsFollowTheirCode : Obligations.ConversionsFollowTheirCode := by
  intro s code running
  refine ⟨fun settled none => ?_, fun c flies => ?_⟩
  · refine whileRunning_settled (act := (State.conversionEnds · code.toNat)) running ?_ settled
    unfold State.conversionEnds
    rw [none]
  obtain ⟨t, next, ends⟩ := whileRunning_ends running (State.conversionEnds · code.toNat)
  have channels : t.channels = (s.conversionEnds code.toNat).channels := ends.only.reads State.channels fun _ _ _ => rfl
  have sampler : t.sampler = (s.conversionEnds code.toNat).sampler := ends.only.reads State.sampler fun _ _ _ => rfl
  have detectors : t.detectors = (s.conversionEnds code.toNat).detectors := ends.only.reads State.detectors fun _ _ _ => rfl
  have faults : t.told srcAnalogFault = t.analogFaultCondition := by
    rw [ends.told, ends.only.reads State.analogFaultCondition fun _ _ _ => rfl, conversionEnds_eq flies]
    exact (nextConversion_fields _ (told_handAnalogFault _)).1
  obtain ⟨going, done⟩ := conversionEnds_channels flies code.toNat
  rw [← channels, ← sampler] at going done
  generalize record : (s.channels.at c).convert (s.tables.channels.at c) code.toNat = r
  obtain ⟨invalid, others, valid⟩ := conversionEnds_detectors flies code.toNat record.symm
  rw [← detectors] at invalid others valid
  have written : (s.converted c code.toNat).channels.at c = r := (converted_record s c code.toNat).trans record
  have kept {d : Fin 16} (other : d ≠ c) : (s.converted c code.toNat).channels.at d = s.channels.at d :=
    Tab.at_put_of_ne _ _ other
  obtain ⟨codes, counts⟩ := convert_code (s.channels.at c) (s.tables.channels.at c) code.toNat
  have temps := convert_ok_iff (s.channels.at c) (s.tables.channels.at c) code.toNat
  rw [record] at codes counts temps
  have fields : (t.channels.at c).code = r.code ∧ (t.channels.at c).conversions = r.conversions ∧
      (t.channels.at c).temperature = r.temperature := by
    rcases Nat.lt_or_ge s.sampler.position s.sampler.passList.length with more | last
    · rw [(going more).2, written]
      exact ⟨rfl, rfl, rfl⟩
    · rw [(done last).2 c, written]
      split <;> exact ⟨rfl, rfl, rfl⟩
  have stands (h : s.sampler.position < s.sampler.passList.length ∨ c ∈ s.tables.scan) : t.channels.at c = r := by
    rcases Nat.lt_or_ge s.sampler.position s.sampler.passList.length with more | last
    · rw [(going more).2, written]
    · rw [(done last).2 c, written, if_neg fun dropped => dropped.2 (h.resolve_left (by omega))]
  obtain ⟨sameCode, sameCount, sameTemp⟩ := fields
  refine ⟨t, next, onlySampler_of_ends ends (samplerFrame_conversionEnds s _), faults, sameCode.trans codes, sameCount.trans counts,
    fun wire good hwire hgood => ?_, others, fun more => ?_, fun last => ?_⟩
  · have ok : good ↔ r.status = .ok := by rw [hgood, temps, sameTemp, hwire]
    rw [sameTemp]
    refine ⟨fun w => ?_, fun sound => ?_, fun lasting => ⟨fun w => ?_, fun g => ?_, fun sound bad => ?_⟩,
      fun bad => invalid fun isOk => bad (ok.mpr isOk), fun g k present lwt => ?_⟩
    · rw [← record, convert_wire (hwire.mp w)]
    · rw [← record, convert_temp fun w => sound (hwire.mpr w)]
      rfl
    · rw [stands lasting, ← record, convert_wire (hwire.mp w)]
    · rw [stands lasting, ok.mp g]
    · have notOk : r.status ≠ .ok := fun isOk => bad (ok.mpr isOk)
      rw [← record, convert_temp fun w => sound (hwire.mpr w)] at notOk
      rw [stands lasting, ← record, convert_temp fun w => sound (hwire.mpr w)]
      dsimp only at notOk ⊢
      split
      · rfl
      · exact absurd (if_neg ‹_›) notOk
    · obtain ⟨after, crossing⟩ := valid (ok.mp g) k present lwt
      rw [after]
      refine ⟨fun ready cold => ⟨?_, fun none => ?_⟩, fun ready warm => ?_, fun latched cold => ?_, fun latched warm => ?_⟩
      · rw [ready]
        exact if_pos cold
      · exact ends.waits _ (crossing ready cold none)
      · rw [ready]
        exact if_neg (by omega)
      · rw [latched]
        exact if_neg (by omega)
      · rw [latched]
        exact if_pos warm
  · obtain ⟨position, same⟩ := going more
    exact ⟨position, fun d other => by rw [same, kept other]⟩
  · obtain ⟨position, dropped⟩ := done last
    refine ⟨position, fun d other => ?_, fun gone => ?_⟩
    · rw [dropped d, kept other]
      split <;> simp_all
    · have flown : c ∈ s.sampler.passList := by
        unfold Sampler.channel at flies
        split at flies
        · cases flies
        · exact List.mem_of_getElem? flies
      rw [dropped c, if_pos ⟨flown, gone⟩]

end Sys2Proof.Machine
end

section
/-! PROOF. What follows from a stage change of a coil: its unit's event, the outputs and the level conditions, said once. -/

namespace Sys2Proof.Machine

open Sys2Proof

/-! ## The unit's event as a function of the unit's record (R112, R113, R118, R119) -/

/-- The entry to CLOSING at `now`, or to SECURED where both proofs are present. -/
def closedRec (r : UnitRec) (c : UnitCfg) (secure : Bool) (now : Seconds) : UnitRec :=
  if secure then { r with
    stage := .secured, stroke := none, fan := none, holdOff := none, missingDamper := false, missingFan := false,
    closingSecond := some now }
  else { r with
    stage := .closing, stroke := some c.strokeLimit, fan := some c.fanStopLimit, holdOff := none, missingDamper := false,
    missingFan := false, closingSecond := some now }

/-- RUN or TEMPER by the temper condition. -/
def openStage (temper : Bool) : UnitStage := if temper then .temper else .run

/-- The entry to RESTART_HOLD, which a hold-off of 0 s leaves at once. -/
def heldRec (r : UnitRec) (c : UnitCfg) : UnitRec :=
  { r with
    stage := if c.holdOff = 0 then openStage r.temper else .restartHold, stroke := none, fan := none,
    holdOff := if c.holdOff = 0 then none else some c.holdOff, missingDamper := false, missingFan := false }

/-- What an event of R110 makes of a unit's record with its conditions written; `secure` says that both proofs are present. -/
def movedRec (r : UnitRec) (c : UnitCfg) (secure : Bool) (now : Seconds) : UnitRec :=
  match r.stage with
  | .idle => r
  | .run => if r.trip then closedRec r c secure now else { r with stage := openStage r.temper }
  | .temper => if r.trip then closedRec r c secure now else { r with stage := openStage r.temper }
  | .restartHold => if r.trip then closedRec r c secure now else r
  | .closing => if r.trip then r else heldRec r c
  | .secured => if r.trip then r else heldRec r c
  | .secureFault => if r.trip then r else heldRec r c

/-- Unit `u`'s record of `s` with the conditions of `t`. -/
def eventRec (s t : State) (u : Fin 3) : UnitRec := { s.units.at u with temper := t.temperOf u, trip := t.tripOf u }

theorem unitMoved_iff {s t : State} {u : Fin 3} : unitMoved s t u ↔
    t.units.at u = movedRec (eventRec s t u) (s.tables.units.at u) (t.damperProof u && t.fanProof u) s.plantSeconds := by
  constructor
  · intro h
    obtain ⟨stays, works, trips, restarts⟩ := h _ (eventRec s t u) rfl rfl
    generalize eventRec s t u = r at *
    obtain ⟨stage, temper, trip, _, _, _, _, _, _⟩ := r
    rcases Nat.eq_zero_or_pos (s.tables.units.at u).holdOff with zero | some
    · cases stage <;> cases trip <;> cases damper : t.damperProof u <;> cases fan : t.fanProof u <;>
        simp_all [movedRec, closedRec, heldRec, openStage, UnitStage.shut]
    · have := some.ne'
      cases stage <;> cases trip <;> cases damper : t.damperProof u <;> cases fan : t.fanProof u <;>
        simp_all [movedRec, closedRec, heldRec, openStage, UnitStage.shut]
  · intro h c r hc hr
    rw [h, ← hc, show eventRec s t u = r from hr.symm]
    clear h hr
    obtain ⟨stage, temper, trip, _, _, _, _, _, _⟩ := r
    rcases Nat.eq_zero_or_pos c.holdOff with zero | some
    · cases stage <;> cases trip <;> cases t.damperProof u <;> cases t.fanProof u <;>
        simp_all [movedRec, closedRec, heldRec, openStage, UnitStage.shut]
    · have := some.ne'
      cases stage <;> cases trip <;> cases t.damperProof u <;> cases t.fanProof u <;>
        simp_all [movedRec, closedRec, heldRec, openStage, UnitStage.shut]

/-- An event handled again with its trip condition kept is the second event alone. -/
theorem movedRec_again (r : UnitRec) (c : UnitCfg) (secure temper : Bool) (now : Seconds) :
    movedRec { movedRec r c secure now with temper := temper, trip := r.trip } c secure now =
      movedRec { r with temper := temper } c secure now := by
  obtain ⟨stage, before, trip, _, _, _, _, _, _⟩ := r
  cases stage <;> cases trip <;> cases secure <;> by_cases zero : c.holdOff = 0 <;> cases before <;>
    simp [movedRec, closedRec, heldRec, openStage, zero]

/-- A shut unit whose trip condition holds stands. -/
theorem movedRec_shut {r : UnitRec} (shut : r.stage.shut = true) (trip : r.trip = true) (c : UnitCfg) (secure : Bool) (now : Seconds) :
    movedRec r c secure now = r := by
  unfold movedRec
  cases e : r.stage <;> simp_all [UnitStage.shut]

/-- What the unit's event reads of the state before it, and of the state after it. -/
theorem unitMoved_congr {s s' t t' : State} {u : Fin 3} (h : unitMoved s t u) (record : s'.units.at u = s.units.at u)
    (tables : s'.tables.units.at u = s.tables.units.at u) (seconds : s'.plantSeconds = s.plantSeconds)
    (units : t'.units.at u = t.units.at u) (temper : t'.temperOf u = t.temperOf u) (trip : t'.tripOf u = t.tripOf u)
    (damper : t'.damperProof u = t.damperProof u) (fan : t'.fanProof u = t.fanProof u) : unitMoved s' t' u := by
  rw [unitMoved_iff] at h ⊢
  unfold eventRec at h ⊢
  rw [units, record, tables, seconds, temper, trip, damper, fan]
  exact h

/-- Two events one after the other are one event where the trip condition is kept, or falls on a shut unit. -/
theorem unitMoved_twice {s t w : State} {u : Fin 3} (h : unitMoved s t u) (h' : unitMoved t w u)
    (tables : t.tables.units.at u = s.tables.units.at u) (seconds : t.plantSeconds = s.plantSeconds)
    (damper : w.damperProof u = t.damperProof u) (fan : w.fanProof u = t.fanProof u)
    (trip : w.tripOf u = t.tripOf u ∨ (s.units.at u).stage.shut = true ∧ t.tripOf u = true) : unitMoved s w u := by
  rw [unitMoved_iff] at h h' ⊢
  rw [h', tables, seconds, damper, fan]
  unfold eventRec
  rw [h]
  rcases trip with same | ⟨shut, trips⟩
  · rw [same]
    exact movedRec_again (eventRec s t u) _ _ (w.temperOf u) _
  · rw [movedRec_shut (r := eventRec s t u) shut trips]
    rfl

/-! ## What the operations keep of the units' conditions -/

/-- The stages that trip a unit. -/
def CoilStage.trips (st : CoilStage) : Bool := st == .tripped || st == .lockout

/-- The stages that temper a unit. -/
def CoilStage.tempers (st : CoilStage) : Bool := st == .boost || st == .settle

theorem tripOf_of_trips {s t : State} (cfgs : t.tables.coils = s.tables.coils)
    (coils : ∀ j, (t.coils.at j).stage.trips = (s.coils.at j).stage.trips) (u : Fin 3) : t.tripOf u = s.tripOf u := by
  unfold State.tripOf
  refine List.any_congr rfl fun j => ?_
  have := coils j
  unfold CoilStage.trips at this
  rw [State.coilOf, State.coilOf, State.cfg, State.cfg, cfgs, this]

theorem temperOf_of_tempers {s t : State} (cfgs : t.tables.coils = s.tables.coils)
    (coils : ∀ j, (t.coils.at j).stage.tempers = (s.coils.at j).stage.tempers) (u : Fin 3) : t.temperOf u = s.temperOf u := by
  unfold State.temperOf
  refine List.any_congr rfl fun j => ?_
  have := coils j
  unfold CoilStage.tempers at this
  rw [State.coilOf, State.coilOf, State.cfg, State.cfg, cfgs, this]

/-- Pump proving alone moves no unit. -/
theorem onlyUnitMoved_proves {s t w : State} {u : Fin 3} (h : onlyUnitMoved s t u) (frame : seqFrame t w) (units : w.units = t.units)
    (coils : ∀ j, (t.coils.at j).sameButProve (w.coils.at j)) : onlyUnitMoved s w u := by
  have cfgs : w.tables.coils = t.tables.coils := congrArg Tables.coils (seqFrame_tables frame)
  have stage (j : Fin 6) : (w.coils.at j).stage = (t.coils.at j).stage := (sameButProve_stage (coils j)).1
  refine ⟨fun protects => unitMoved_congr (h.1 protects) rfl rfl rfl (by rw [units])
    (temperOf_of_tempers cfgs (fun j => by rw [stage j]) u) (tripOf_of_trips cfgs (fun j => by rw [stage j]) u) ?_ ?_,
    fun v other => by rw [units]; exact h.2 v other⟩
  · unfold State.damperProof
    rw [seqFrame_inputs frame]
  · unfold State.fanProof
    rw [seqFrame_inputs frame]

/-! ## What the unit's event tells -/

section
variable (s : State) {u : Fin 3} {y : Fin 65} (other : y ≠ srcSecureFault u)
include other

theorem told_enterSecured : (s.enterSecured u).told y = s.told y := by
  unfold State.enterSecured State.handSecureFault
  rw [told_raiseEdge, told_handLevel_other _ other]
  rfl

theorem told_enterClosing : (s.enterClosing u).told y = s.told y := by
  unfold State.enterClosing
  dsimp only
  split
  · rw [told_enterSecured _ other, State.handSecureFault, told_handLevel_other _ other]
    rfl
  · rw [State.handSecureFault, told_handLevel_other _ other]
    rfl

theorem told_enterRestartHold : (s.enterRestartHold u).told y = s.told y := by
  unfold State.enterRestartHold
  dsimp only
  split
  · exact (told_handLevel_other _ other _).trans rfl
  · rw [State.handSecureFault, told_handLevel_other _ other]
    rfl

theorem told_moveUnit : (s.moveUnit u).told y = s.told y := by
  unfold State.moveUnit
  dsimp only
  split
  · rfl
  · split
    · exact told_enterClosing s other
    · split <;> rfl
  · split
    · exact told_enterClosing s other
    · split <;> rfl
  · split
    · rfl
    · exact told_enterRestartHold s other
  · split
    · rfl
    · exact told_enterRestartHold s other
  · split
    · rfl
    · exact told_enterRestartHold s other
  · split
    · exact told_enterClosing s other
    · rfl

theorem told_unitEvent : (s.unitEvent u).told y = s.told y := by
  unfold State.unitEvent
  split
  · rfl
  · exact (told_moveUnit _ other).trans rfl
  · exact (told_moveUnit _ other).trans rfl

end

/-! ## A stage change and what follows from it -/

/-- TRIP, LOCKOUT and PUMP_FAIL of coil `k` are told as they stand. -/
def State.toldCoil (s : State) (k : Fin 6) : Prop :=
  s.told (srcTrip k) = s.tripCondition k ∧ s.told (srcLockout k) = s.lockoutCondition k ∧
    s.told (srcPumpFail k) = s.pumpFailCondition k

theorem toldCoil_handCoil (s : State) (k : Fin 6) : (s.handCoil k).toldCoil k := by
  unfold State.handCoil State.handPumpFail State.toldCoil
  simp only [told_handLevel, srcTrip, srcLockout, srcPumpFail, coilSource_inj, true_and]
  exact ⟨rfl, rfl, rfl⟩

theorem toldCoil_writeCoil (s : State) (k : Fin 6) (r : CoilSeq) : (s.writeCoil k r).toldCoil k := toldCoil_handCoil _ k

theorem writeCoil_own (s : State) (k : Fin 6) (r : CoilSeq) : (s.writeCoil k r).coils.at k = r := Tab.at_put_self _ _ _

theorem toldCoil_recompute {s : State} {k : Fin 6} (h : s.toldCoil k) : s.recompute.toldCoil k := by
  obtain ⟨trip, lockout, pump⟩ := h
  have stage := (sameButProve_stage (recompute_coils s k)).1
  have cfg : s.recompute.cfg k = s.cfg k := by
    unfold State.cfg
    rw [seqFrame_tables (seqFrame_recompute s)]
  refine ⟨?_, ?_, (proves_recompute s).pumpFail k pump⟩
  · rw [recompute_told s (by simp [srcTrip, srcPumpFail]), trip]
    unfold State.tripCondition
    rw [stage, cfg]
  · rw [recompute_told s (by simp [srcLockout, srcPumpFail]), lockout]
    unfold State.lockoutCondition
    rw [stage, cfg]

theorem toldCoil_unitEvent {s : State} {k : Fin 6} (h : s.toldCoil k) (u : Fin 3) : (s.unitEvent u).toldCoil k := by
  obtain ⟨trip, lockout, pump⟩ := h
  have frame := (unitFrame_unitEvent u s).1
  refine ⟨?_, ?_, ?_⟩
  · rw [told_unitEvent s (by simp [srcTrip, srcSecureFault]), trip, frame]
    rfl
  · rw [told_unitEvent s (by simp [srcLockout, srcSecureFault]), lockout, frame]
    rfl
  · rw [told_unitEvent s (by simp [srcPumpFail, srcSecureFault]), pump, frame]
    rfl

/-- From `s` to `t` coil `k`'s record has become `r` but for pump proving, and its unit, the outputs and its level conditions have
followed. -/
structure Restaged (k : Fin 6) (s : State) (r : CoilSeq) (t : State) : Prop where
  moves : Moves k (s.cfg k).unit s t
  own : r.sameButProve (t.coils.at k)
  unit : onlyUnitMoved s t (s.cfg k).unit
  driven : t.outputs = t.effective
  told : t.toldCoil k

section
variable {k : Fin 6} {s : State}

theorem Restaged.frame {r : CoilSeq} {t : State} (h : Restaged k s r t) : seqFrame s t := h.moves.frame

theorem cfg_of_frame {t : State} (h : seqFrame s t) (j : Fin 6) : t.cfg j = s.cfg j := by
  unfold State.cfg
  rw [seqFrame_tables h]

/-- A record written with the units as they stood, and then what follows from it. -/
theorem restaged_coilMoved {q : State} {r : CoilSeq} (moves : Moves k (s.cfg k).unit s q) (own : q.coils.at k = r)
    (units : q.units = s.units) (told : q.toldCoil k) : Restaged k s r (q.coilMoved k) := by
  have cfg := cfg_of_frame moves.frame k
  have event := unitEvent_onlyUnitMoved q (s.cfg k).unit
  have eventFrame := (unitFrame_unitEvent (s.cfg k).unit q).1
  have whole := (moves_unitEvent k (s.cfg k).unit q).trans (moves_recompute k (s.cfg k).unit _)
  unfold State.coilMoved
  rw [cfg]
  refine ⟨moves.trans whole, ?_, onlyUnitMoved_proves ?_ (seqFrame_recompute _) (recompute_units _) (recompute_coils _),
    recompute_driven _, toldCoil_recompute (toldCoil_unitEvent told _)⟩
  · have kept : (q.unitEvent (s.cfg k).unit).coils.at k = r := by
      rw [eventFrame]
      exact own
    exact kept ▸ recompute_coils (q.unitEvent (s.cfg k).unit) k
  · refine ⟨fun protects => ?_, fun v other => (event.2 v other).trans (by rw [units])⟩
    exact unitMoved_congr (event.1 (by rw [seqFrame_mode moves.frame]; exact protects)) (by rw [units])
      (by rw [seqFrame_tables moves.frame]) (seqFrame_seconds moves.frame).symm rfl rfl rfl rfl rfl

theorem restaged_writeMoved (r : CoilSeq) : Restaged k s r ((s.writeCoil k r).coilMoved k) :=
  restaged_coilMoved (moves_writeCoil k s r) (writeCoil_own s k r) rfl (toldCoil_writeCoil s k r)

theorem restaged_enterStage (st : CoilStage) :
    Restaged k s ((s.coils.at k).enter st (s.cfg k).settleFrames) (s.enterStage k st) := restaged_writeMoved _

/-- An update of coil `k`'s own exposure or pump proving before the stage change. -/
theorem Restaged.after {q t : State} {r : CoilSeq} (h : Restaged k q r t) (moves : Moves k (s.cfg k).unit s q)
    (units : q.units = s.units) : Restaged k s r t := by
  have cfg := cfg_of_frame moves.frame k
  obtain ⟨steps, own, unit, driven, told⟩ := h
  rw [cfg] at steps unit
  refine ⟨moves.trans steps, own, ⟨fun protects => ?_, fun v other => (unit.2 v other).trans (by rw [units])⟩, driven, told⟩
  exact unitMoved_congr (unit.1 (by rw [seqFrame_mode moves.frame]; exact protects)) (by rw [units])
    (by rw [seqFrame_tables moves.frame]) (seqFrame_seconds moves.frame).symm rfl rfl rfl rfl rfl

/-- Two stage changes of coil `k` one after the other, both tripping the unit or neither, are one event of its unit. -/
theorem Restaged.again {t w : State} {r r' : CoilSeq} (h : Restaged k s r t) (h' : Restaged k t r' w)
    (trips : r'.stage.trips = r.stage.trips) : Restaged k s r' w := by
  have frame := h'.frame
  have cfg := cfg_of_frame h.frame k
  have others := h'.moves.others.1
  obtain ⟨steps, own, unit, driven, told⟩ := h'
  rw [cfg] at steps unit
  have same : w.tripOf (s.cfg k).unit = t.tripOf (s.cfg k).unit := by
    refine tripOf_of_trips (congrArg Tables.coils (seqFrame_tables frame)) (fun j => ?_) _
    by_cases hj : j = k
    · rw [hj, (sameButProve_stage own).1, (sameButProve_stage h.own).1, trips]
    · rw [(sameButProve_stage (others j hj).1).1]
  refine ⟨h.moves.trans steps, own, ⟨fun protects => ?_, fun v other => (unit.2 v other).trans (h.unit.2 v other)⟩, driven, told⟩
  refine unitMoved_twice (h.unit.1 protects) (unit.1 (by rw [seqFrame_mode h.frame]; exact protects))
    (by rw [seqFrame_tables h.frame]) (seqFrame_seconds h.frame) ?_ ?_ (.inl same)
  · unfold State.damperProof
    rw [seqFrame_inputs frame]
  · unfold State.fanProof
    rw [seqFrame_inputs frame]

theorem enter_sameButProve {r r' : CoilSeq} (h : r.sameButProve r') (st : CoilStage) (n : Nat) :
    (r.enter st n).sameButProve (r'.enter st n) := by
  obtain ⟨p, m, rfl⟩ := sameButProve_iff.mp h
  refine sameButProve_iff.mpr ⟨p, m, ?_⟩
  cases st <;> rfl

end

/-! ## Exposures and store behind a stage change -/

section
variable (s : State) (k : Fin 6)

@[simp] theorem coilMoved_exposures : (s.coilMoved k).exposures = s.exposures := by
  unfold State.coilMoved
  rw [recompute_exposures, (unitFrame_unitEvent _ s).1]

@[simp] theorem coilMoved_store : (s.coilMoved k).store = s.store := by
  unfold State.coilMoved
  rw [recompute_store, (unitFrame_unitEvent _ s).1]

@[simp] theorem enterStage_exposures (st : CoilStage) : (s.enterStage k st).exposures = s.exposures := coilMoved_exposures _ k
@[simp] theorem enterStage_store (st : CoilStage) : (s.enterStage k st).store = s.store := coilMoved_store _ k

@[simp] theorem demote_exposures : (s.demote k).exposures = s.exposures := by
  unfold State.demote
  dsimp only
  split
  · exact enterStage_exposures s k _
  · rfl

@[simp] theorem demote_store : (s.demote k).store = s.store := by
  unfold State.demote
  dsimp only
  split
  · exact enterStage_store s k _
  · rfl

@[simp] theorem promote_exposures (st : CoilStage) : (s.promote k st).exposures = s.exposures := by
  unfold State.promote
  dsimp only
  split
  · exact (demote_exposures _ k).trans (coilMoved_exposures _ k)
  · exact coilMoved_exposures _ k

@[simp] theorem promote_store (st : CoilStage) : (s.promote k st).store = s.store := by
  unfold State.promote
  dsimp only
  split
  · exact (demote_store _ k).trans (coilMoved_store _ k)
  · exact coilMoved_store _ k

end

/-! ## Promotion and demotion (R91, R92) -/

section
variable {k : Fin 6} {s : State}

theorem demote_acts (free : (s.coils.at k).forced = false) (stopped : (s.coils.at k).holdDown = none)
    (below : belowStage (s.coils.at k).stage (s.exposures.at k).band = true) :
    s.demote k = s.enterStage k (s.exposures.at k).band.stage := by
  unfold State.demote
  exact if_pos (by simp [free, stopped, below])

theorem demote_stands (h : (s.coils.at k).forced = true ∨ (s.coils.at k).holdDown ≠ none ∨
    belowStage (s.coils.at k).stage (s.exposures.at k).band = false) : s.demote k = s := by
  unfold State.demote
  refine if_neg ?_
  rcases h with forced | runs | above
  · simp [forced]
  · simp [Option.isNone_iff_eq_none, runs]
  · simp [above]

/-- A stage below which a band lies, and the stage that matches the band, both trip the unit or neither does. -/
theorem belowStage_trips {st : CoilStage} {b : Band} (below : belowStage st b = true) : b.stage.trips = st.trips := by
  unfold belowStage at below
  split at below
  · rfl
  · rfl
  · rfl
  · cases below

/-- The demotion after a stage change. -/
theorem Restaged.demoted {t : State} {r : CoilSeq} (h : Restaged k s r t) (free : r.forced = false) (stopped : r.holdDown = none)
    (below : belowStage r.stage (t.exposures.at k).band = true) :
    Restaged k s (r.enter (t.exposures.at k).band.stage (s.cfg k).settleFrames) (t.demote k) := by
  obtain ⟨p, n, e⟩ := sameButProve_iff.mp h.own
  have steps : Restaged k t ((t.coils.at k).enter (t.exposures.at k).band.stage (t.cfg k).settleFrames) (t.demote k) := by
    rw [demote_acts (by rw [e]; exact free) (by rw [e]; exact stopped) (by rw [e]; exact below)]
    exact restaged_enterStage _
  rw [cfg_of_frame h.frame k] at steps
  have own := sameButProve_trans (enter_sameButProve h.own (t.exposures.at k).band.stage (s.cfg k).settleFrames) steps.own
  refine h.again ⟨steps.moves, own, steps.unit, steps.driven, steps.told⟩ ?_
  rw [← belowStage_trips below]
  cases (t.exposures.at k).band.stage <;> rfl

theorem Restaged.undemoted {t : State} {r : CoilSeq} (h : Restaged k s r t)
    (above : r.forced = true ∨ r.holdDown ≠ none ∨ belowStage r.stage (t.exposures.at k).band = false) : t.demote k = t := by
  obtain ⟨p, n, e⟩ := sameButProve_iff.mp h.own
  exact demote_stands (by rw [e]; exact above)

/-- A promotion whose hold-down timer runs. -/
theorem restaged_promote (st : CoilStage) (runs : 0 < (s.cfg k).holdDown) :
    Restaged k s { (s.coils.at k).enter st (s.cfg k).settleFrames with holdDown := some (s.cfg k).holdDown } (s.promote k st) := by
  have acts : s.promote k st = (s.writeCoil k { (s.coils.at k).enter st (s.cfg k).settleFrames with
      holdDown := some (s.cfg k).holdDown }).coilMoved k := if_neg (by omega)
  rw [acts]
  exact restaged_writeMoved _

/-- A promotion with a hold-down of 0 s, before its demotion is tested. -/
def State.promoted (s : State) (k : Fin 6) (st : CoilStage) : State :=
  (s.writeCoil k { (s.coils.at k).enter st (s.cfg k).settleFrames with holdDown := none }).coilMoved k

theorem promote_zero (st : CoilStage) (zero : (s.cfg k).holdDown = 0) : s.promote k st = (s.promoted k st).demote k := by
  unfold State.promote
  exact if_pos zero

theorem restaged_promoted (st : CoilStage) :
    Restaged k s { (s.coils.at k).enter st (s.cfg k).settleFrames with holdDown := none } (s.promoted k st) := restaged_writeMoved _

theorem promoted_exposures (st : CoilStage) : (s.promoted k st).exposures = s.exposures := coilMoved_exposures _ k

end

end Sys2Proof.Machine
end

section
/-! PROOF. Resets, forced stages and trip entry (O43, O44, O54). -/

namespace Sys2Proof.Machine

open Sys2Proof

/-! ## From an operation to the end of its event -/

theorem onlyProtection_of_frame {s t : State} (h : seqFrame s t) : onlyProtection s t := by
  unfold onlyProtection onlyAlerts
  rw [show t = _ from h]

theorem onlyAlerts.cfg {s t : State} (h : onlyAlerts s t) (k : Fin 6) : t.cfg k = s.cfg k := by
  unfold State.cfg
  rw [h.tables]

section
variable {s q t : State}

theorem Ends.unitMoved {u : Fin 3} (h : Ends q t) (moved : onlyUnitMoved s q u) : onlyUnitMoved s t u := by
  refine ⟨fun protects => unitMoved_congr (moved.1 protects) rfl rfl rfl (by rw [h.only.units])
    (h.only.reads (State.temperOf · u) fun _ _ _ => rfl) (h.only.reads (State.tripOf · u) fun _ _ _ => rfl)
    (h.only.reads (State.damperProof · u) fun _ _ _ => rfl) (h.only.reads (State.fanProof · u) fun _ _ _ => rfl),
    fun v other => ?_⟩
  rw [h.only.units]
  exact moved.2 v other

theorem Ends.toldCoil {k : Fin 6} (h : Ends q t) (told : q.toldCoil k) : t.toldCoil k := by
  obtain ⟨trip, lockout, pump⟩ := told
  refine ⟨(h.told _).trans (trip.trans ?_), (h.told _).trans (lockout.trans ?_), (h.told _).trans (pump.trans ?_)⟩
  · exact (h.only.reads (State.tripCondition · k) fun _ _ _ => rfl).symm
  · exact (h.only.reads (State.lockoutCondition · k) fun _ _ _ => rfl).symm
  · exact (h.only.reads (State.pumpFailCondition · k) fun _ _ _ => rfl).symm

/-- A stage change of coil `k`, to the end of its event. -/
theorem Restaged.ends {k : Fin 6} {r : CoilSeq} (h : Restaged k s r q) (e : Ends q t) :
    onlyProtection s t ∧ r.sameButProve (t.coils.at k) ∧ (∀ j, j ≠ k → (s.coils.at j).sameButProve (t.coils.at j)) ∧
      onlyUnitMoved s t (s.cfg k).unit ∧ t.outputs = t.effective ∧ t.toldCoil k := by
  refine ⟨onlyProtection_of_ends e h.frame, ?_, fun j other => ?_, e.unitMoved h.unit, e.driven h.driven, e.toldCoil h.told⟩
  · rw [e.only.coils]
    exact h.own
  · rw [e.only.coils]
    exact (h.moves.others.1 j other).1

end

/-- The fields of a coil's record that pump proving leaves. -/
theorem sameButProve_fields {r r' : CoilSeq} (h : r.sameButProve r') : r'.stage = r.stage ∧ r'.settle = r.settle ∧
    r'.holdDown = r.holdDown ∧ r'.lockout = r.lockout ∧ r'.forced = r.forced ∧ r'.tripRecord = r.tripRecord ∧
    r'.history = r.history := by
  obtain ⟨p, n, rfl⟩ := sameButProve_iff.mp h
  exact ⟨rfl, rfl, rfl, rfl, rfl, rfl, rfl⟩

/-! ## Resets (R92, R99, R100) -/

/-- The state with coil `k`'s band CLEAR and its confirm count 0, E kept (R100). -/
def State.bandCleared (s : State) (k : Fin 6) : State := s.setExposure k { s.exposures.at k with band := .clear, confirm := 0 }

section
variable {s : State} {k : Fin 6}

theorem resetCoil_eq : s.resetCoil k = (s.bandCleared k).promote k .guard := rfl

theorem resetCoil_exposures : (s.resetCoil k).exposures =
    s.exposures.put k { s.exposures.at k with band := .clear, confirm := 0 } := promote_exposures _ k _

theorem resetCoil_store : (s.resetCoil k).store = s.store := promote_store _ k _

/-- An unforced coil reset returns to GUARD with its hold-down restarted, or past it to WATCH with a hold-down of 0 s. -/
theorem restaged_resetCoil (free : (s.coils.at k).forced = false) : Restaged k s (if 0 < (s.cfg k).holdDown
    then { s.coils.at k with stage := .guard, settle := 0, holdDown := some (s.cfg k).holdDown }
    else { s.coils.at k with stage := .watch, settle := 0, holdDown := none }) (s.resetCoil k) := by
  have cleared : Moves k (s.cfg k).unit s (s.bandCleared k) := Moves.refl.exposure _ fun h => ⟨(h k).1, Nat.zero_le 4⟩
  rw [resetCoil_eq]
  split
  · rename_i runs
    exact (restaged_promote (s := s.bandCleared k) .guard runs).after cleared rfl
  · rename_i zero
    have zero : ((s.bandCleared k).cfg k).holdDown = 0 := Nat.eq_zero_of_not_pos zero
    have promotes := restaged_promoted (k := k) (s := s.bandCleared k) .guard
    have band : (((s.bandCleared k).promoted k .guard).exposures.at k).band = .clear := by
      rw [promoted_exposures, State.bandCleared, State.setExposure_exposures, Tab.at_put_self]
    have demotes := promotes.demoted free rfl (by rw [band]; rfl)
    rw [band] at demotes
    rw [promote_zero _ zero]
    exact demotes.after cleared rfl

end

theorem resetReason_first {s : State} {k : Fin 6} (high : (s.cfg k).recover < (s.exposures.at k).e) : s.resetReason k = some 1 :=
  if_pos high

section
variable {s : State} {k : Fin 6} (low : (s.exposures.at k).e ≤ (s.cfg k).recover)
include low

theorem resetReason_blind (blind : (s.faces.at k).state = .blind) : s.resetReason k = some 2 :=
  (if_neg (by omega)).trans (if_pos blind)

theorem resetReason_cold (seen : (s.faces.at k).state ≠ .blind)
    (cold : ∀ h, (s.faces.at k).held = some h → h ≤ (s.cfg k).phi + 16) : s.resetReason k = some 3 := by
  refine (if_neg (by omega)).trans ((if_neg seen).trans ?_)
  cases e : (s.faces.at k).held with
  | none => rfl
  | some held => exact if_neg (Int.not_lt.mpr (cold held e))

theorem resetReason_none (seen : (s.faces.at k).state ≠ .blind) {h : Int} (held : (s.faces.at k).held = some h)
    (warm : (s.cfg k).phi + 16 < h) : s.resetReason k = none := by
  refine (if_neg (by omega)).trans ((if_neg seen).trans ?_)
  rw [held]
  exact if_pos warm

end

/-- TRIP-RESET of a tripped coil that is not forced answers by the remaining checks (R99). -/
theorem reqTripReset_tripped {s : State} {k : Fin 6} (present : (s.cfg k).present = true) (tripped : (s.coils.at k).stage = .tripped)
    (free : (s.coils.at k).forced = false) : reqTripReset (encNumber k) s =
      match s.resetReason k with
      | some reason => ⟨[8, reason], s⟩
      | none => ⟨[0, 0], s.resetCoil k⟩ := by
  unfold reqTripReset
  rw [decNumber_encNumber (by omega)]
  simp only [present, tripped, free]
  rfl

/-- Settles O43. -/
theorem tripResetChecksInOrderAndReturnsToGuard : Obligations.TripResetChecksInOrderAndReturnsToGuard := by
  intro s tag ready
  refine ⟨fun b out => arrive_refused ready ?_, fun k => ⟨fun absent => arrive_refused ready ?_,
    fun present locked => arrive_refused ready ?_, fun present open_ forced => arrive_refused ready ?_,
    fun present open_ free other => arrive_refused ready ?_, fun present tripped free => ⟨fun high => arrive_refused ready ?_,
    fun low blind => arrive_refused ready ?_, fun low seen cold => arrive_refused ready ?_, fun h low seen held warm => ?_⟩⟩⟩
  · change reqTripReset b s = _
    unfold reqTripReset
    rw [decNumber_eq_none out]
    rfl
  · change reqTripReset (encNumber k) s = _
    unfold reqTripReset
    rw [decNumber_encNumber (by omega)]
    simp only [absent]
    rfl
  · change reqTripReset (encNumber k) s = _
    unfold reqTripReset
    rw [decNumber_encNumber (by omega)]
    simp only [present, locked]
    rfl
  · change reqTripReset (encNumber k) s = _
    unfold reqTripReset
    rw [decNumber_encNumber (by omega)]
    simp only [present, open_, forced]
    rfl
  · change reqTripReset (encNumber k) s = _
    unfold reqTripReset
    rw [decNumber_encNumber (by omega)]
    simp only [present, open_, free, ne_eq, other]
    rfl
  · exact (reqTripReset_tripped present tripped free).trans (by rw [resetReason_first high])
  · exact (reqTripReset_tripped present tripped free).trans (by rw [resetReason_blind low blind])
  · exact (reqTripReset_tripped present tripped free).trans (by rw [resetReason_cold low seen cold])
  · have e : handleRequest ⟨0x20, tag, [encNumber k]⟩ s = ⟨[0, 0], s.resetCoil k⟩ :=
      (reqTripReset_tripped present tripped free).trans (by rw [resetReason_none low seen held warm])
    have restaged := restaged_resetCoil free
    obtain ⟨t, arrives, holds, ends⟩ := arrive_ends ready e (by rw [seqFrame_link restaged.frame])
    obtain ⟨whole, own, others, unit, driven, told, -, -⟩ := restaged.ends ends
    obtain ⟨stage, settle, holdDown, lockout, -, record, history⟩ := sameButProve_fields own
    refine ⟨t, arrives, holds, whole, ends.only.exposures.trans resetCoil_exposures, ?_, ?_, ?_, ?_, fun runs => ?_, fun zero => ?_,
      others, driven, ends.only.store.trans resetCoil_store, unit, ?_⟩
    · rw [record]
      split <;> rfl
    · rw [history]
      split <;> rfl
    · rw [lockout]
      split <;> rfl
    · rw [settle]
      split <;> rfl
    · rw [stage, holdDown, if_pos runs]
      exact ⟨rfl, rfl⟩
    · rw [stage, holdDown, if_neg (by omega)]
      exact ⟨rfl, rfl⟩
    · rw [told, State.tripCondition, stage]
      split <;> simp

/-! ## Forced stages (R102, R104) -/

theorem decForceStage_eq_none {b : Byte} (out : b.toNat < 2 ∨ 5 < b.toNat) : decForceStage b = none := by
  unfold decForceStage
  split <;> first | omega | rfl

section
variable {s : State} {k : Fin 6} (test : s.mode = .test)
include test

theorem reqForceStage_known {b : Byte} {st : CoilStage} (known : decForceStage b = some st) : reqForceStage (encNumber k) b s =
    if !(s.cfg k).present then answer .absent s
    else if (s.coils.at k).stage = .lockout then answer .locked s
    else answer .done ((s.writeCoil k
      { s.coils.at k with stage := st, forced := true, holdDown := none, settle := 0 }).coilMoved k) := by
  unfold reqForceStage
  rw [decNumber_encNumber (by omega), known]
  exact if_neg (by simp [test])

theorem reqReleaseStage_number : reqReleaseStage (encNumber k) s =
    if !(s.cfg k).present then answer .absent s
    else if !(s.coils.at k).forced then answer .notReady s
    else answer .done ((s.writeCoil k ((s.coils.at k).release (s.exposures.at k).band (s.cfg k).settleFrames)).coilMoved k) := by
  unfold reqReleaseStage
  rw [decNumber_encNumber (by omega)]
  exact if_neg (by simp [test])

end

theorem writeMoved_exposures (s : State) (k : Fin 6) (r : CoilSeq) : ((s.writeCoil k r).coilMoved k).exposures = s.exposures :=
  coilMoved_exposures _ k

theorem writeCoil_store (s : State) (k : Fin 6) (r : CoilSeq) : (s.writeCoil k r).store = s.store := rfl

theorem writeMoved_store (s : State) (k : Fin 6) (r : CoilSeq) : ((s.writeCoil k r).coilMoved k).store = s.store :=
  (coilMoved_store _ k).trans (writeCoil_store s k r)

/-- What the release of a forced stage gives (R104). -/
theorem release_fields (r : CoilSeq) (b : Band) (n : Nat) :
    (r.release b n).forced = false ∧ (r.release b n).holdDown = none ∧ (r.release b n).tripRecord = r.tripRecord ∧
      (r.release b n).history = r.history ∧ (r.release b n).lockout = r.lockout ∧
      (b = .trip → (r.release b n).stage = .tripped ∧ (r.release b n).settle = 0) ∧
      (b ≠ .trip → (r.release b n).stage = .settle ∧ (r.release b n).settle = n) := by
  unfold CoilSeq.release
  by_cases trip : b = .trip
  · rw [if_pos trip]
    exact ⟨rfl, rfl, rfl, rfl, rfl, fun _ => ⟨rfl, rfl⟩, fun other => absurd trip other⟩
  · rw [if_neg trip]
    exact ⟨rfl, rfl, rfl, rfl, rfl, fun same => absurd same trip, fun _ => ⟨rfl, rfl⟩⟩

/-- Settles O44. -/
theorem forcedStagesAreSetAndReleased : Obligations.ForcedStagesAreSetAndReleased := by
  intro s tag ready
  refine ⟨fun c st out => arrive_refused ready ?_, fun c out => arrive_refused ready ?_, fun k test => ⟨fun absent =>
    ⟨fun b low high => arrive_refused ready ?_, arrive_refused ready ?_⟩, fun present locked b low high => arrive_refused ready ?_,
    fun present free => arrive_refused ready ?_, fun st present unlocked stage => ?_, fun present forced => ?_⟩⟩
  · change reqForceStage c st s = _
    unfold reqForceStage
    have none : decNumber 6 c = none ∨ decForceStage st = none := by
      rcases out with out | out | out
      · exact .inl (decNumber_eq_none (.inl out))
      · exact .inl (decNumber_eq_none (.inr out))
      · exact .inr (decForceStage_eq_none out)
    rcases none with none | none
    · rw [none]
      rfl
    · rw [none]
      cases decNumber 6 c <;> rfl
  · change reqReleaseStage c s = _
    unfold reqReleaseStage
    rw [decNumber_eq_none out]
    rfl
  · obtain ⟨st, known⟩ := decForceStage_isSome low high
    exact (reqForceStage_known test known).trans (if_pos (by simp [absent]))
  · exact (reqReleaseStage_number test).trans (if_pos (by simp [absent]))
  · obtain ⟨st, known⟩ := decForceStage_isSome low high
    exact (reqForceStage_known test known).trans ((if_neg (by simp [present])).trans (if_pos locked))
  · exact (reqReleaseStage_number test).trans ((if_neg (by simp [present])).trans (if_pos (by simp [free])))
  · have restaged := restaged_writeMoved (s := s) (k := k)
      { s.coils.at k with stage := st, forced := true, holdDown := none, settle := 0 }
    have e : handleRequest ⟨0x22, tag, [encNumber k, st.code]⟩ s = ⟨[0], _⟩ :=
      (reqForceStage_known test (decForceStage_code stage)).trans ((if_neg (by simp [present])).trans (if_neg unlocked))
    obtain ⟨t, arrives, holds, ends⟩ := arrive_ends ready e (by rw [seqFrame_link restaged.frame])
    obtain ⟨whole, own, others, unit, driven, told, -, -⟩ := restaged.ends ends
    refine ⟨t, arrives, holds, whole, own, others, ends.only.exposures.trans (writeMoved_exposures s k _),
      ends.only.store.trans (writeMoved_store s k _), unit, driven, ?_⟩
    have cfg : t.cfg k = s.cfg k := (ends.only.cfg k).trans (cfg_of_frame restaged.frame k)
    rw [told, State.tripCondition, (sameButProve_fields own).1, cfg, present]
    rfl
  · have restaged := restaged_writeMoved (s := s) (k := k)
      ((s.coils.at k).release (s.exposures.at k).band (s.cfg k).settleFrames)
    have e : handleRequest ⟨0x23, tag, [encNumber k]⟩ s = ⟨[0], _⟩ :=
      (reqReleaseStage_number test).trans ((if_neg (by simp [present])).trans (if_neg (by simp [forced])))
    obtain ⟨t, arrives, holds, ends⟩ := arrive_ends ready e (by rw [seqFrame_link restaged.frame])
    obtain ⟨whole, own, others, unit, driven, -⟩ := restaged.ends ends
    obtain ⟨free, stopped, record, history, lockout, trip, open_⟩ :=
      release_fields (s.coils.at k) (s.exposures.at k).band (s.cfg k).settleFrames
    obtain ⟨stage', settle', holdDown', lockout', forced', record', history'⟩ := sameButProve_fields own
    rw [← stage', ← settle'] at trip open_
    rw [← lockout'] at lockout
    rw [← record'] at record
    rw [← history'] at history
    exact ⟨t, arrives, holds, whole, forced'.trans free, holdDown'.trans stopped, trip, open_, record, history, lockout, others,
      ends.only.exposures.trans (writeMoved_exposures s k _), ends.only.store.trans (writeMoved_store s k _), unit, driven⟩

/-! ## Trip entry (R93 to R95) -/

theorem validTemp_eq_bind (s : State) (c : Option (Fin 16)) : s.validTemp c =
    c.bind fun c => if (s.channels.at c).status = .ok then some (s.channels.at c).temperature else none := by
  cases c <;> rfl

/-- The record of coil `k` before its stage is written at trip entry. -/
def State.tripSeq (s : State) (k : Fin 6) (cause : TripCause) : CoilSeq :=
  { s.coils.at k with
    tripRecord := some (s.tripRecordOf k cause
      (tripHistory (s.coils.at k).history s.plantSeconds (s.cfg k).lockoutWindow (s.cfg k).lockoutLimit).length)
    history := tripHistory (s.coils.at k).history s.plantSeconds (s.cfg k).lockoutWindow (s.cfg k).lockoutLimit }

section
variable {s : State} {k : Fin 6} {cause : TripCause}

theorem tripEntry_below
    (below : (tripHistory (s.coils.at k).history s.plantSeconds (s.cfg k).lockoutWindow (s.cfg k).lockoutLimit).length <
      (s.cfg k).lockoutLimit) : s.tripEntry k cause =
      ((s.setBand k .trip).writeCoil k ((s.tripSeq k cause).enter .tripped (s.cfg k).settleFrames)).coilMoved k := if_pos below

theorem tripEntry_reached
    (reached : ¬ (tripHistory (s.coils.at k).history s.plantSeconds (s.cfg k).lockoutWindow (s.cfg k).lockoutLimit).length <
      (s.cfg k).lockoutLimit) : s.tripEntry k cause =
      (((s.setBand k .trip).writeCoil k
        ({ s.tripSeq k cause with lockout := true }.enter .lockout (s.cfg k).settleFrames)).lockoutChange).coilMoved k := if_neg reached

theorem setBand_moves (b : Band) : Moves k (s.cfg k).unit s (s.setBand k b) := moves_setBand k s _ b

theorem toldCoil_setStore {s : State} {k : Fin 6} (h : s.toldCoil k) (t : Store) : (s.setStore t).toldCoil k := h

/-- A lockout change between a stage's write and what follows from it. -/
theorem restaged_locked (r : CoilSeq) : Restaged k s r ((s.writeCoil k r).lockoutChange.coilMoved k) := by
  refine restaged_coilMoved (moves_writeCoil k s r).lockout ?_ ?_ ?_
  · rw [lockoutChange_eq, State.setStore_coils]
    exact writeCoil_own s k r
  · rw [lockoutChange_eq, State.setStore_units]
    exact writeCoil_units s k r
  · rw [lockoutChange_eq]
    exact toldCoil_setStore (toldCoil_writeCoil s k r) _

theorem restaged_tripEntry : Restaged k s
    (if (tripHistory (s.coils.at k).history s.plantSeconds (s.cfg k).lockoutWindow (s.cfg k).lockoutLimit).length <
        (s.cfg k).lockoutLimit
      then (s.tripSeq k cause).enter .tripped (s.cfg k).settleFrames
      else { s.tripSeq k cause with lockout := true }.enter .lockout (s.cfg k).settleFrames) (s.tripEntry k cause) := by
  split
  · rename_i below
    rw [tripEntry_below below]
    exact (restaged_writeMoved (s := s.setBand k .trip) _).after (setBand_moves .trip) rfl
  · rename_i reached
    rw [tripEntry_reached reached]
    exact (restaged_locked (s := s.setBand k .trip) _).after (setBand_moves .trip) rfl

theorem tripEntry_exposures : (s.tripEntry k cause).exposures = s.exposures.put k { s.exposures.at k with band := .trip } := by
  by_cases below : (tripHistory (s.coils.at k).history s.plantSeconds (s.cfg k).lockoutWindow (s.cfg k).lockoutLimit).length <
      (s.cfg k).lockoutLimit
  · rw [tripEntry_below below]
    exact writeMoved_exposures (s.setBand k .trip) k _
  · rw [tripEntry_reached below, coilMoved_exposures, lockoutChange_eq]
    rfl

theorem tripEntry_store_below
    (below : (tripHistory (s.coils.at k).history s.plantSeconds (s.cfg k).lockoutWindow (s.cfg k).lockoutLimit).length <
      (s.cfg k).lockoutLimit) : (s.tripEntry k cause).store = s.store := by
  rw [tripEntry_below below]
  exact writeMoved_store (s.setBand k .trip) k _

/-- The area PROGRAM that a lockout starts takes the flags with coil `k`'s set (R20, R95). -/
theorem tripEntry_store_reached
    (reached : ¬ (tripHistory (s.coils.at k).history s.plantSeconds (s.cfg k).lockoutWindow (s.cfg k).lockoutLimit).length <
      (s.cfg k).lockoutLimit) :
    (s.store.job = none → (s.tripEntry k cause).store = { s.store with job := some ⟨.lockoutWrite, .areaProgram (Tab.build fun j =>
      if j = k then true else (s.coils.at j).lockout)⟩ }) ∧
    (∀ j, s.store.job = some j → (s.tripEntry k cause).store = { s.store with pendingLockout := true }) := by
  rw [tripEntry_reached reached, coilMoved_store]
  generalize hq : ({ s.tripSeq k cause with lockout := true } : CoilSeq).enter .lockout (s.cfg k).settleFrames = r
  have flag : r.lockout = true := by rw [← hq]; rfl
  have flags : ((s.setBand k .trip).writeCoil k r).lockoutFlags = Tab.build fun j => if j = k then true else (s.coils.at j).lockout := by
    refine Tab.ext_at fun j => ?_
    rw [Tab.at_build]
    refine (Tab.at_each _ _ _).trans ?_
    change ((s.coils.put k r).at j).lockout = _
    rw [Tab.at_put]
    split
    · exact flag
    · rfl
  have store : ((s.setBand k .trip).writeCoil k r).store = s.store := writeCoil_store (s.setBand k .trip) k r
  rcases lockoutChange_cases ((s.setBand k .trip).writeCoil k r) with ⟨idle, e⟩ | ⟨j, busy, e⟩
  · rw [e, State.setStore_store, State.lockoutJob, flags, store]
    refine ⟨fun _ => rfl, fun j job => ?_⟩
    rw [store, job] at idle
    cases idle
  · rw [e, State.setStore_store, store]
    refine ⟨fun idle => ?_, fun _ _ => rfl⟩
    rw [store, idle] at busy
    cases busy

end

/-- Settles O54. -/
theorem tripEntryCapturesAndLocksOut : Obligations.TripEntryCapturesAndLocksOut := by
  intro s k cause young kept hyoung hkept t ht
  have history : tripHistory (s.coils.at k).history s.plantSeconds (s.cfg k).lockoutWindow (s.cfg k).lockoutLimit =
      kept ++ [s.plantSeconds] := by
    unfold tripHistory ageOf
    dsimp only
    rw [← hyoung, hkept, List.drop_one]
    by_cases room : young.length < (s.cfg k).lockoutLimit
    · rw [if_pos room, if_neg (by omega)]
    · rw [if_neg room, if_pos (by omega)]
  have restaged := restaged_tripEntry (s := s) (k := k) (cause := cause)
  have exposures := tripEntry_exposures (s := s) (k := k) (cause := cause)
  have below := tripEntry_store_below (s := s) (k := k) (cause := cause)
  have reached := tripEntry_store_reached (s := s) (k := k) (cause := cause)
  have seq : s.tripSeq k cause = { s.coils.at k with
      tripRecord := some (s.tripRecordOf k cause (kept.length + 1)), history := kept ++ [s.plantSeconds] } := by
    rw [State.tripSeq, history, List.length_append]
    rfl
  rw [history, seq, ← ht] at restaged
  rw [history, ← ht] at below reached
  rw [← ht] at exposures
  rw [List.length_append, List.length_singleton] at restaged below reached
  obtain ⟨trip, lockout, -⟩ := restaged.told
  obtain ⟨stage, settle, holdDown, lock, forced, record, hist⟩ := sameButProve_fields restaged.own
  have cfg := cfg_of_frame restaged.frame k
  rw [State.tripCondition, cfg, stage] at trip
  rw [State.lockoutCondition, cfg, stage] at lockout
  rw [stage, settle, holdDown, lock, forced, record, hist, trip, lockout, ← validTemp_eq_bind, ← validTemp_eq_bind]
  refine ⟨onlyProtection_of_frame restaged.frame, ?_, ?_, exposures, ?_, ?_, ?_, fun low => ?_, fun high => ?_,
    fun j other => (restaged.moves.others.1 j other).1, restaged.driven, restaged.unit, ?_, ?_⟩
  · split <;> rfl
  · split <;> rfl
  · split <;> rfl
  · split <;> rfl
  · split <;> rfl
  · rw [if_pos low]
    exact ⟨rfl, rfl, below low⟩
  · have high : ¬ kept.length + 1 < (s.cfg k).lockoutLimit := by omega
    obtain ⟨idle, busy⟩ := reached high
    rw [if_neg high]
    exact ⟨rfl, rfl, idle, busy⟩
  · split <;> rename_i h <;> simp [h, CoilSeq.enter]
  · split <;> rename_i h <;> simp [h, CoilSeq.enter]

end Sys2Proof.Machine
end

section
/-! PROOF. The coil's timers, and a pump that fails (O55). -/

namespace Sys2Proof.Machine

open Sys2Proof

/-! ## A pump that does not turn (R97) -/

theorem setProve_coils (s : State) (k : Fin 6) (p : Prove) (n : Option Nat) :
    (s.setProve k p n).coils = s.coils.put k { s.coils.at k with prove := p, proveTimer := n } := rfl

theorem pumpTurned_other (s : State) {j k : Fin 6} (other : k ≠ j) (on : Bool) : (s.pumpTurned j on).coils.at k = s.coils.at k := by
  have set (p : Prove) (n : Option Nat) : (s.setProve j p n).coils.at k = s.coils.at k := by
    rw [setProve_coils, Tab.at_put_of_ne _ _ other]
  unfold State.pumpTurned
  split
  · split
    · split
      · exact set _ _
      · exact set _ _
    · rfl
    · rfl
    · rfl
    · rfl
    · exact set _ _
    · exact set _ _
    · exact set _ _
  · rfl

/-- A recompute that keeps coil `k`'s pump output leaves the coil's record. -/
theorem recompute_coil_still {s : State} {k : Fin 6} (still : s.effective.pumps.at k = s.outputs.pumps.at k) :
    s.recompute.coils.at k = s.coils.at k := by
  have fold (l : List (Fin 6)) (t : State) (outputs : t.outputs = s.effective) :
      (l.foldl (handPump s.outputs) t).coils.at k = t.coils.at k := by
    induction l generalizing t with
    | nil => rfl
    | cons j l ih =>
      rw [List.foldl_cons, ih _ ((proveFrame_outputs (proveFrame_handPump _ _ _)).trans outputs)]
      unfold handPump
      split
      · rfl
      · rename_i turns
        exact pumpTurned_other t (fun same => turns (by rw [outputs, ← same]; exact still)) _
  exact fold allCoils (s.setOutputs s.effective) rfl

/-- Coil `k`'s pump is computed from its stage's demand, the forced flags and what lies outside the sequencers. -/
theorem pumps_of_demand {s q : State} {k : Fin 6} (frame : seqFrame s q) (forced : ∀ j, (q.coils.at j).forced = (s.coils.at j).forced)
    (demand : (q.coils.at k).stage.pumpDemand = (s.coils.at k).stage.pumpDemand) :
    q.effective.pumps.at k = s.effective.pumps.at k := by
  by_cases fallback : s.mode = .fallback
  · have fallback' : q.mode = .fallback := (seqFrame_mode frame).trans fallback
    rw [State.effective, State.effective, fallback, fallback']
  · rw [effective_merged fallback, effective_merged (by rw [seqFrame_mode frame]; exact fallback)]
    simp only [Tab.at_build, State.pumpOf, State.coilProtected, State.unitProtected, State.coilOf, cfg_of_frame frame, forced, demand,
      State.hostOn, State.hostValue, seqFrame_demands frame, seqFrame_tables frame, seqFrame_mode frame]

theorem coilMoved_coil_still {q : State} {k : Fin 6} (still : q.effective.pumps.at k = q.outputs.pumps.at k) :
    (q.coilMoved k).coils.at k = q.coils.at k := by
  have frame := unitFrame_unitEvent (q.cfg k).unit q
  have coils : (q.unitEvent (q.cfg k).unit).coils = q.coils := by rw [frame.1]
  have outputs : (q.unitEvent (q.cfg k).unit).outputs = q.outputs := by rw [frame.1]
  unfold State.coilMoved
  rw [recompute_coil_still (by rw [unitFrame_pumps frame, outputs]; exact still), coils]

/-- A record of coil `k` with the forced flag and the pump demand of the old one turns no pump of the coil. -/
theorem coilMoved_keeps {s q : State} {k : Fin 6} {r : CoilSeq} (driven : s.outputs = s.effective) (frame : seqFrame s q)
    (outputs : q.outputs = s.outputs) (coils : q.coils = s.coils.put k r) (forced : r.forced = (s.coils.at k).forced)
    (demand : r.stage.pumpDemand = (s.coils.at k).stage.pumpDemand) : (q.coilMoved k).coils.at k = r := by
  have record (j : Fin 6) : (q.coils.at j).forced = (s.coils.at j).forced := by
    rw [coils, Tab.at_put]
    split
    · rename_i own
      rw [own, forced]
    · rfl
  have own : q.coils.at k = r := by rw [coils, Tab.at_put_self]
  rw [coilMoved_coil_still (by rw [pumps_of_demand frame record (by rw [own]; exact demand), outputs, driven]), own]

theorem writeCoil_coils (s : State) (k : Fin 6) (r : CoilSeq) : (s.writeCoil k r).coils = s.coils.put k r := rfl
theorem writeCoil_outputs (s : State) (k : Fin 6) (r : CoilSeq) : (s.writeCoil k r).outputs = s.outputs := rfl

theorem writeMoved_keeps {s : State} {k : Fin 6} {r : CoilSeq} (driven : s.outputs = s.effective)
    (forced : r.forced = (s.coils.at k).forced) (demand : r.stage.pumpDemand = (s.coils.at k).stage.pumpDemand) :
    ((s.writeCoil k r).coilMoved k).coils.at k = r :=
  coilMoved_keeps driven (seqFrame_writeCoil s k r) (writeCoil_outputs s k r) (writeCoil_coils s k r) forced demand

theorem setBand_effective (s : State) (k : Fin 6) (b : Band) : (s.setBand k b).effective = s.effective := rfl

/-- At trip entry from a stage that demands the pump, the coil's record is written as it stands. -/
theorem tripEntry_own {s : State} {k : Fin 6} {cause : TripCause} (driven : s.outputs = s.effective)
    (demand : (s.coils.at k).stage.pumpDemand = true) : (s.tripEntry k cause).coils.at k =
      if (tripHistory (s.coils.at k).history s.plantSeconds (s.cfg k).lockoutWindow (s.cfg k).lockoutLimit).length <
          (s.cfg k).lockoutLimit
        then (s.tripSeq k cause).enter .tripped (s.cfg k).settleFrames
        else { s.tripSeq k cause with lockout := true }.enter .lockout (s.cfg k).settleFrames := by
  have driven : (s.setBand k .trip).outputs = (s.setBand k .trip).effective := driven.trans (setBand_effective s k .trip).symm
  split
  · rename_i below
    rw [tripEntry_below below]
    exact writeMoved_keeps driven rfl demand.symm
  · rename_i reached
    rw [tripEntry_reached reached]
    refine coilMoved_keeps driven (seqFrame_trans (seqFrame_writeCoil _ k _) (seqFrame_lockoutChange _)) ?_ ?_ rfl demand.symm
    · rw [lockoutChange_eq, State.setStore_outputs, writeCoil_outputs]
    · rw [lockoutChange_eq, State.setStore_coils, writeCoil_coils]

/-! ## A pump that fails (R97, R98) -/

/-- The state with coil `k`'s pump failed, before the escalation. -/
def State.pumpFailed (s : State) (k : Fin 6) : State := s.setProve k .failed none

section
variable {s : State} {k : Fin 6}

theorem pumpFails_eq : s.pumpFails k = (s.pumpFailed k).escalate k := rfl

theorem pumpFailed_moves : Moves k (s.cfg k).unit s (s.pumpFailed k) := moves_setProve k _ s k .failed none

theorem pumpFailed_own : (s.pumpFailed k).coils.at k = { s.coils.at k with prove := .failed, proveTimer := none } := by
  rw [State.pumpFailed, setProve_coils, Tab.at_put_self]

theorem pumpFailed_units : (s.pumpFailed k).units = s.units := rfl
theorem pumpFailed_exposures : (s.pumpFailed k).exposures = s.exposures := rfl

theorem pumpFailed_driven (driven : s.outputs = s.effective) : (s.pumpFailed k).outputs = (s.pumpFailed k).effective :=
  driven.trans (steady_of_proveFrame (proveFrame_setProve s k .failed none)).effective.symm

theorem pumpFailed_told (present : (s.cfg k).present = true) : (s.pumpFailed k).told (srcPumpFail k) = true := by
  rw [State.pumpFailed, setProve_eq, told_handLevel_self, present]
  rfl

/-- A forced coil, and one whose stage does not escalate, keep their stage (R98). -/
theorem pumpFails_stands (h : (s.coils.at k).forced = true ∨ (s.coils.at k).stage = .watch ∨ (s.coils.at k).stage = .tripped ∨
    (s.coils.at k).stage = .lockout ∨ (s.coils.at k).stage = .idle) : s.pumpFails k = s.pumpFailed k := by
  rw [pumpFails_eq, State.escalate, pumpFailed_own]
  dsimp only
  by_cases forced : (s.coils.at k).forced = true
  · exact if_pos forced
  · rw [if_neg forced]
    rcases h with forced' | stage | stage | stage | stage
    · exact absurd forced' forced
    all_goals rw [stage]

section
variable (free : (s.coils.at k).forced = false)
include free

theorem pumpFails_guard (guard : (s.coils.at k).stage = .guard) : s.pumpFails k = (s.pumpFailed k).promote k .boost := by
  rw [pumpFails_eq, State.escalate, pumpFailed_own]
  dsimp only
  rw [free, guard]
  rfl

theorem pumpFails_trips (stage : (s.coils.at k).stage = .boost ∨ (s.coils.at k).stage = .settle) :
    s.pumpFails k = (s.pumpFailed k).tripEntry k .pump := by
  rw [pumpFails_eq, State.escalate, pumpFailed_own]
  dsimp only
  rw [free]
  rcases stage with stage | stage <;> rw [stage] <;> rfl

/-- The escalation from GUARD with a hold-down that runs: BOOST, with the pump's failure kept. -/
theorem pumpFails_boosts (driven : s.outputs = s.effective) (guard : (s.coils.at k).stage = .guard) (runs : 0 < (s.cfg k).holdDown) :
    Restaged k s { s.coils.at k with
      prove := .failed, proveTimer := none, stage := .boost, settle := 0, holdDown := some (s.cfg k).holdDown } (s.pumpFails k) ∧
    (s.pumpFails k).coils.at k = { s.coils.at k with
      prove := .failed, proveTimer := none, stage := .boost, settle := 0, holdDown := some (s.cfg k).holdDown } ∧
    (s.pumpFails k).exposures = s.exposures := by
  have cfg : (s.pumpFailed k).cfg k = s.cfg k := cfg_of_frame pumpFailed_moves.frame k
  have restaged := restaged_promote (s := s.pumpFailed k) (k := k) .boost (by rw [cfg]; exact runs)
  have acts : (s.pumpFailed k).promote k .boost = ((s.pumpFailed k).writeCoil k
      { ((s.pumpFailed k).coils.at k).enter .boost ((s.pumpFailed k).cfg k).settleFrames with
        holdDown := some ((s.pumpFailed k).cfg k).holdDown }).coilMoved k := if_neg (by rw [cfg]; omega)
  have own := writeMoved_keeps (k := k) (r := { ((s.pumpFailed k).coils.at k).enter .boost ((s.pumpFailed k).cfg k).settleFrames with
    holdDown := some ((s.pumpFailed k).cfg k).holdDown }) (pumpFailed_driven driven) rfl (by rw [pumpFailed_own, guard]; rfl)
  rw [← acts] at own
  rw [cfg, pumpFailed_own] at restaged own
  rw [pumpFails_guard free guard]
  exact ⟨restaged.after pumpFailed_moves pumpFailed_units, own, (promote_exposures _ k _).trans pumpFailed_exposures⟩

/-- The escalation from GUARD with a hold-down of 0 s: BOOST, and at once the stage that matches a band below it. -/
theorem pumpFails_boosts_zero (guard : (s.coils.at k).stage = .guard) (zero : (s.cfg k).holdDown = 0) :
    ∃ r, Restaged k s r (s.pumpFails k) ∧ r.stage = (match (s.exposures.at k).band with
        | .clear => CoilStage.watch | .advise1 => .guard | .advise2 => .boost | .trip => .boost) ∧
      r.holdDown = none ∧ (s.pumpFails k).exposures = s.exposures := by
  have cfg : (s.pumpFailed k).cfg k = s.cfg k := cfg_of_frame pumpFailed_moves.frame k
  have restaged := restaged_promoted (s := s.pumpFailed k) (k := k) .boost
  have exposures := (promoted_exposures (s := s.pumpFailed k) (k := k) .boost).trans pumpFailed_exposures
  rw [cfg, pumpFailed_own] at restaged
  rw [pumpFails_guard free guard, promote_zero _ (by rw [cfg]; exact zero)]
  cases below : belowStage .boost (s.exposures.at k).band
  · have stands := restaged.undemoted (.inr (.inr (by rw [exposures]; exact below)))
    rw [stands]
    refine ⟨_, restaged.after pumpFailed_moves pumpFailed_units, ?_, rfl, exposures⟩
    cases band : (s.exposures.at k).band with
    | clear => rw [band] at below; cases below
    | advise1 => rw [band] at below; cases below
    | advise2 => rfl
    | trip => rfl
  · have demotes := restaged.demoted free rfl (by rw [exposures]; exact below)
    refine ⟨_, demotes.after pumpFailed_moves pumpFailed_units, ?_, ?_, (demote_exposures _ k).trans exposures⟩
    · rw [exposures]
      cases band : (s.exposures.at k).band with
      | clear => rfl
      | advise1 => rfl
      | advise2 => rw [band] at below; cases below
      | trip => rw [band] at below; cases below
    · rw [exposures]
      cases (s.exposures.at k).band <;> rfl

/-- The escalation from BOOST or SETTLE: trip entry with cause PUMP, with the pump's failure kept. -/
theorem pumpFails_tripEntry (driven : s.outputs = s.effective)
    (stage : (s.coils.at k).stage = .boost ∨ (s.coils.at k).stage = .settle) :
    ∃ r, Restaged k s r (s.pumpFails k) ∧ (s.pumpFails k).coils.at k = r ∧ r.prove = .failed ∧ r.proveTimer = none ∧
      (r.stage = .tripped ∨ r.stage = .lockout) ∧
      (s.pumpFails k).exposures = s.exposures.put k { s.exposures.at k with band := .trip } ∧
      ∃ rec, r.tripRecord = some rec ∧ rec.cause = .pump ∧ rec.stageLeft = (s.coils.at k).stage ∧ rec.second = s.plantSeconds := by
  have demand : ((s.pumpFailed k).coils.at k).stage.pumpDemand = true := by
    rw [pumpFailed_own]
    rcases stage with stage | stage <;> simp [stage, CoilStage.pumpDemand]
  have restaged := restaged_tripEntry (s := s.pumpFailed k) (k := k) (cause := .pump)
  have own := tripEntry_own (cause := .pump) (pumpFailed_driven driven) demand
  rw [pumpFails_trips free stage]
  refine ⟨_, restaged.after pumpFailed_moves pumpFailed_units, own, ?_, ?_, ?_, tripEntry_exposures, ?_⟩
  · split <;> simp [CoilSeq.enter, State.tripSeq, pumpFailed_own]
  · split <;> simp [CoilSeq.enter, State.tripSeq, pumpFailed_own]
  · split
    · exact .inl rfl
    · exact .inr rfl
  · have left : ((s.pumpFailed k).coils.at k).stage = (s.coils.at k).stage := by rw [pumpFailed_own]
    split
    · exact ⟨_, rfl, rfl, left, rfl⟩
    · exact ⟨_, rfl, rfl, left, rfl⟩

end

end

/-! ## The coil's timers (R92, R97) -/

theorem settled_setCoil {s : State} (k : Fin 6) (r : CoilSeq) (h : s.settled) : (s.setCoil k r).settled := h

/-- The state with coil `k`'s hold-down timer stopped. -/
def State.holdDownStopped (s : State) (k : Fin 6) : State := s.setCoil k { s.coils.at k with holdDown := none }

theorem holdDownStopped_own (s : State) (k : Fin 6) :
    (s.holdDownStopped k).coils.at k = { s.coils.at k with holdDown := none } := Tab.at_put_self _ _ _

theorem holdDownStopped_exposures (s : State) (k : Fin 6) : (s.holdDownStopped k).exposures = s.exposures := rfl

theorem holdDownExpires_eq {s : State} {k : Fin 6} {n : Nat} (runs : (s.coils.at k).holdDown = some n) :
    s.holdDownExpires k = (s.holdDownStopped k).demote k := by
  unfold State.holdDownExpires
  dsimp only
  rw [runs]
  rfl

theorem proveExpires_eq {s : State} {k : Fin 6} {n : Nat} (proving : (s.coils.at k).prove = .proving)
    (runs : (s.coils.at k).proveTimer = some n) : s.proveExpires k = s.pumpFails k := by
  unfold State.proveExpires
  rw [proving, runs]

/-- Settles O55. -/
theorem coilTimersDemoteAndEscalate : Obligations.CoilTimersDemoteAndEscalate := by
  intro s k running settled
  refine ⟨fun stopped => ?_, fun n runs => ⟨fun stands => ?_, fun free below => ?_⟩, fun idle => ?_,
    fun n proving runs present driven => ?_⟩
  · refine whileRunning_settled (act := (State.holdDownExpires · k)) running ?_ settled
    unfold State.holdDownExpires
    dsimp only
    rw [stopped]
  · refine whileRunning_settled (act := (State.holdDownExpires · k)) running ?_ (settled_setCoil k _ settled)
    refine (holdDownExpires_eq runs).trans (demote_stands ?_)
    rw [holdDownStopped_own, holdDownStopped_exposures]
    rcases stands with forced | stage | band | band | ⟨stage, band⟩
    · exact .inl forced
    · refine .inr (.inr ?_)
      dsimp only
      cases e : (s.coils.at k).stage <;> first | rfl | simp [e] at stage
    · refine .inr (.inr ?_)
      rw [band]
      dsimp only
      cases (s.coils.at k).stage <;> rfl
    · refine .inr (.inr ?_)
      rw [band]
      dsimp only
      cases (s.coils.at k).stage <;> rfl
    · refine .inr (.inr ?_)
      dsimp only
      rw [band, stage]
      rfl
  · obtain ⟨t, next, ends⟩ := whileRunning_ends running (State.holdDownExpires · k)
    have acts : s.holdDownExpires k = (s.holdDownStopped k).enterStage k (s.exposures.at k).band.stage := by
      refine (holdDownExpires_eq runs).trans (demote_acts ?_ ?_ ?_)
      · rw [holdDownStopped_own]
        exact free
      · rw [holdDownStopped_own]
      · rw [holdDownStopped_own, holdDownStopped_exposures]
        dsimp only
        rcases below with ⟨stage | stage, band⟩ | ⟨stage, band⟩ <;> rw [stage, band] <;> rfl
    have restaged := (restaged_enterStage (s := s.holdDownStopped k) (k := k) (s.exposures.at k).band.stage).after
      (s := s) (Moves.refl.coil _) rfl
    rw [holdDownStopped_own] at restaged
    rw [acts] at ends
    obtain ⟨whole, own, others, unit, driven, -⟩ := restaged.ends ends
    refine ⟨t, next, whole, ends.only.exposures.trans (enterStage_exposures _ k _), ends.only.store.trans (enterStage_store _ k _), ?_,
      others, unit, driven⟩
    have bands : (s.exposures.at k).band = .clear ∨ (s.exposures.at k).band = .advise1 := below.imp And.right And.right
    rcases bands with band | band
    · rw [if_pos band]
      rw [band] at own
      exact own
    · rw [if_neg (by rw [band]; decide)]
      rw [band] at own
      exact own
  · refine whileRunning_settled (act := (State.proveExpires · k)) running ?_ settled
    unfold State.proveExpires
    split
    · rename_i proving some
      simp [proving, some] at idle
    · rfl
  · obtain ⟨t, next, ends⟩ := whileRunning_ends running (State.proveExpires · k)
    rw [proveExpires_eq proving runs] at ends
    have coils := ends.only.coils
    have cfg (q : State) (frame : seqFrame s q) (e : Ends q t) : t.pumpFailCondition k = ((t.coils.at k).prove == .failed) := by
      rw [State.pumpFailCondition, e.only.cfg, cfg_of_frame frame, present]
      rfl
    have cfg := cfg _ (moves_pumpFails k s).frame ends
    refine ⟨t, next, onlyProtection_of_ends ends (moves_pumpFails k s).frame, fun stands => ?_, fun free guard runs => ?_,
      fun free guard zero => ?_, fun free stage => ?_⟩
    · rw [pumpFails_stands stands] at ends
      have told := ends.told (srcPumpFail k)
      exact ⟨ends.only.coils, told.trans (pumpFailed_told present), ends.only.exposures, ends.only.outputs, ends.only.units⟩
    · obtain ⟨restaged, own, exposures⟩ := pumpFails_boosts free driven guard runs
      obtain ⟨-, -, -, unit, driven, -, -, pump⟩ := restaged.ends ends
      rw [pump, cfg, coils, own]
      exact ⟨rfl, rfl, rfl, rfl, rfl, rfl, ends.only.exposures.trans exposures, driven, unit⟩
    · obtain ⟨r, restaged, stage, stopped, exposures⟩ := pumpFails_boosts_zero free guard zero
      obtain ⟨-, own, -, unit, driven, -, -, pump⟩ := restaged.ends ends
      obtain ⟨stage', -, holdDown', -⟩ := sameButProve_fields own
      refine ⟨pump, stage'.trans (stage.trans ?_), holdDown'.trans stopped, ends.only.exposures.trans exposures, driven, unit⟩
      cases (s.exposures.at k).band <;> rfl
    · obtain ⟨r, restaged, own, failed, stopped, tripped, exposures, record⟩ := pumpFails_tripEntry free driven stage
      obtain ⟨-, -, -, unit, driven, -, -, pump⟩ := restaged.ends ends
      have band := ends.only.exposures.trans exposures
      rw [pump, cfg, coils, own, band, Tab.at_put_self]
      exact ⟨failed, stopped, by rw [failed]; rfl, tripped, rfl, rfl, driven, unit, record⟩

end Sys2Proof.Machine
end

section
/-! PROOF. Debounced changes at the blocks that use them (O58). -/

namespace Sys2Proof.Machine

open Sys2Proof

/-! ## Where an input's change goes (R8, R138) -/

theorem deliver_flow (s : State) (k : Fin 6) : s.deliver (flowInput k) = s.flowEvent k (s.flow k) := dif_pos k.isLt

theorem deliver_damper (s : State) (u : Fin 3) :
    s.deliver (damperInput u) = (s.proofEvent u true (s.damperProof u)).recompute := by
  have high : ¬ (damperInput u).val < 6 := by simp [damperInput]
  have low : (damperInput u).val < 9 := by simp only [damperInput]; omega
  refine (dif_neg high).trans ((dif_pos low).trans ?_)
  rw [show (⟨(damperInput u).val - 6, by omega⟩ : Fin 3) = u from Fin.ext (by simp [damperInput])]
  rfl

theorem deliver_fan (s : State) (u : Fin 3) : s.deliver (fanInput u) = (s.proofEvent u false (s.fanProof u)).recompute := by
  have high : ¬ (fanInput u).val < 9 := by simp [fanInput]
  have low : (fanInput u).val < 12 := by simp only [fanInput]; omega
  refine (dif_neg (by omega)).trans ((dif_neg high).trans ((dif_pos low).trans ?_))
  rw [show (⟨(fanInput u).val - 9, by omega⟩ : Fin 3) = u from Fin.ext (by simp [fanInput])]
  rfl

theorem deliver_reset (s : State) {u : Fin 3} {i : Fin 15} (hi : i.val = 12 + u.val) :
    s.deliver i = if (s.inputs.at i).debounced then s.localReset u else s := by
  refine (dif_neg (by omega)).trans ((dif_neg (by omega)).trans ((dif_neg (by omega)).trans ?_))
  rw [show (⟨i.val - 12, by omega⟩ : Fin 3) = u from Fin.ext (by simp [hi])]

/-! ## FLOW (R97) -/

section
variable {s : State} {k : Fin 6} (present : (s.cfg k).present = true)
include present

theorem flowEvent_proves (flows : s.flow k = true) (h : (s.coils.at k).prove = .proving ∨ (s.coils.at k).prove = .failed) :
    s.flowEvent k (s.flow k) = s.setProve k .proven none := by
  refine (if_pos present).trans ?_
  rcases h with h | h <;> rw [h, flows]

theorem flowEvent_fails (dry : s.flow k = false) (proven : (s.coils.at k).prove = .proven) :
    s.flowEvent k (s.flow k) = s.pumpFails k := by
  refine (if_pos present).trans ?_
  rw [proven, dry]

theorem flowEvent_stands (h : (s.coils.at k).prove = .off ∨
    (s.flow k = false ∧ ((s.coils.at k).prove = .proving ∨ (s.coils.at k).prove = .failed)) ∨
    (s.flow k = true ∧ (s.coils.at k).prove = .proven)) : s.flowEvent k (s.flow k) = s := by
  refine (if_pos present).trans ?_
  rcases h with off | ⟨dry, h | h⟩ | ⟨flows, proven⟩
  · rw [off]
  · rw [h, dry]
  · rw [h, dry]
  · rw [proven, flows]

end

/-! ## The two proofs (R114 to R117) -/

theorem enterSecured_units (s : State) (u : Fin 3) : (s.enterSecured u).units = s.units.put u { s.units.at u with
    stage := .secured, stroke := none, fan := none, missingDamper := false, missingFan := false } := rfl

theorem enterSecureFault_units (s : State) (u : Fin 3) : (s.enterSecureFault u).units = s.units.put u { s.units.at u with
    stage := .secureFault, stroke := none, fan := none, missingDamper := !s.damperProof u, missingFan := !s.fanProof u } := rfl

/-- The entry to SECURED raises its source and tells that no SECURE_FAULT stands (R115). -/
theorem enterSecured_alerts (s : State) (u : Fin 3) : (s.enterSecured u).told (srcSecureFault u) = false ∧
    ((s.alerts.sources.at (srcSecured u)).membership = .none →
      ((s.enterSecured u).alerts.sources.at (srcSecured u)).membership = .pending) := by
  refine ⟨?_, fun none => raiseEdge_pending ?_⟩
  · unfold State.enterSecured State.handSecureFault
    rw [told_raiseEdge, told_handLevel_self]
    simp [State.secureFaultCondition]
  · refine (congrArg SourceRec.membership (Alerts.handLevel_other _ ?_ _)).trans none
    simp [srcSecured, srcSecureFault]

theorem enterSecureFault_told (s : State) (u : Fin 3) : (s.enterSecureFault u).told (srcSecureFault u) = true := by
  unfold State.enterSecureFault State.handSecureFault
  rw [told_handLevel_self]
  simp [State.secureFaultCondition]

/-- A recompute tells PUMP_FAIL alone. -/
theorem recompute_source (s : State) {y : Fin 65} (other : ∀ k, y ≠ srcPumpFail k) :
    s.recompute.alerts.sources.at y = s.alerts.sources.at y := (proves_recompute s).membership y other

theorem put_put {α : Type} {n : Nat} (t : Tab α n) (k : Fin n) (a b : α) : (t.put k a).put k b = t.put k b :=
  Tab.ext_at fun j => by
    simp only [Tab.at_put]
    split <;> rfl

section
variable {s : State} {u : Fin 3} (damper present : Bool)

theorem proofEvent_secures (closing : (s.units.at u).stage = .closing) (damperIn : s.damperProof u = true)
    (fanIn : s.fanProof u = true) : s.proofEvent u damper present = s.enterSecured u := by
  simp [State.proofEvent, closing, damperIn, fanIn]

theorem proofEvent_waits (closing : (s.units.at u).stage = .closing) (missing : s.damperProof u = false ∨ s.fanProof u = false) :
    s.proofEvent u damper present = s := by
  rcases missing with missing | missing <;> simp [State.proofEvent, closing, missing]

theorem proofEvent_faults (secured : (s.units.at u).stage = .secured) (missing : s.damperProof u = false ∨ s.fanProof u = false) :
    s.proofEvent u damper present = s.enterSecureFault u := by
  rcases missing with missing | missing <;> simp [State.proofEvent, secured, missing]

theorem proofEvent_stands (h : (s.units.at u).stage = .idle ∨ (s.units.at u).stage = .run ∨ (s.units.at u).stage = .temper ∨
    (s.units.at u).stage = .restartHold) : s.proofEvent u damper present = s := by
  rcases h with h | h | h | h <;> simp [State.proofEvent, h]

/-- A faulted unit notes the proof, and is SECURED where none is missing any more. -/
theorem proofEvent_faulted (faulted : (s.units.at u).stage = .secureFault) {r' : UnitRec}
    (hr : r' = if damper then { s.units.at u with missingDamper := !present } else { s.units.at u with missingFan := !present }) :
    s.proofEvent u damper present =
      if r'.missingDamper || r'.missingFan then s.setUnit u r' else (s.setUnit u r').enterSecured u := by
  subst hr
  simp only [State.proofEvent, faulted]

end

/-- What the delivery of a proof of unit `u` does to the units and the two sources (R114 to R117). -/
theorem proofDelivered {s t : State} {u : Fin 3} {damper : Bool} {r r' : UnitRec} (hr : r = s.units.at u)
    (hr' : r' = if damper then { r with missingDamper := !s.damperProof u } else { r with missingFan := !s.fanProof u })
    (ht : t = (s.proofEvent u damper (if damper then s.damperProof u else s.fanProof u)).recompute) :
    (r.stage = .closing → s.damperProof u = true → s.fanProof u = true →
      t.units = s.units.put u { r with
        stage := .secured, stroke := none, fan := none, missingDamper := false, missingFan := false } ∧
      ((s.alerts.sources.at (srcSecured u)).membership = .none → (t.alerts.sources.at (srcSecured u)).membership = .pending)) ∧
    (r.stage = .closing → (s.damperProof u = false ∨ s.fanProof u = false) → t.units = s.units) ∧
    (r.stage = .secured → (s.damperProof u = false ∨ s.fanProof u = false) →
      t.units = s.units.put u { r with
        stage := .secureFault, stroke := none, fan := none, missingDamper := !s.damperProof u, missingFan := !s.fanProof u } ∧
      t.told (srcSecureFault u) = true) ∧
    (r.stage = .secureFault →
      (r'.missingDamper = true ∨ r'.missingFan = true → t.units = s.units.put u r') ∧
      (r'.missingDamper = false → r'.missingFan = false →
        t.units = s.units.put u { r with
          stage := .secured, stroke := none, fan := none, missingDamper := false, missingFan := false } ∧
        t.told (srcSecureFault u) = false ∧
        ((s.alerts.sources.at (srcSecured u)).membership = .none →
          (t.alerts.sources.at (srcSecured u)).membership = .pending))) ∧
    (r.stage = .idle ∨ r.stage = .run ∨ r.stage = .temper ∨ r.stage = .restartHold → t.units = s.units) := by
  subst hr
  have secured : ∀ k, srcSecured u ≠ srcPumpFail k := fun k => by simp [srcSecured, srcPumpFail]
  have faults : ∀ k, srcSecureFault u ≠ srcPumpFail k := fun k => by simp [srcSecureFault, srcPumpFail]
  rw [ht, recompute_units, recompute_told _ faults, recompute_source _ secured]
  refine ⟨fun closing damperIn fanIn => ?_, fun closing missing => ?_, fun stage missing => ?_, fun faulted => ⟨fun missing => ?_,
    fun damperIn fanIn => ?_⟩, fun stage => ?_⟩
  · rw [proofEvent_secures _ _ closing damperIn fanIn]
    exact ⟨enterSecured_units s u, (enterSecured_alerts s u).2⟩
  · rw [proofEvent_waits _ _ closing missing]
  · rw [proofEvent_faults _ _ stage missing]
    exact ⟨enterSecureFault_units s u, enterSecureFault_told s u⟩
  · rw [proofEvent_faulted (r' := r') _ _ faulted (by rw [hr']; cases damper <;> rfl), if_pos (by simpa using missing)]
    rfl
  · rw [proofEvent_faulted (r' := r') _ _ faulted (by rw [hr']; cases damper <;> rfl), if_neg (by simp [damperIn, fanIn])]
    obtain ⟨told, raised⟩ := enterSecured_alerts (s.setUnit u r') u
    refine ⟨?_, told, raised⟩
    rw [enterSecured_units, State.setUnit_units, put_put, Tab.at_put_self, hr']
    cases damper <;> rfl
  · rw [proofEvent_stands _ _ stage]

end Sys2Proof.Machine
end

section
/-! PROOF. The local reset, and debounced changes delivered (O58). -/

namespace Sys2Proof.Machine

open Sys2Proof

/-! ## What an event of a coil leaves of the alert sources and the store -/

/-- A source that belongs to neither sequencer's part in the event keeps its condition. -/
theorem Moves.told {k : Fin 6} {u : Fin 3} {s t : State} (h : Moves k u s t) {y : Fin 65} (trip : y ≠ srcTrip k)
    (lockout : y ≠ srcLockout k) (pump : ∀ j, y ≠ srcPumpFail j) (fault : y ≠ srcSecureFault u) : t.told y = s.told y := by
  induction h with
  | refl => rfl
  | coil _ _ ih => exact ih
  | prove _ _ _ _ ih => exact ih
  | exposure _ _ _ ih => exact ih
  | unit _ _ ih => exact ih
  | outputs _ _ ih => exact ih
  | edge _ _ ih => exact (told_raiseEdge _ _ y).trans ih
  | @level w _ x c hx ih =>
    refine (told_handLevel_other w (fun same => ?_) c).trans ih
    rcases hx with hx | hx | ⟨j, hx⟩ | hx
    · exact trip (same.trans hx)
    · exact lockout (same.trans hx)
    · exact pump j (same.trans hx)
    · exact fault (same.trans hx)
  | @lockout w _ ih =>
    rw [lockoutChange_eq w]
    exact ih

/-- After a lockout change a store job is in flight or pending (R20). -/
theorem lockoutChange_busy (s : State) : s.lockoutChange.storeBusy = true := by
  rcases lockoutChange_cases s with ⟨-, e⟩ | ⟨j, -, e⟩ <;> rw [e] <;> simp [State.storeBusy, State.setStore_store]

theorem storeBusy_of_store {s t : State} (h : t.store = s.store) : t.storeBusy = s.storeBusy := by
  unfold State.storeBusy
  rw [h]

theorem Moves.storeBusy {k : Fin 6} {u : Fin 3} {s t : State} (h : Moves k u s t) (busy : s.storeBusy = true) : t.storeBusy = true := by
  induction h with
  | refl => exact busy
  | coil _ _ ih => exact ih
  | prove _ _ _ _ ih => exact ih
  | exposure _ _ _ ih => exact ih
  | unit _ _ ih => exact ih
  | outputs _ _ ih => exact ih
  | edge _ _ ih => exact ih
  | level _ _ _ ih => exact ih
  | @lockout w _ _ => exact lockoutChange_busy w

/-! ## The local reset of one coil (R101) -/

/-- Coil `k`'s record with its history emptied and its lockout flag cleared. -/
def State.unlockedSeq (s : State) (k : Fin 6) : CoilSeq := { s.coils.at k with history := [], lockout := false }

/-- The state with coil `k`'s history emptied and its lockout cleared, before the coil returns to GUARD. -/
def State.unlocked (s : State) (k : Fin 6) : State :=
  if (s.coils.at k).lockout then (s.setCoil k (s.unlockedSeq k)).lockoutChange else s.setCoil k (s.unlockedSeq k)

/-- Coil `k`'s record after a local reset. -/
def State.localSeq (s : State) (k : Fin 6) : CoilSeq :=
  if 0 < (s.cfg k).holdDown then { s.unlockedSeq k with stage := .guard, settle := 0, holdDown := some (s.cfg k).holdDown }
  else { s.unlockedSeq k with stage := .watch, settle := 0, holdDown := none }

section
variable {s : State} {k : Fin 6} {u : Fin 3}

theorem localResetCoil_acts (acts : s.localResetActs u k = true) : State.localResetCoil u s k = (s.unlocked k).resetCoil k := if_pos acts

theorem localResetCoil_stands (stands : s.localResetActs u k = false) : State.localResetCoil u s k = s :=
  if_neg (by rw [stands]; decide)

theorem unlocked_moves : Moves k (s.cfg k).unit s (s.unlocked k) := by
  unfold State.unlocked
  split
  · exact (Moves.refl.coil _).lockout
  · exact Moves.refl.coil _

theorem unlocked_fields : (s.unlocked k).coils = s.coils.put k (s.unlockedSeq k) ∧ (s.unlocked k).units = s.units ∧
    (s.unlocked k).exposures = s.exposures := by
  unfold State.unlocked
  split
  · rw [lockoutChange_eq]
    exact ⟨rfl, rfl, rfl⟩
  · exact ⟨rfl, rfl, rfl⟩

theorem localResetActs_iff : s.localResetActs u k = true ↔ (s.cfg k).present = true ∧ (s.cfg k).unit = u ∧
    (s.coils.at k).forced = false ∧ ((s.coils.at k).stage = .tripped ∨ (s.coils.at k).stage = .lockout) ∧
    (s.exposures.at k).e ≤ (s.cfg k).recover ∧ (s.faces.at k).state ≠ .blind ∧
    ∃ h, (s.faces.at k).held = some h ∧ (s.cfg k).phi + 16 < h := by
  have reason : (s.resetReason k).isNone = true ↔ (s.exposures.at k).e ≤ (s.cfg k).recover ∧ (s.faces.at k).state ≠ .blind ∧
      ∃ h, (s.faces.at k).held = some h ∧ (s.cfg k).phi + 16 < h := by
    by_cases low : (s.exposures.at k).e ≤ (s.cfg k).recover
    · by_cases blind : (s.faces.at k).state = .blind
      · rw [resetReason_blind low blind]
        exact ⟨fun h => (by cases h), fun ⟨_, seen, _⟩ => absurd blind seen⟩
      · by_cases warm : ∃ h, (s.faces.at k).held = some h ∧ (s.cfg k).phi + 16 < h
        · obtain ⟨h, held, above⟩ := warm
          rw [resetReason_none low blind held above]
          exact ⟨fun _ => ⟨low, blind, h, held, above⟩, fun _ => rfl⟩
        · rw [resetReason_cold low blind fun h held => Int.not_lt.mp fun above => warm ⟨h, held, above⟩]
          exact ⟨fun h => (by cases h), fun ⟨_, _, found⟩ => absurd found warm⟩
    · rw [resetReason_first (by omega)]
      exact ⟨fun h => (by cases h), fun ⟨le, _⟩ => absurd le low⟩
  unfold State.localResetActs State.coilOf
  simp only [Bool.and_eq_true, reason, Bool.not_eq_true', decide_eq_true_eq, Bool.or_eq_true, beq_iff_eq, and_assoc]

/-- What the local reset of a coil that passes its tests leaves (R101, R110). -/
theorem restaged_localResetCoil (acts : s.localResetActs u k = true) :
    Restaged k s (s.localSeq k) (State.localResetCoil u s k) ∧
      (State.localResetCoil u s k).exposures = s.exposures.put k { s.exposures.at k with band := .clear, confirm := 0 } ∧
      ((s.coils.at k).lockout = true → (State.localResetCoil u s k).storeBusy = true) := by
  obtain ⟨-, -, free, -⟩ := localResetActs_iff.mp acts
  obtain ⟨coils, units, exposures⟩ := unlocked_fields (s := s) (k := k)
  have own : (s.unlocked k).coils.at k = s.unlockedSeq k := by rw [coils, Tab.at_put_self]
  have restaged := restaged_resetCoil (s := s.unlocked k) (k := k) (by rw [own]; exact free)
  rw [own, cfg_of_frame unlocked_moves.frame k] at restaged
  rw [localResetCoil_acts acts, resetCoil_exposures, exposures]
  refine ⟨restaged.after unlocked_moves units, rfl, fun locked => ?_⟩
  rw [storeBusy_of_store resetCoil_store, State.unlocked, if_pos locked]
  exact lockoutChange_busy _

end

/-! ## The local reset of a unit -/

/-- From `s` to `t` the local reset of unit `u` has taken the coils of `done`, each as it stood in `s`. -/
structure ResetFrom (u : Fin 3) (s : State) (done : List (Fin 6)) (t : State) : Prop where
  frame : seqFrame s t
  units : ∀ v, v ≠ u → t.units.at v = s.units.at v
  reset : ∀ k, k ∈ done → s.localResetActs u k = true → (s.localSeq k).sameButProve (t.coils.at k) ∧
    t.exposures.at k = { s.exposures.at k with band := .clear, confirm := 0 } ∧ t.told (srcTrip k) = false ∧
    t.told (srcLockout k) = false ∧ ((s.coils.at k).lockout = true → t.storeBusy = true)
  kept : ∀ k, ¬ (k ∈ done ∧ s.localResetActs u k = true) → (s.coils.at k).sameButProve (t.coils.at k) ∧
    t.exposures.at k = s.exposures.at k
  stands : (∀ k, k ∈ done → s.localResetActs u k = false) → t = s
  moved : (∃ k, k ∈ done ∧ s.localResetActs u k = true) → t.outputs = t.effective ∧
    ((s.units.at u).stage.shut = true → s.mode ≠ .fallback → unitMoved s t u)

theorem localSeq_stage (s : State) (k : Fin 6) : (s.localSeq k).stage.trips = false ∧ (s.localSeq k).lockout = false := by
  unfold State.localSeq
  split <;> exact ⟨rfl, rfl⟩

section
variable {u : Fin 3} {s t : State} {done : List (Fin 6)} (h : ResetFrom u s done t) {k : Fin 6} (fresh : k ∉ done)
include h fresh

/-- The tests of a coil that has not been taken stand. -/
theorem ResetFrom.acts : t.localResetActs u k = s.localResetActs u k := by
  obtain ⟨coil, exposure⟩ := h.kept k fun taken => fresh taken.1
  obtain ⟨stage, -, -, -, forced, -⟩ := sameButProve_fields coil
  unfold State.localResetActs State.resetReason State.coilOf
  simp only [cfg_of_frame h.frame, stage, forced, exposure, seqFrame_faces h.frame]

omit fresh in
theorem ResetFrom.skips (stands : s.localResetActs u k = false) : ResetFrom u s (k :: done) t := by
  have taken (j : Fin 6) : (j ∈ k :: done ∧ s.localResetActs u j = true) ↔ (j ∈ done ∧ s.localResetActs u j = true) := by
    refine ⟨fun ⟨hj, acts⟩ => ⟨(List.mem_cons.mp hj).resolve_left fun same => ?_, acts⟩, fun ⟨hj, acts⟩ => ⟨List.mem_cons_of_mem _ hj, acts⟩⟩
    rw [same, stands] at acts
    cases acts
  refine ⟨h.frame, h.units, fun j hj acts => h.reset j ((taken j).mp ⟨hj, acts⟩).1 acts, fun j free => h.kept j fun hj =>
    free ((taken j).mpr hj), fun none => h.stands fun j hj => none j (List.mem_cons_of_mem _ hj), fun ⟨j, found⟩ =>
    h.moved ⟨j, (taken j).mp found⟩⟩

/-- One more coil reset. The unit is tripped by that coil until then, so the events so far have left a shut unit (R112). -/
theorem ResetFrom.takes (acts : s.localResetActs u k = true) : ResetFrom u s (k :: done) (State.localResetCoil u t k) := by
  have acts' : t.localResetActs u k = true := (h.acts fresh).trans acts
  obtain ⟨restaged, exposures, busy⟩ := restaged_localResetCoil acts'
  obtain ⟨present, unit, -, tripped, -⟩ := localResetActs_iff.mp acts'
  obtain ⟨coil, exposure⟩ := h.kept k fun taken => fresh taken.1
  obtain ⟨-, -, -, lockout, -⟩ := sameButProve_fields coil
  have others := restaged.moves.others.1
  have frame := restaged.frame
  have cfg := cfg_of_frame h.frame k
  have seq : (s.localSeq k).sameButProve (t.localSeq k) := by
    obtain ⟨p, n, e⟩ := sameButProve_iff.mp coil
    refine sameButProve_iff.mpr ⟨p, n, ?_⟩
    unfold State.localSeq State.unlockedSeq
    rw [cfg, e]
    split <;> rfl
  obtain ⟨stage, -, -, unlocked, -⟩ := sameButProve_fields restaged.own
  obtain ⟨open_, cleared⟩ := localSeq_stage t k
  obtain ⟨trip, lock, -⟩ := restaged.told
  have trip : (State.localResetCoil u t k).told (srcTrip k) = false := by
    rw [trip, State.tripCondition, stage]
    unfold CoilStage.trips at open_
    simp_all
  have lock : (State.localResetCoil u t k).told (srcLockout k) = false := by
    rw [lock, State.lockoutCondition, stage]
    unfold CoilStage.trips at open_
    simp_all
  refine ⟨seqFrame_trans h.frame frame, fun v other => ?_, fun j hj actsJ => ?_, fun j free => ?_, fun none => ?_, fun _ =>
    ⟨restaged.driven, fun shut protects => ?_⟩⟩
  · exact (restaged.unit.2 v (by rw [unit]; exact other)).trans (h.units v other)
  · by_cases same : j = k
    · subst same
      refine ⟨sameButProve_trans seq restaged.own, by rw [exposures, Tab.at_put_self, exposure], trip, lock, fun locked =>
        busy (lockout.trans locked)⟩
    · obtain ⟨own, band, tripJ, lockJ, busyJ⟩ := h.reset j ((List.mem_cons.mp hj).resolve_left same) actsJ
      obtain ⟨coilJ, exposureJ⟩ := others j same
      have told {y : Fin 65} := restaged.moves.told (y := y)
      refine ⟨sameButProve_trans own coilJ, exposureJ.trans band, (told ?_ ?_ ?_ ?_).trans tripJ, (told ?_ ?_ ?_ ?_).trans lockJ,
        fun locked => restaged.moves.storeBusy (busyJ locked)⟩ <;>
        simp [srcTrip, srcLockout, srcPumpFail, srcSecureFault, same]
  · have same : j ≠ k := fun same => free ⟨same ▸ List.mem_cons_self, same ▸ acts⟩
    obtain ⟨coilJ, exposureJ⟩ := h.kept j fun taken => free ⟨List.mem_cons_of_mem _ taken.1, taken.2⟩
    obtain ⟨coilJ', exposureJ'⟩ := others j same
    exact ⟨sameButProve_trans coilJ coilJ', exposureJ'.trans exposureJ⟩
  · have none := none k List.mem_cons_self
    rw [acts] at none
    cases none
  · have next : unitMoved t (State.localResetCoil u t k) u := by
      have := restaged.unit.1 (by rw [seqFrame_mode h.frame]; exact protects)
      rwa [unit] at this
    have trips : t.tripOf u = true := by
      rw [← Bool.not_eq_false, tripOf_false_iff]
      intro calm
      obtain ⟨tripped', lockout'⟩ := calm k present unit
      exact tripped.elim tripped' lockout'
    by_cases found : ∃ j, j ∈ done ∧ s.localResetActs u j = true
    · refine unitMoved_twice ((h.moved found).2 shut protects) next (by rw [seqFrame_tables h.frame]) (seqFrame_seconds h.frame) ?_ ?_
        (.inr ⟨shut, trips⟩)
      · unfold State.damperProof
        rw [seqFrame_inputs frame]
      · unfold State.fanProof
        rw [seqFrame_inputs frame]
    · have same : t = s := h.stands fun j hj => Bool.eq_false_iff.mpr fun acts => found ⟨j, hj, acts⟩
      rwa [same] at next ⊢

theorem ResetFrom.next : ResetFrom u s (k :: done) (State.localResetCoil u t k) := by
  cases acts : s.localResetActs u k
  · rw [localResetCoil_stands ((h.acts fresh).trans acts)]
    exact h.skips acts
  · exact h.takes fresh acts

end

theorem ResetFrom.fold {u : Fin 3} {s : State} (l : List (Fin 6)) : ∀ {done : List (Fin 6)} {t : State}, ResetFrom u s done t →
    l.Nodup → (∀ k ∈ l, k ∉ done) → ∃ taken, (∀ k, k ∈ taken ↔ k ∈ l ∨ k ∈ done) ∧
      ResetFrom u s taken (l.foldl (State.localResetCoil u) t) := by
  induction l with
  | nil => exact fun h _ _ => ⟨_, fun k => by simp, h⟩
  | cons k l ih =>
    intro done t h once fresh
    obtain ⟨first, once⟩ := List.nodup_cons.mp once
    obtain ⟨taken, members, whole⟩ := ih (h.next (fresh k List.mem_cons_self)) once fun j hj => by
      rw [List.mem_cons, not_or]
      exact ⟨fun same => first (same ▸ hj), fresh j (List.mem_cons_of_mem _ hj)⟩
    refine ⟨taken, fun j => ?_, whole⟩
    rw [members, List.mem_cons, List.mem_cons]
    tauto

theorem resetFrom_localReset (s : State) (u : Fin 3) : ∃ taken, (∀ k, k ∈ taken) ∧ ResetFrom u s taken (s.localReset u) := by
  have start : ResetFrom u s [] s := ⟨seqFrame_refl s, fun _ _ => rfl, fun _ hk => absurd hk List.not_mem_nil,
    fun _ _ => ⟨sameButProve_refl _, rfl⟩, fun _ => rfl, fun ⟨_, hk, _⟩ => absurd hk List.not_mem_nil⟩
  obtain ⟨taken, members, whole⟩ := start.fold allCoils allCoils_nodup fun _ _ => List.not_mem_nil
  exact ⟨taken, fun k => (members k).mpr (.inl (mem_allCoils k)), whole⟩

/-! ## The delivery commands (R9, R137) -/

section
variable {s : State} {i : Fin 15}

theorem exec_debounceExpiry (running : s.power = .running) {n : Nat} (runs : (s.inputs.at i).timer = some n)
    (differs : s.inputLevel i ≠ (s.inputs.at i).debounced) : exec (.debounceExpiry i) s =
      .next ((s.setInput i { debounced := s.inputLevel i, timer := none }).deliver i).conclude := by
  refine (whileRunning_running running fun s => (s.debounceExpires i).conclude).trans ?_
  unfold State.debounceExpires
  dsimp only
  rw [runs]
  exact congrArg (fun q => Host.Outcome.next (State.conclude q)) (if_neg differs)

theorem exec_pinAdopts {high : Bool} {q : State} (running : s.power = .running) (moves : s.pins.at i ≠ high)
    (steps : (s.tables.inputs.at i).debounce = 0) (hq : q = s.setPin i high)
    (differs : q.inputLevel i ≠ (s.inputs.at i).debounced) : exec (.inputLevelChange i high) s =
      .next ((q.setInput i { debounced := q.inputLevel i, timer := none }).deliver i).conclude := by
  subst hq
  rw [exec_pinMoves moves, whileRunning_running (s := s.setPin i high) running, levelChanged_adopts differs steps]
  rfl

theorem exec_setInputAdopts {tag : Byte} {low : Bool} {q : State} (ready : s.ready) (free : s.saveBusy = false)
    (inverts : low ≠ (s.tables.inputs.at i).activeLow)
    (hq : q = s.setTables { s.tables with inputs := s.tables.inputs.put i { activeLow := low, debounce := 0 } })
    (differs : q.inputLevel i ≠ (s.inputs.at i).debounced) : exec (.setInput tag (encNumber i) (flagByte low) 0) s =
      .next (((q.setInput i { debounced := q.inputLevel i, timer := none }).deliver i).answered 0xB7 tag [0]).conclude := by
  have acts : handleRequest ⟨0x37, tag, [encNumber i, flagByte low, 0]⟩ s = ⟨[0], q.adoptLevel i⟩ := by
    refine (reqSetInput_done (d := 0) free i low (by decide)).trans ?_
    rw [if_neg (Ne.symm inverts)]
    subst hq
    exact congrArg (Answer.mk [0]) (levelChanged_adopts differs (by
      rw [State.setTables_tables]
      dsimp only
      rw [Tab.at_put_self]
      rfl))
  refine (arrive_ready ready 0x37 tag _).trans ?_
  rw [State.respond, acts]
  rfl

end

/-- Settles O58. -/
theorem debouncedChangesReachTheirBlocks : Obligations.DebouncedChangesReachTheirBlocks := by
  refine ⟨fun s i => ⟨fun n running runs differs => exec_debounceExpiry running runs differs,
    fun high q running moves steps hq differs => exec_pinAdopts running moves steps hq differs,
    fun tag low q ready free inverts hq differs => exec_setInputAdopts ready free inverts hq differs⟩,
    fun s => ⟨fun k present => ⟨fun flows turns => ?_, fun dry proven => ?_, fun h => ?_⟩, fun u i r input hr => ?_,
      fun u i hi => ⟨fun released => ?_, fun asserted acts hacts => ?_⟩⟩⟩
  · rw [deliver_flow, flowEvent_proves present flows turns]
    refine ⟨rfl, ?_⟩
    rw [setProve_eq, told_handLevel_self, present]
    rfl
  · rw [deliver_flow, flowEvent_fails present dry proven]
    refine ⟨fun stands => ?_, fun driven free guard runs => ?_, fun driven free guard zero => ?_, fun driven free stage => ?_⟩
    · rw [pumpFails_stands stands]
      exact ⟨rfl, pumpFailed_told present⟩
    · obtain ⟨restaged, own, exposures⟩ := pumpFails_boosts free driven guard runs
      refine ⟨own, ?_, exposures, restaged.unit⟩
      rw [restaged.told.2.2, State.pumpFailCondition, own, cfg_of_frame restaged.frame, present]
      rfl
    · obtain ⟨r, restaged, stage, stopped, exposures⟩ := pumpFails_boosts_zero free guard zero
      obtain ⟨stage', -, holdDown', -⟩ := sameButProve_fields restaged.own
      refine ⟨stage'.trans (stage.trans ?_), holdDown'.trans stopped, exposures, restaged.unit⟩
      cases (s.exposures.at k).band <;> rfl
    · obtain ⟨r, restaged, own, failed, -, tripped, exposures, record⟩ := pumpFails_tripEntry free driven stage
      rw [restaged.told.2.2, State.pumpFailCondition, own, cfg_of_frame restaged.frame, present, failed]
      exact ⟨rfl, rfl, tripped, exposures, restaged.unit, record⟩
  · rw [deliver_flow]
    exact flowEvent_stands present h
  · rcases input with rfl | rfl
    · obtain ⟨secures, waits, faults, -, stands⟩ := proofDelivered (damper := true) hr rfl (deliver_damper s u)
      refine ⟨secures, waits, faults, fun r' faulted hr' => ?_, stands⟩
      rw [if_pos rfl] at hr'
      exact (proofDelivered (damper := true) hr hr' (deliver_damper s u)).2.2.2.1 faulted
    · have other : fanInput u ≠ damperInput u := by
        simp only [fanInput, damperInput, ne_eq, Fin.ext_iff]
        omega
      obtain ⟨secures, waits, faults, -, stands⟩ := proofDelivered (damper := false) hr rfl (deliver_fan s u)
      refine ⟨secures, waits, faults, fun r' faulted hr' => ?_, stands⟩
      rw [if_neg other] at hr'
      exact (proofDelivered (damper := false) hr hr' (deliver_fan s u)).2.2.2.1 faulted
  · rw [deliver_reset s hi, if_neg (by rw [released]; decide)]
  · rw [deliver_reset s hi, if_pos asserted]
    have same (k : Fin 6) : acts k ↔ s.localResetActs u k = true := (hacts k).trans localResetActs_iff.symm
    obtain ⟨taken, all, whole⟩ := resetFrom_localReset s u
    refine ⟨fun none => whole.stands fun k _ => Bool.eq_false_iff.mpr fun h => none k ((same k).mpr h), fun ⟨k, found⟩ => ?_,
      fun k => ⟨fun found => ?_, fun none => whole.kept k fun h => none ((same k).mpr h.2)⟩⟩
    · obtain ⟨driven, moved⟩ := whole.moved ⟨k, all k, (same k).mp found⟩
      exact ⟨driven, fun shut => ⟨moved shut, whole.units⟩, whole.units⟩
    · obtain ⟨own, exposure, trip, lockout, busy⟩ := whole.reset k (all k) ((same k).mp found)
      obtain ⟨stage', -, holdDown', lockout', -, record', history'⟩ := sameButProve_fields own
      have record : (s.localSeq k).tripRecord = (s.coils.at k).tripRecord := by
        unfold State.localSeq
        split <;> rfl
      have history : (s.localSeq k).history = [] := by
        unfold State.localSeq
        split <;> rfl
      refine ⟨history'.trans history, lockout'.trans (localSeq_stage s k).2, exposure, record'.trans record, fun runs => ?_,
        fun zero => ?_, trip, lockout, busy⟩
      · rw [stage', holdDown', State.localSeq, if_pos runs]
        exact ⟨rfl, rfl⟩
      · rw [stage', holdDown', State.localSeq, if_neg (by omega)]
        exact ⟨rfl, rfl⟩

end Sys2Proof.Machine
end

section
/-! PROOF. Frame updates (O53). -/

namespace Sys2Proof.Machine

open Sys2Proof

/-! ## The exposure record of a frame update (R72 to R78) -/

section
variable (s : State) (k : Fin 6) (r : FrameReport)

theorem stepExposure_e : (s.stepExposure k r).1.e = s.stepE k r := by
  unfold State.stepExposure
  dsimp only
  split
  · rfl
  · split <;> rfl

theorem stepExposure_confirm : (s.stepExposure k r).1.confirm = stepConfirm (s.exposures.at k).confirm (s.cfg k).phi r := by
  unfold State.stepExposure
  dsimp only
  split
  · rfl
  · split <;> rfl

variable {s k r}

theorem stepExposure_tripped (trip : (s.exposures.at k).band = .trip) : (s.stepExposure k r).1.band = .trip := by
  unfold State.stepExposure
  dsimp only
  rw [if_pos trip]

/-- The hard limit (R77). -/
theorem stepExposure_hard (open_ : (s.exposures.at k).band ≠ .trip) (accepted : r.accepted = true)
    (met : (s.cfg k).confirm ≤ (s.stepExposure k r).1.confirm) :
    (s.stepExposure k r).1.band = .trip ∧ (s.stepExposure k r).2 = some .hardLimit := by
  rw [stepExposure_confirm] at met
  have hard : hardLimitMet (stepConfirm (s.exposures.at k).confirm (s.cfg k).phi r) (s.cfg k).confirm r = true := by
    simp [hardLimitMet, accepted, met]
  unfold State.stepExposure
  dsimp only
  rw [if_neg open_, if_pos hard]
  exact ⟨rfl, rfl⟩

/-- The ladder where the hard limit is not met (R78). -/
theorem stepExposure_ladder (open_ : (s.exposures.at k).band ≠ .trip)
    (below : r.accepted = false ∨ (s.stepExposure k r).1.confirm < (s.cfg k).confirm) :
    (s.stepExposure k r).1.band = ladder (s.cfg k) (s.exposures.at k).band (s.stepE k r) ∧
      ((s.stepExposure k r).1.band = .trip → (s.stepExposure k r).2 = some .exposure) := by
  rw [stepExposure_confirm] at below
  have soft : ¬ hardLimitMet (stepConfirm (s.exposures.at k).confirm (s.cfg k).phi r) (s.cfg k).confirm r = true := by
    rcases below with starved | below
    · simp [hardLimitMet, starved]
    · simp [hardLimitMet, below]
  unfold State.stepExposure
  dsimp only
  rw [if_neg open_, if_neg soft]
  exact ⟨rfl, fun trip => if_pos trip⟩

end

/-- The confirm count by the report (R76). -/
theorem stepConfirm_cases (n : Nat) (phi : Int) (r : FrameReport) :
    (r.accepted = false → stepConfirm n phi r = n) ∧
    (∀ c, r.accepted = true → r.cold = some c → phi < c → stepConfirm n phi r = 0) ∧
    (∀ c, r.accepted = true → r.cold = some c → c ≤ phi → stepConfirm n phi r = min (n + 1) 4) := by
  unfold stepConfirm
  refine ⟨fun starved => ?_, fun c accepted cold warm => ?_, fun c accepted cold low => ?_⟩
  · rw [starved]
  · rw [accepted, cold]
    exact if_neg (by omega)
  · rw [accepted, cold]
    exact if_pos low

/-- The rungs of the ladder, each threshold above the one before (R2, R78). -/
theorem ladder_rungs {c : CoilCfg} (first : c.recover < c.a1) (second : c.a1 < c.a2) (third : c.a2 < c.trip) {b : Band}
    (open_ : b ≠ .trip) (e : Nat) :
    (c.trip ≤ e → ladder c b e = .trip) ∧ (c.a2 ≤ e → e < c.trip → ladder c b e = .advise2) ∧
    (b = .clear → c.a1 ≤ e → e < c.a2 → ladder c b e = .advise1) ∧ (b = .clear → e < c.a1 → ladder c b e = .clear) ∧
    (b = .advise1 → c.recover < e → e < c.a2 → ladder c b e = .advise1) ∧ (b = .advise1 → e ≤ c.recover → ladder c b e = .clear) ∧
    (b = .advise2 → c.a1 < e → e < c.a2 → ladder c b e = .advise2) ∧
    (b = .advise2 → c.recover < e → e ≤ c.a1 → ladder c b e = .advise1) ∧ (b = .advise2 → e ≤ c.recover → ladder c b e = .clear) := by
  have rung : ladder c b e = if c.trip ≤ e then .trip else if c.a2 ≤ e then .advise2 else if c.a1 ≤ e ∧ b = .clear then .advise1
      else if b = .advise2 ∧ e ≤ c.recover then .clear else if b = .advise2 ∧ e ≤ c.a1 then .advise1
      else if b = .advise1 ∧ e ≤ c.recover then .clear else b := if_neg open_
  rw [rung]
  refine ⟨fun top => if_pos top, fun high low => ?_, fun hb high low => ?_, fun hb low => ?_, fun hb high low => ?_, fun hb low => ?_,
    fun hb high low => ?_, fun hb high low => ?_, fun hb low => ?_⟩
  · rw [if_neg (by omega), if_pos high]
  · rw [if_neg (by omega), if_neg (by omega), if_pos ⟨high, hb⟩]
  · rw [if_neg (by omega), if_neg (by omega), if_neg (by omega), hb]
    rfl
  all_goals
    subst hb
    rw [if_neg (by omega), if_neg (by omega), if_neg (fun h => by cases h.2)]
  · rw [if_neg (fun h => by cases h.1), if_neg (fun h => by cases h.1), if_neg (by omega)]
  · rw [if_neg (fun h => by cases h.1), if_neg (fun h => by cases h.1), if_pos ⟨rfl, low⟩]
  · rw [if_neg (by omega), if_neg (by omega), if_neg (fun h => by cases h.1)]
  · rw [if_neg (by omega), if_pos ⟨rfl, low⟩]
  · rw [if_pos ⟨rfl, low⟩]

/-! ## What follows from a coil's outcome (R90, R91) -/

/-- A source that is pending, and that the event's level conditions do not concern, stays pending. -/
theorem Moves.pending {k : Fin 6} {u : Fin 3} {s t : State} (h : Moves k u s t) {y : Fin 65} (trip : y ≠ srcTrip k)
    (lockout : y ≠ srcLockout k) (pump : ∀ j, y ≠ srcPumpFail j) (fault : y ≠ srcSecureFault u)
    (pending : (s.alerts.sources.at y).membership = .pending) : (t.alerts.sources.at y).membership = .pending := by
  induction h with
  | refl => exact pending
  | coil _ _ ih => exact ih
  | prove _ _ _ _ ih => exact ih
  | exposure _ _ _ ih => exact ih
  | unit _ _ ih => exact ih
  | outputs _ _ ih => exact ih
  | @edge w _ x _ ih =>
    change ((w.alerts.raiseEdge x).sources.at y).membership = _
    rcases w.alerts.raiseEdge_cases x with ⟨none, e⟩ | ⟨-, e⟩
    · rw [Alerts.raiseEdge_other _ fun same => by rw [same, none] at ih; cases ih]
      exact ih
    · rw [e]
      exact ih
  | @level w _ x c hx ih =>
    refine (congrArg SourceRec.membership (Alerts.handLevel_other w.alerts (fun same => ?_) c)).trans ih
    rcases hx with hx | hx | ⟨j, hx⟩ | hx
    · exact trip (same.trans hx)
    · exact lockout (same.trans hx)
    · exact pump j (same.trans hx)
    · exact fault (same.trans hx)
  | @lockout w _ ih =>
    rw [lockoutChange_eq w]
    exact ih

section
variable {s : State} {k : Fin 6}

theorem tripEntry_band (trip : (s.exposures.at k).band = .trip) (cause : TripCause) : (s.tripEntry k cause).exposures = s.exposures := by
  rw [tripEntry_exposures, ← trip]
  refine Tab.ext_at fun j => ?_
  rw [Tab.at_put]
  split
  · rename_i same
    rw [same]
  · rfl

theorem workingOutcome_exposures (cause : TripCause) : (s.workingOutcome k cause).exposures = s.exposures := by
  unfold State.workingOutcome
  split
  · exact tripEntry_band ‹_› cause
  · exact promote_exposures s k _
  · exact promote_exposures s k _
  · exact promote_exposures s k _
  · exact demote_exposures s k

/-- The coil's settle remaining written. -/
def State.settleLeft (s : State) (k : Fin 6) (n : Nat) : State := s.setCoil k { s.coils.at k with settle := n }

theorem settleLeft_own (n : Nat) : (s.settleLeft k n).coils.at k = { s.coils.at k with settle := n } := Tab.at_put_self _ _ _

theorem settleLeft_exposures (n : Nat) : (s.settleLeft k n).exposures = s.exposures := rfl

section
variable {accepted : Bool} {cause : TripCause}

theorem settleOutcome_trips (trip : (s.exposures.at k).band = .trip) : s.settleOutcome k accepted cause = s.tripEntry k cause :=
  if_pos trip

variable {left : Nat} (hleft : left = if accepted then (s.coils.at k).settle - 1 else (s.coils.at k).settle)
  (open_ : (s.exposures.at k).band ≠ .trip)
include hleft open_

theorem settleOutcome_waits (more : 0 < left) : s.settleOutcome k accepted cause = s.settleLeft k left := by
  subst hleft
  exact (if_neg open_).trans (if_neg (by omega))

theorem settleOutcome_leaves (last : left = 0) : s.settleOutcome k accepted cause =
    if (s.exposures.at k).band = .clear then (s.settleLeft k left).enterStage k .watch
      else (s.settleLeft k left).promote k (s.exposures.at k).band.stage := by
  subst hleft
  exact (if_neg open_).trans (if_pos last)

end

theorem settleOutcome_exposures (accepted : Bool) (cause : TripCause) : (s.settleOutcome k accepted cause).exposures = s.exposures := by
  by_cases trip : (s.exposures.at k).band = .trip
  · rw [settleOutcome_trips trip, tripEntry_band trip]
  · rcases Nat.eq_zero_or_pos (if accepted then (s.coils.at k).settle - 1 else (s.coils.at k).settle) with last | more
    · rw [settleOutcome_leaves rfl trip last]
      split
      · rw [enterStage_exposures, settleLeft_exposures]
      · rw [promote_exposures, settleLeft_exposures]
    · rw [settleOutcome_waits rfl trip more, settleLeft_exposures]

/-- The outcome leaves the exposure records. -/
theorem updateOutcome_exposures (accepted : Bool) (cause : Option TripCause) :
    (s.updateOutcome k accepted cause).exposures = s.exposures := by
  unfold State.updateOutcome
  dsimp only
  split
  · rfl
  · split
    · exact settleOutcome_exposures _ _
    · exact workingOutcome_exposures _
    · exact workingOutcome_exposures _
    · exact workingOutcome_exposures _
    · rfl
    · rfl
    · rfl

/-! ### The shapes of an outcome -/

theorem restaged_demote_or (s : State) (k : Fin 6) : s.demote k = s ∨ ∃ r, Restaged k s r (s.demote k) := by
  unfold State.demote
  dsimp only
  split
  · exact .inr ⟨_, restaged_enterStage _⟩
  · exact .inl rfl

theorem restaged_promote_some (st : CoilStage) : ∃ r, Restaged k s r (s.promote k st) := by
  by_cases runs : 0 < (s.cfg k).holdDown
  · exact ⟨_, restaged_promote st runs⟩
  · have promotes := restaged_promoted (s := s) (k := k) st
    rw [promote_zero st (by omega)]
    by_cases demotes : ((s.coils.at k).enter st (s.cfg k).settleFrames).forced = false ∧
        belowStage ((s.coils.at k).enter st (s.cfg k).settleFrames).stage (((s.promoted k st).exposures).at k).band = true
    · exact ⟨_, promotes.demoted demotes.1 rfl demotes.2⟩
    · rw [promotes.undemoted (by
        rcases not_and_or.mp demotes with forced | above
        · exact .inl (Bool.eq_true_of_not_eq_false forced)
        · exact .inr (.inr (Bool.eq_false_of_not_eq_true above)))]
      exact ⟨_, promotes⟩

/-- A promotion to the stage that matches the band (R91): with a hold-down of 0 s no demotion follows. -/
theorem restaged_promote_matching {b : Band} (band : (s.exposures.at k).band = b) (working : b = .advise1 ∨ b = .advise2) :
    Restaged k s { s.coils.at k with
      stage := b.stage, settle := 0, holdDown := if (s.cfg k).holdDown = 0 then none else some (s.cfg k).holdDown }
      (s.promote k b.stage) := by
  have enters : ∀ d, { (s.coils.at k).enter b.stage (s.cfg k).settleFrames with holdDown := d } =
      { s.coils.at k with stage := b.stage, settle := 0, holdDown := d } := by
    rcases working with rfl | rfl <;> exact fun _ => rfl
  by_cases zero : (s.cfg k).holdDown = 0
  · have promotes := restaged_promoted (s := s) (k := k) b.stage
    rw [enters] at promotes
    have above : belowStage b.stage (((s.promoted k b.stage).exposures).at k).band = false := by
      rw [promoted_exposures, band]
      rcases working with rfl | rfl <;> rfl
    rw [promote_zero _ zero, promotes.undemoted (.inr (.inr above)), if_pos zero]
    exact promotes
  · rw [if_neg zero, ← enters]
    exact restaged_promote _ (Nat.pos_of_ne_zero zero)

theorem Restaged.settles {n : Nat} {r : CoilSeq} {t : State} (h : Restaged k (s.settleLeft k n) r t) : Restaged k s r t :=
  h.after (Moves.refl.coil _) rfl

theorem workingOutcome_cases (cause : TripCause) :
    s.workingOutcome k cause = s ∨ ∃ r, Restaged k s r (s.workingOutcome k cause) := by
  unfold State.workingOutcome
  split
  · exact .inr ⟨_, restaged_tripEntry⟩
  · exact .inr (restaged_promote_some _)
  · exact .inr (restaged_promote_some _)
  · exact .inr (restaged_promote_some _)
  · exact restaged_demote_or s k

theorem settleOutcome_cases (accepted : Bool) (cause : TripCause) : s.settleOutcome k accepted cause = s ∨
    (∃ n, s.settleOutcome k accepted cause = s.settleLeft k n) ∨ ∃ r, Restaged k s r (s.settleOutcome k accepted cause) := by
  by_cases trip : (s.exposures.at k).band = .trip
  · rw [settleOutcome_trips trip]
    exact .inr (.inr ⟨_, restaged_tripEntry⟩)
  · rcases Nat.eq_zero_or_pos (if accepted then (s.coils.at k).settle - 1 else (s.coils.at k).settle) with last | more
    · rw [settleOutcome_leaves rfl trip last]
      split
      · exact .inr (.inr ⟨_, (restaged_enterStage _).settles⟩)
      · obtain ⟨r, h⟩ := restaged_promote_some (k := k) (s := s.settleLeft k _) (s.exposures.at k).band.stage
        exact .inr (.inr ⟨r, h.settles⟩)
    · exact .inr (.inl ⟨_, settleOutcome_waits rfl trip more⟩)

/-- An outcome leaves the state, writes what is left of SETTLE, or is a stage change (R80, R90, R91). -/
theorem updateOutcome_cases (accepted : Bool) (cause : Option TripCause) :
    s.updateOutcome k accepted cause = s ∨ (∃ n, s.updateOutcome k accepted cause = s.settleLeft k n) ∨
      ∃ r, Restaged k s r (s.updateOutcome k accepted cause) := by
  have working (c : TripCause) : s.workingOutcome k c = s ∨ (∃ n, s.workingOutcome k c = s.settleLeft k n) ∨
      ∃ r, Restaged k s r (s.workingOutcome k c) := (workingOutcome_cases c).imp_right .inr
  unfold State.updateOutcome
  dsimp only
  split
  · exact .inl rfl
  · split
    · exact settleOutcome_cases accepted _
    · exact working _
    · exact working _
    · exact working _
    · exact .inl rfl
    · exact .inl rfl
    · exact .inl rfl

end

/-! ### The outcome by stage and band -/

section
variable {s : State} {k : Fin 6} {accepted : Bool} {cause : Option TripCause}

theorem updateOutcome_stands (h : (s.coils.at k).forced = true ∨ (s.coils.at k).stage = .tripped ∨ (s.coils.at k).stage = .lockout ∨
    (s.coils.at k).stage = .idle) : s.updateOutcome k accepted cause = s := by
  unfold State.updateOutcome
  dsimp only
  by_cases forced : (s.coils.at k).forced = true
  · exact if_pos forced
  · rw [if_neg forced]
    rcases h with forced' | stage | stage | stage
    · exact absurd forced' forced
    all_goals rw [stage]

section
variable (free : (s.coils.at k).forced = false)
include free

theorem updateOutcome_settle (stage : (s.coils.at k).stage = .settle) :
    s.updateOutcome k accepted cause = s.settleOutcome k accepted (cause.getD .exposure) := by
  unfold State.updateOutcome
  dsimp only
  rw [if_neg (by rw [free]; decide), stage]

theorem updateOutcome_working (stage : (s.coils.at k).stage = .watch ∨ (s.coils.at k).stage = .guard ∨ (s.coils.at k).stage = .boost) :
    s.updateOutcome k accepted cause = s.workingOutcome k (cause.getD .exposure) := by
  unfold State.updateOutcome
  dsimp only
  rw [if_neg (by rw [free]; decide)]
  rcases stage with stage | stage | stage <;> rw [stage]

theorem updateOutcome_trips (stage : (s.coils.at k).stage = .settle ∨ (s.coils.at k).stage = .watch ∨ (s.coils.at k).stage = .guard ∨
    (s.coils.at k).stage = .boost) (trip : (s.exposures.at k).band = .trip) :
    s.updateOutcome k accepted cause = s.tripEntry k (cause.getD .exposure) := by
  rcases stage with stage | stage
  · rw [updateOutcome_settle free stage]
    exact if_pos trip
  · rw [updateOutcome_working free stage, State.workingOutcome, trip]

end

/-- SETTLE ends with the stage that matches the band (R90). -/
theorem settleOutcome_ends {left : Nat} (hleft : left = if accepted then (s.coils.at k).settle - 1 else (s.coils.at k).settle)
    (open_ : (s.exposures.at k).band ≠ .trip) (c : TripCause) (last : left = 0) : Restaged k s { s.coils.at k with
      stage := (s.exposures.at k).band.stage, settle := 0
      holdDown := if (s.exposures.at k).band = .clear then (s.coils.at k).holdDown
        else if (s.cfg k).holdDown = 0 then none else some (s.cfg k).holdDown } (s.settleOutcome k accepted c) := by
  rw [settleOutcome_leaves hleft open_ last]
  by_cases clear : (s.exposures.at k).band = .clear
  · have enters := (restaged_enterStage (s := s.settleLeft k left) (k := k) .watch).settles
    rw [settleLeft_own] at enters
    rw [if_pos clear, if_pos clear, clear]
    exact enters
  · have working : (s.exposures.at k).band = .advise1 ∨ (s.exposures.at k).band = .advise2 := by
      cases band : (s.exposures.at k).band with
      | clear => exact absurd band clear
      | advise1 => exact .inl rfl
      | advise2 => exact .inr rfl
      | trip => exact absurd band open_
    have promotes := (restaged_promote_matching (s := s.settleLeft k left) (k := k) rfl working).settles
    rw [settleLeft_own] at promotes
    rw [if_neg clear, if_neg clear]
    exact promotes

theorem workingOutcome_promotes {c : TripCause} {b : Band} (band : (s.exposures.at k).band = b) (open_ : b ≠ .trip)
    (rises : (s.coils.at k).stage = .watch ∧ b ≠ .clear ∨ (s.coils.at k).stage = .guard ∧ b = .advise2) :
    (b = .advise1 ∨ b = .advise2) ∧ s.workingOutcome k c = s.promote k b.stage := by
  unfold State.workingOutcome
  rcases rises with ⟨stage, above⟩ | ⟨stage, rfl⟩
  · rw [stage, band]
    cases b with
    | clear => exact absurd rfl above
    | advise1 => exact ⟨.inl rfl, rfl⟩
    | advise2 => exact ⟨.inr rfl, rfl⟩
    | trip => exact absurd rfl open_
  · rw [stage, band]
    exact ⟨.inr rfl, rfl⟩

theorem workingOutcome_demotes {c : TripCause} {b : Band} (band : (s.exposures.at k).band = b)
    (falls : (s.coils.at k).stage = .guard ∧ b = .clear ∨ (s.coils.at k).stage = .boost ∧ (b = .clear ∨ b = .advise1)) :
    belowStage (s.coils.at k).stage b = true ∧ s.workingOutcome k c = s.demote k := by
  unfold State.workingOutcome
  rcases falls with ⟨stage, rfl⟩ | ⟨stage, rfl | rfl⟩ <;> rw [stage, band] <;> exact ⟨rfl, rfl⟩

theorem workingOutcome_matches {c : TripCause} {b : Band} (band : (s.exposures.at k).band = b) (open_ : b ≠ .trip)
    (same : (s.coils.at k).stage = b.stage) : s.workingOutcome k c = s := by
  have still : belowStage (s.coils.at k).stage (s.exposures.at k).band = false := by
    rw [same, band]
    cases b <;> rfl
  have tested : s.workingOutcome k c = s.demote k := by
    unfold State.workingOutcome
    rw [same, band]
    cases b with
    | clear => rfl
    | advise1 => rfl
    | advise2 => rfl
    | trip => exact absurd rfl open_
  rw [tested, demote_stands (.inr (.inr still))]

end

/-! ## The frame update (R72, R79, R80) -/

/-- The state with coil `k`'s exposure record after the report and its edge raised, before the outcome. -/
def State.exposureStepped (s : State) (k : Fin 6) (r : FrameReport) : State :=
  (s.setExposure k (s.stepExposure k r).1).raiseBandEdge k (s.exposures.at k).band (s.stepExposure k r).1.band

theorem onlyAlerts_raiseBandEdge (s : State) (k : Fin 6) (b b' : Band) : onlyAlerts s (s.raiseBandEdge k b b') := by
  unfold State.raiseBandEdge
  split <;> rfl

section
variable (s : State) (k : Fin 6) (r : FrameReport)

theorem frameUpdate_eq (protects : s.mode ≠ .fallback) : s.frameUpdate k r =
    (s.exposureStepped k r).updateOutcome k r.accepted (s.stepExposure k r).2 := by
  unfold State.frameUpdate
  split
  · exact absurd ‹_› protects
  · rfl
  · rfl

theorem exposureStepped_moves : Moves k (s.cfg k).unit s (s.exposureStepped k r) :=
  (Moves.refl.exposure _ fun h => stepExposure_bounded h r).trans (moves_raiseBandEdge k _ _ _ _)

theorem exposureStepped_exposures : (s.exposureStepped k r).exposures = s.exposures.put k (s.stepExposure k r).1 :=
  (onlyAlerts_raiseBandEdge (s.setExposure k (s.stepExposure k r).1) k _ _).exposures

theorem exposureStepped_coils : (s.exposureStepped k r).coils = s.coils :=
  (onlyAlerts_raiseBandEdge (s.setExposure k (s.stepExposure k r).1) k _ _).coils

theorem exposureStepped_units : (s.exposureStepped k r).units = s.units :=
  (onlyAlerts_raiseBandEdge (s.setExposure k (s.stepExposure k r).1) k _ _).units

theorem exposureStepped_driven (driven : s.outputs = s.effective) :
    (s.exposureStepped k r).outputs = (s.exposureStepped k r).effective := by
  have only := onlyAlerts_raiseBandEdge (s.setExposure k (s.stepExposure k r).1) k (s.exposures.at k).band (s.stepExposure k r).1.band
  refine only.outputs.trans (.trans ?_ only.effective.symm)
  exact driven

theorem settleLeft_driven {s : State} {k : Fin 6} (driven : s.outputs = s.effective) (n : Nat) :
    (s.settleLeft k n).outputs = (s.settleLeft k n).effective :=
  driven.trans (steady_setCoil (s := s) (k := k) (r := { s.coils.at k with settle := n }) rfl rfl).effective.symm

/-- The exposure records of a frame update are those that its report gives; the outcome leaves them. -/
theorem frameUpdate_exposures (protects : s.mode ≠ .fallback) :
    (s.frameUpdate k r).exposures = s.exposures.put k (s.stepExposure k r).1 := by
  rw [frameUpdate_eq s k r protects, updateOutcome_exposures, exposureStepped_exposures]

/-- The outputs stand at their rules after a frame update. -/
theorem frameUpdate_driven (driven : s.outputs = s.effective) :
    (s.frameUpdate k r).outputs = (s.frameUpdate k r).effective := by
  by_cases fallback : s.mode = .fallback
  · rw [show s.frameUpdate k r = s by unfold State.frameUpdate; rw [fallback]]
    exact driven
  · rw [frameUpdate_eq s k r fallback]
    have stepped := exposureStepped_driven s k r driven
    rcases updateOutcome_cases (s := s.exposureStepped k r) (k := k) r.accepted (s.stepExposure k r).2 with e | ⟨n, e⟩ | ⟨_, h⟩
    · rw [e]
      exact stepped
    · rw [e]
      exact settleLeft_driven stepped n
    · exact h.driven

/-- A frame update that changes the coil's stage is one event of R110 for its unit. -/
theorem frameUpdate_moved (protects : s.mode ≠ .fallback)
    (moved : ((s.frameUpdate k r).coils.at k).stage ≠ (s.coils.at k).stage) : onlyUnitMoved s (s.frameUpdate k r) (s.cfg k).unit := by
  rw [frameUpdate_eq s k r protects] at moved ⊢
  rcases updateOutcome_cases (s := s.exposureStepped k r) (k := k) r.accepted (s.stepExposure k r).2 with e | ⟨n, e⟩ | ⟨_, h⟩
  · rw [e, exposureStepped_coils] at moved
    exact absurd rfl moved
  · rw [e, settleLeft_own, exposureStepped_coils] at moved
    exact absurd rfl moved
  · exact (h.after (exposureStepped_moves s k r) (exposureStepped_units s k r)).unit

/-- The edge of ADVISE1 or ADVISE2 that a change of band raises (R79) is pending at the end of the update. -/
theorem frameUpdate_raises (protects : s.mode ≠ .fallback) {y : Fin 65} (hy : y = srcAdvise1 k ∨ y = srcAdvise2 k)
    (raised : ∀ q : State, q.raiseBandEdge k (s.exposures.at k).band (s.stepExposure k r).1.band = q.raiseEdge y)
    (none : (s.alerts.sources.at y).membership = .none) :
    ((s.frameUpdate k r).alerts.sources.at y).membership = .pending := by
  rw [frameUpdate_eq s k r protects]
  refine (moves_updateOutcome k (s.exposureStepped k r) _ _).pending ?_ ?_ ?_ ?_ ?_
  · rcases hy with rfl | rfl <;> simp [srcAdvise1, srcAdvise2, srcTrip]
  · rcases hy with rfl | rfl <;> simp [srcAdvise1, srcAdvise2, srcLockout]
  · rcases hy with rfl | rfl <;> simp [srcAdvise1, srcAdvise2, srcPumpFail]
  · rcases hy with rfl | rfl <;> simp [srcAdvise1, srcAdvise2, srcSecureFault]
  · rw [State.exposureStepped, raised]
    exact raiseEdge_pending none

end

/-! ## The report that a close hands over (R65) -/

theorem report_fields (f : Face) (n : Nat) (second : Seconds) :
    ((f.report n second).accepted = true ↔ f.status = .accepted) ∧
    ((f.report n second).accepted = true → (f.report n second).cold = f.held ∧ (f.report n second).mean = f.mean ∧
      (f.report n second).spread = f.spread) ∧
    ((f.report n second).accepted = false → (f.report n second).cold = none ∧ (f.report n second).mean = none ∧
      (f.report n second).spread = none) := by
  unfold Face.report Face.fresh
  dsimp only
  rw [beq_iff_eq]
  refine ⟨Iff.rfl, fun accepted => ?_, fun starved => ?_⟩
  · rw [if_pos accepted, if_pos accepted, if_pos accepted]
    exact ⟨rfl, rfl, rfl⟩
  · have starved : ¬ f.status = .accepted := by simpa using starved
    rw [if_neg starved, if_neg starved, if_neg starved]
    exact ⟨rfl, rfl, rfl⟩

/-- The record of a trip entry says the stage left, E, the plant second and the cause (R93). -/
theorem tripEntry_record {s t : State} {k : Fin 6} {cause : TripCause} {r : CoilSeq} (h : r = if
      (tripHistory (s.coils.at k).history s.plantSeconds (s.cfg k).lockoutWindow (s.cfg k).lockoutLimit).length < (s.cfg k).lockoutLimit
      then (s.tripSeq k cause).enter .tripped (s.cfg k).settleFrames
      else { s.tripSeq k cause with lockout := true }.enter .lockout (s.cfg k).settleFrames)
    (own : r.sameButProve (t.coils.at k)) :
    ((t.coils.at k).stage = .tripped ∨ (t.coils.at k).stage = .lockout) ∧ (t.coils.at k).holdDown = none ∧
      (t.coils.at k).settle = 0 ∧ ∃ rec, (t.coils.at k).tripRecord = some rec ∧ rec.stageLeft = (s.coils.at k).stage ∧
        rec.second = s.plantSeconds ∧ rec.e = (s.exposures.at k).e ∧ rec.cause = cause := by
  obtain ⟨stage, settle, holdDown, -, -, record, -⟩ := sameButProve_fields own
  rw [stage, settle, holdDown, record, h]
  split
  · exact ⟨.inl rfl, rfl, rfl, _, rfl, rfl, rfl, rfl, rfl⟩
  · exact ⟨.inr rfl, rfl, rfl, _, rfl, rfl, rfl, rfl, rfl⟩

/-- Settles O53. -/
theorem frameUpdatesMoveTheBand : Obligations.FrameUpdatesMoveTheBand := by
  intro s k r
  refine ⟨fun fallback => ?_, fun protects t e n b b' q q' goal ht he hb hb' hn hq hq' hgoal => ?_, fun entries n f q hf hq => ?_⟩
  · unfold State.frameUpdate
    rw [fallback]
  · have acts := frameUpdate_eq s k r protects
    have exposures := frameUpdate_exposures s k r protects
    have moves := moves_frameUpdate k s r
    have driven := frameUpdate_driven s k r
    have moved := frameUpdate_moved s k r protects
    have raises := fun y => frameUpdate_raises s k r protects (y := y)
    have frame := (exposureStepped_moves s k r).frame
    have coils := exposureStepped_coils s k r
    have units := exposureStepped_units s k r
    have stepped : ((s.exposureStepped k r).exposures.at k) = (s.stepExposure k r).1 := by
      rw [exposureStepped_exposures, Tab.at_put_self]
    have own : t.exposures.at k = (s.stepExposure k r).1 := by rw [ht, exposures, Tab.at_put_self]
    have cfg := cfg_of_frame frame k
    rw [own] at hb' hn
    have goal_stage : goal = b'.stage := by rw [hgoal]; cases b' <;> rfl
    have band : ((s.exposureStepped k r).exposures.at k).band = b' := by rw [stepped, hb']
    have stage : ((s.exposureStepped k r).coils.at k) = q := by rw [coils, hq]
    rw [← ht] at acts moves driven moved raises
    rw [← hq, ← hq'] at moved
    subst hn
    obtain ⟨starved, warm, cold⟩ := stepConfirm_cases (s.exposures.at k).confirm (s.cfg k).phi r
    rw [← stepExposure_confirm] at starved warm cold
    have after {c : CoilSeq} (h : Restaged k (s.exposureStepped k r) c t) : c.sameButProve q' := by
      rw [hq']
      exact (h.after (exposureStepped_moves s k r) units).own
    refine ⟨onlyProtection_of_frame moves.frame, driven, ?_, fun j other => ?_, starved, warm, cold, fun trip => ?_,
      fun open_ accepted met => ?_, fun open_ below first second third => ?_, fun low high none => ?_, fun low high none => ?_,
      fun stands => ?_, fun free working open_ trip => ?_, fun free settle open_ left hleft => ⟨fun more => ?_, fun last => ?_⟩,
      fun free open_ rises => ?_, fun free stopped falls => ?_, fun free open_ working still => ?_, moved⟩
    · rw [own, he, stepExposure_e]
    · obtain ⟨coil, exposure⟩ := moves.others.1 j other
      exact ⟨exposure, coil⟩
    · rw [hb', stepExposure_tripped (by rw [← hb, trip])]
    · rw [hb', (stepExposure_hard (by rw [← hb]; exact open_) accepted met).1]
    · rw [hb', (stepExposure_ladder (by rw [← hb]; exact open_) below).1, ← hb, ← he]
      exact ladder_rungs first second third open_ e
    · exact raises _ (.inl rfl) (fun q => by rw [← hb, ← hb', low, high]; rfl) none
    · refine raises _ (.inr rfl) (fun q => ?_) none
      rw [← hb, ← hb', high]
      rcases low with low | low <;> rw [low] <;> rfl
    · rw [acts, updateOutcome_stands (by rw [stage]; exact stands)]
      exact ⟨coils, units⟩
    · have trips := updateOutcome_trips (accepted := r.accepted) (cause := (s.stepExposure k r).2)
        (s := s.exposureStepped k r) (k := k) (by rw [stage]; exact free) (by rw [stage]; exact working) (band.trans trip)
      rw [trips] at acts
      have entry := restaged_tripEntry (s := s.exposureStepped k r) (k := k)
        (cause := (s.stepExposure k r).2.getD .exposure)
      rw [← acts] at entry
      obtain ⟨tripped, stopped, settled, rec, record, left, second, level, cause⟩ := tripEntry_record rfl entry.own
      rw [← hq'] at tripped stopped settled record
      rw [stage] at left
      rw [stepped, stepExposure_e, ← he] at level
      refine ⟨tripped, stopped, settled, rec, record, left, second.trans (seqFrame_seconds frame), level, fun accepted met => ?_,
        fun below => ?_⟩
      · rw [cause, (stepExposure_hard (by rw [← hb]; exact open_) accepted met).2]
        rfl
      · rw [cause, (stepExposure_ladder (by rw [← hb]; exact open_) below).2 (by rw [← hb', trip])]
        rfl
    · rw [updateOutcome_settle (by rw [stage]; exact free) (by rw [stage]; exact settle),
        settleOutcome_waits (left := left) (by rw [stage]; exact hleft) (by rw [band]; exact open_) more] at acts
      refine ⟨?_, ?_⟩
      · rw [hq', acts, settleLeft_own, stage]
      · rw [acts]
        exact units
    · rw [updateOutcome_settle (by rw [stage]; exact free) (by rw [stage]; exact settle)] at acts
      have ends := settleOutcome_ends (left := left) (s := s.exposureStepped k r) (k := k) (by rw [stage]; exact hleft)
        (by rw [band]; exact open_) ((s.stepExposure k r).2.getD .exposure) last
      rw [← acts, stage, band, cfg, ← goal_stage] at ends
      exact after ends
    · have free' : ((s.exposureStepped k r).coils.at k).forced = false := by rw [stage]; exact free
      have working : q.stage = .watch ∨ q.stage = .guard ∨ q.stage = .boost :=
        rises.elim (fun h => .inl h.1) fun h => .inr (.inl h.1)
      rw [updateOutcome_working free' (by rw [stage]; exact working)] at acts
      obtain ⟨level, promotes⟩ := workingOutcome_promotes (c := (s.stepExposure k r).2.getD .exposure) band open_
        (by rw [stage]; exact rises)
      have ends := restaged_promote_matching (s := s.exposureStepped k r) (k := k) band level
      rw [← promotes, ← acts, stage, cfg, ← goal_stage] at ends
      exact after ends
    · have free' : ((s.exposureStepped k r).coils.at k).forced = false := by rw [stage]; exact free
      have working : q.stage = .watch ∨ q.stage = .guard ∨ q.stage = .boost :=
        falls.elim (fun h => .inr (.inl h.1)) fun h => .inr (.inr h.1)
      rw [updateOutcome_working free' (by rw [stage]; exact working)] at acts
      obtain ⟨below, demotes⟩ := workingOutcome_demotes (c := (s.stepExposure k r).2.getD .exposure) band (by rw [stage]; exact falls)
      rw [demotes, demote_acts free' (by rw [stage]; exact stopped) (by rw [band]; exact below), band] at acts
      have ends := restaged_enterStage (s := s.exposureStepped k r) (k := k) b'.stage
      rw [← acts, stage, cfg] at ends
      have enters : q.enter b'.stage (s.cfg k).settleFrames = { q with stage := goal, settle := 0 } := by
        rw [goal_stage]
        rcases falls with ⟨-, rfl⟩ | ⟨-, rfl | rfl⟩ <;> rfl
      rw [enters] at ends
      exact after ends
    · have free' : ((s.exposureStepped k r).coils.at k).forced = false := by rw [stage]; exact free
      rw [updateOutcome_working free' (by rw [stage]; exact working)] at acts
      suffices stands : (s.exposureStepped k r).workingOutcome k ((s.stepExposure k r).2.getD .exposure) = s.exposureStepped k r by
        rw [acts, stands]
        exact ⟨coils, units⟩
      rcases still with same | ⟨⟨d, runs⟩, falls⟩
      · exact workingOutcome_matches band open_ (by rw [stage, same, goal_stage])
      · by_cases same : q.stage = goal
        · exact workingOutcome_matches band open_ (by rw [stage, same, goal_stage])
        · have falls : q.stage = .guard ∧ b' = .clear ∨ q.stage = .boost ∧ (b' = .clear ∨ b' = .advise1) := by
            refine falls.imp_right fun boost => ⟨boost, ?_⟩
            cases b' with
            | clear => exact .inl rfl
            | advise1 => exact .inr rfl
            | advise2 => exact absurd (boost.trans goal_stage.symm) same
            | trip => exact absurd rfl open_
          rw [(workingOutcome_demotes band (by rw [stage]; exact falls)).2,
            demote_stands (.inr (.inl (by rw [stage, runs]; exact Option.some_ne_none d)))]
  · have report := report_fields f n s.plantSeconds
    rw [← hq] at report
    obtain ⟨status, fresh, absent⟩ := report
    subst hf hq
    exact ⟨rfl, status, rfl, rfl, rfl, rfl, fresh, absent⟩

end Sys2Proof.Machine
end

section
/-! PROOF. A frame's close looks at its own coil alone: two states that agree on coil `k` agree on it after its close (O47, O48). -/

namespace Sys2Proof.Machine

open Sys2Proof

theorem sameButProve_symm {r r' : CoilSeq} (h : r.sameButProve r') : r'.sameButProve r := by
  obtain ⟨p, n, rfl⟩ := sameButProve_iff.mp h
  exact sameButProve_iff.mpr ⟨r.prove, r.proveTimer, rfl⟩

theorem seqFrame_channels {s t : State} (h : seqFrame s t) : t.channels = s.channels := by
  rw [show t = _ from h]

/-- What coil `k`'s sequencer and engine read stands, but for pump proving. -/
structure Twin (k : Fin 6) (s t : State) : Prop where
  mode : t.mode = s.mode
  tables : t.tables = s.tables
  seconds : t.plantSeconds = s.plantSeconds
  channels : t.channels = s.channels
  face : t.faces.at k = s.faces.at k
  exposure : t.exposures.at k = s.exposures.at k
  coil : (s.coils.at k).sameButProve (t.coils.at k)

section
variable {k : Fin 6} {s t : State} (h : Twin k s t)
include h

theorem Twin.cfg : t.cfg k = s.cfg k := by
  unfold State.cfg
  rw [h.tables]

theorem Twin.temps (c : Option (Fin 16)) : t.validTemp c = s.validTemp c := by
  unfold State.validTemp
  rw [h.channels]

omit h in
/-- Two stage changes that write the same record. -/
theorem Restaged.same {s' t' : State} {r r' : CoilSeq} (hs : Restaged k s r s') (ht : Restaged k t r' t') (same : r.sameButProve r') :
    (s'.coils.at k).sameButProve (t'.coils.at k) :=
  sameButProve_trans (sameButProve_symm hs.own) (sameButProve_trans same ht.own)

theorem Twin.enters (st : CoilStage) : ((s.enterStage k st).coils.at k).sameButProve ((t.enterStage k st).coils.at k) := by
  refine (restaged_enterStage st).same (restaged_enterStage st) ?_
  rw [h.cfg]
  exact enter_sameButProve h.coil st _

theorem Twin.demotes : ((s.demote k).coils.at k).sameButProve ((t.demote k).coils.at k) := by
  obtain ⟨stage, -, holdDown, -, forced, -⟩ := sameButProve_fields h.coil
  unfold State.demote
  dsimp only
  rw [stage, holdDown, forced, h.exposure]
  split
  · exact h.enters _
  · exact h.coil

end

/-- Coil `k`'s record after a promotion to `st`, with a demotion of R92 behind it where the hold-down is 0 s. -/
def promotedSeq (r : CoilSeq) (c : CoilCfg) (b : Band) (st : CoilStage) : CoilSeq :=
  if 0 < c.holdDown then { r.enter st c.settleFrames with holdDown := some c.holdDown }
  else if (r.enter st c.settleFrames).forced = false ∧ belowStage (r.enter st c.settleFrames).stage b = true
  then { r.enter st c.settleFrames with holdDown := none }.enter b.stage c.settleFrames
  else { r.enter st c.settleFrames with holdDown := none }

theorem restaged_promotedSeq {s : State} {k : Fin 6} (st : CoilStage) :
    Restaged k s (promotedSeq (s.coils.at k) (s.cfg k) (s.exposures.at k).band st) (s.promote k st) := by
  unfold promotedSeq
  split
  · exact restaged_promote st ‹_›
  · have promotes := restaged_promoted (s := s) (k := k) st
    have band : ((s.promoted k st).exposures.at k).band = (s.exposures.at k).band := by rw [promoted_exposures]
    rw [promote_zero st (by omega)]
    split
    · rename_i below
      rw [← band] at below ⊢
      exact promotes.demoted below.1 rfl below.2
    · rename_i stays
      rw [← band] at stays
      rw [promotes.undemoted]
      · exact promotes
      · rcases not_and_or.mp stays with forced | above
        · exact .inl (Bool.eq_true_of_not_eq_false forced)
        · exact .inr (.inr (Bool.eq_false_of_not_eq_true above))

theorem promotedSeq_sameButProve {r r' : CoilSeq} (h : r.sameButProve r') (c : CoilCfg) (b : Band) (st : CoilStage) :
    (promotedSeq r c b st).sameButProve (promotedSeq r' c b st) := by
  have entered := enter_sameButProve h st c.settleFrames
  generalize he : r.enter st c.settleFrames = e at entered
  generalize he' : r'.enter st c.settleFrames = e' at entered
  obtain ⟨p, n, rfl⟩ := sameButProve_iff.mp entered
  unfold promotedSeq
  rw [he, he']
  dsimp only
  split
  · exact sameButProve_iff.mpr ⟨p, n, rfl⟩
  · split
    · exact enter_sameButProve (sameButProve_iff.mpr ⟨p, n, rfl⟩) _ _
    · exact sameButProve_iff.mpr ⟨p, n, rfl⟩

section
variable {k : Fin 6} {s t : State} (h : Twin k s t)
include h

theorem Twin.promotes (st : CoilStage) : ((s.promote k st).coils.at k).sameButProve ((t.promote k st).coils.at k) := by
  refine (restaged_promotedSeq st).same (restaged_promotedSeq st) ?_
  rw [h.cfg, h.exposure]
  exact promotedSeq_sameButProve h.coil _ _ st

theorem Twin.tripSeq (cause : TripCause) : (s.tripSeq k cause).sameButProve (t.tripSeq k cause) := by
  obtain ⟨stage, -, -, -, -, -, history⟩ := sameButProve_fields h.coil
  have record (n : Nat) : t.tripRecordOf k cause n = s.tripRecordOf k cause n := by
    unfold State.tripRecordOf
    simp only [h.temps, h.cfg, h.face, h.exposure, h.seconds, stage]
  obtain ⟨p, n, e⟩ := sameButProve_iff.mp h.coil
  refine sameButProve_iff.mpr ⟨p, n, ?_⟩
  unfold State.tripSeq
  rw [history, record, h.seconds, h.cfg, e]

theorem Twin.trips (cause : TripCause) : ((s.tripEntry k cause).coils.at k).sameButProve ((t.tripEntry k cause).coils.at k) := by
  obtain ⟨-, -, -, -, -, -, history⟩ := sameButProve_fields h.coil
  obtain ⟨p, n, e⟩ := sameButProve_iff.mp (h.tripSeq cause)
  refine restaged_tripEntry.same restaged_tripEntry ?_
  rw [history, h.seconds, h.cfg, e]
  split
  · exact enter_sameButProve (sameButProve_iff.mpr ⟨p, n, rfl⟩) _ _
  · exact enter_sameButProve (sameButProve_iff.mpr ⟨p, n, rfl⟩) _ _

theorem Twin.settles (n : Nat) : Twin k (s.settleLeft k n) (t.settleLeft k n) := by
  refine ⟨h.mode, h.tables, h.seconds, h.channels, h.face, h.exposure, ?_⟩
  rw [settleLeft_own, settleLeft_own]
  obtain ⟨p, m, e⟩ := sameButProve_iff.mp h.coil
  exact sameButProve_iff.mpr ⟨p, m, by rw [e]⟩

theorem Twin.settleOutcome (accepted : Bool) (cause : TripCause) :
    ((s.settleOutcome k accepted cause).coils.at k).sameButProve ((t.settleOutcome k accepted cause).coils.at k) := by
  obtain ⟨-, settle, -⟩ := sameButProve_fields h.coil
  by_cases trip : (s.exposures.at k).band = .trip
  · rw [settleOutcome_trips trip, settleOutcome_trips (by rw [h.exposure]; exact trip)]
    exact h.trips cause
  · have open_ : (t.exposures.at k).band ≠ .trip := by rw [h.exposure]; exact trip
    have left : (if accepted then (s.coils.at k).settle - 1 else (s.coils.at k).settle) =
        if accepted then (t.coils.at k).settle - 1 else (t.coils.at k).settle := by rw [settle]
    rcases Nat.eq_zero_or_pos (if accepted then (s.coils.at k).settle - 1 else (s.coils.at k).settle) with last | more
    · rw [settleOutcome_leaves rfl trip last, settleOutcome_leaves (s := t) left open_ last, h.exposure]
      split
      · exact (h.settles _).enters _
      · exact (h.settles _).promotes _
    · rw [settleOutcome_waits rfl trip more, settleOutcome_waits (s := t) left open_ more]
      exact (h.settles _).coil

theorem Twin.workingOutcome (cause : TripCause) :
    ((s.workingOutcome k cause).coils.at k).sameButProve ((t.workingOutcome k cause).coils.at k) := by
  obtain ⟨stage, -⟩ := sameButProve_fields h.coil
  unfold State.workingOutcome
  rw [stage, h.exposure]
  split
  · exact h.trips cause
  · exact h.promotes _
  · exact h.promotes _
  · exact h.promotes _
  · exact h.demotes

theorem Twin.updateOutcome (accepted : Bool) (cause : Option TripCause) :
    ((s.updateOutcome k accepted cause).coils.at k).sameButProve ((t.updateOutcome k accepted cause).coils.at k) := by
  obtain ⟨stage, -, -, -, forced, -⟩ := sameButProve_fields h.coil
  unfold State.updateOutcome
  dsimp only
  rw [stage, forced]
  split
  · exact h.coil
  · split
    · exact h.settleOutcome accepted _
    · exact h.workingOutcome _
    · exact h.workingOutcome _
    · exact h.workingOutcome _
    · exact h.coil
    · exact h.coil
    · exact h.coil

theorem Twin.stepExposure (r : FrameReport) : t.stepExposure k r = s.stepExposure k r := by
  unfold State.stepExposure State.stepE State.waterMultiplier
  rw [h.cfg, h.exposure, h.temps]

theorem Twin.stepped (r : FrameReport) : Twin k (s.exposureStepped k r) (t.exposureStepped k r) := by
  have frame := (exposureStepped_moves s k r).frame
  have frame' := (exposureStepped_moves t k r).frame
  refine ⟨?_, ?_, ?_, ?_, ?_, ?_, ?_⟩
  · rw [seqFrame_mode frame', seqFrame_mode frame, h.mode]
  · rw [seqFrame_tables frame', seqFrame_tables frame, h.tables]
  · rw [seqFrame_seconds frame', seqFrame_seconds frame, h.seconds]
  · rw [seqFrame_channels frame', seqFrame_channels frame, h.channels]
  · rw [seqFrame_faces frame', seqFrame_faces frame, h.face]
  · rw [exposureStepped_exposures, exposureStepped_exposures, Tab.at_put_self, Tab.at_put_self, h.stepExposure]
  · rw [exposureStepped_coils, exposureStepped_coils]
    exact h.coil

/-- A frame update gives coil `k` the same record in both states. -/
theorem Twin.frameUpdate (r : FrameReport) : ((s.frameUpdate k r).coils.at k).sameButProve ((t.frameUpdate k r).coils.at k) ∧
    (t.frameUpdate k r).exposures.at k = (s.frameUpdate k r).exposures.at k := by
  by_cases fallback : s.mode = .fallback
  · rw [show s.frameUpdate k r = s by unfold State.frameUpdate; rw [fallback],
      show t.frameUpdate k r = t by unfold State.frameUpdate; rw [h.mode, fallback]]
    exact ⟨h.coil, h.exposure⟩
  · have protects : t.mode ≠ .fallback := by rw [h.mode]; exact fallback
    rw [frameUpdate_exposures s k r fallback, frameUpdate_exposures t k r protects, Tab.at_put_self, Tab.at_put_self, h.stepExposure,
      frameUpdate_eq s k r fallback, frameUpdate_eq t k r protects, h.stepExposure]
    exact ⟨(h.stepped r).updateOutcome _ _, rfl⟩

theorem Twin.closeFace (entries : List SnapEntry) : t.closeFace k entries = s.closeFace k entries := by
  have fallback : t.blindFallback k = s.blindFallback k := by
    unfold State.blindFallback
    rw [h.cfg, h.temps]
  have cEff (f : FaceState) (cold : Int) (held : Option Int) : t.cEffOf k f cold held = s.cEffOf k f cold held := by
    unfold State.cEffOf
    rw [fallback]
  unfold State.closeFace
  simp only [cEff, h.cfg, h.face, h.seconds]

end

/-! ## The close of one coil's frame -/

/-- The state with coil `k`'s face brought up to date by a close and its alerts handed over, before the report (R59, R64). -/
def State.faceClosed (s : State) (k : Fin 6) (entries : List SnapEntry) : State :=
  ((s.setFace k (s.closeFace k entries)).handRagged k).handBlind k

theorem onlyAlerts_handRagged (s : State) (k : Fin 6) : onlyAlerts s (s.handRagged k) := by
  unfold State.handRagged
  split <;> rfl

theorem onlyAlerts_faced (s : State) (k : Fin 6) : onlyAlerts s ((s.handRagged k).handBlind k) :=
  onlyAlerts_trans (onlyAlerts_handRagged s k) rfl

section
variable (s : State) (k : Fin 6) (entries : List SnapEntry)

theorem closeCoilFrame_eq (n : Nat) : s.closeCoilFrame k entries n =
    (s.faceClosed k entries).frameUpdate k ((s.closeFace k entries).report n s.plantSeconds) := rfl

theorem faceClosed_only : onlyAlerts (s.setFace k (s.closeFace k entries)) (s.faceClosed k entries) := onlyAlerts_faced _ k

theorem faceClosed_twin {t : State} (h : Twin k s t) : Twin k (s.faceClosed k entries) (t.faceClosed k entries) := by
  have only := faceClosed_only s k entries
  have only' := faceClosed_only t k entries
  refine ⟨?_, ?_, ?_, ?_, ?_, ?_, ?_⟩
  · rw [only'.mode, only.mode]
    exact h.mode
  · rw [only'.tables, only.tables]
    exact h.tables
  · rw [only'.reads State.plantSeconds fun _ _ _ => rfl, only.reads State.plantSeconds fun _ _ _ => rfl]
    exact h.seconds
  · rw [only'.reads State.channels fun _ _ _ => rfl, only.reads State.channels fun _ _ _ => rfl]
    exact h.channels
  · rw [only'.faces, only.faces, State.setFace_faces, State.setFace_faces, Tab.at_put_self, Tab.at_put_self, h.closeFace]
  · rw [only'.exposures, only.exposures]
    exact h.exposure
  · rw [only'.coils, only.coils]
    exact h.coil

/-- Its own close gives coil `k` the same record in both states. -/
theorem Twin.closes {s t : State} {k : Fin 6} (h : Twin k s t) (entries : List SnapEntry) (n : Nat) :
    ((s.closeCoilFrame k entries n).coils.at k).sameButProve ((t.closeCoilFrame k entries n).coils.at k) ∧
    (t.closeCoilFrame k entries n).exposures.at k = (s.closeCoilFrame k entries n).exposures.at k := by
  rw [closeCoilFrame_eq, closeCoilFrame_eq, h.closeFace, h.seconds]
  exact (faceClosed_twin s k entries h).frameUpdate _

end

end Sys2Proof.Machine
end

section
/-! PROOF. What the close of a frame leaves of every coil (O47, O48). -/

namespace Sys2Proof.Machine

open Sys2Proof

/-! ## What a close leaves of the other coils -/

/-- A source that an event of coil `k` and unit `u` neither raises nor tells keeps its record. -/
theorem Moves.source {k : Fin 6} {u : Fin 3} {s t : State} (h : Moves k u s t) {y : Fin 65}
    (edge : y ≠ srcAdvise1 k ∧ y ≠ srcAdvise2 k ∧ y ≠ srcSecured u)
    (level : y ≠ srcTrip k ∧ y ≠ srcLockout k ∧ (∀ j, y ≠ srcPumpFail j) ∧ y ≠ srcSecureFault u) :
    t.alerts.sources.at y = s.alerts.sources.at y := by
  obtain ⟨advise1, advise2, secured⟩ := edge
  obtain ⟨trip, lockout, pump, fault⟩ := level
  induction h with
  | refl => rfl
  | coil _ _ ih => exact ih
  | prove _ _ _ _ ih => exact ih
  | exposure _ _ _ ih => exact ih
  | unit _ _ ih => exact ih
  | outputs _ _ ih => exact ih
  | @edge w _ x hx ih =>
    refine (Alerts.raiseEdge_other w.alerts fun same => ?_).trans ih
    rcases hx with hx | hx | hx
    · exact advise1 (same.trans hx)
    · exact advise2 (same.trans hx)
    · exact secured (same.trans hx)
  | @level w _ x c hx ih =>
    refine (Alerts.handLevel_other w.alerts (fun same => ?_) c).trans ih
    rcases hx with hx | hx | ⟨j, hx⟩ | hx
    · exact trip (same.trans hx)
    · exact lockout (same.trans hx)
    · exact pump j (same.trans hx)
    · exact fault (same.trans hx)
  | @lockout w _ ih =>
    rw [lockoutChange_eq w]
    exact ih

/-- RAGGED and BLIND of any coil are none of an event's own sources. -/
theorem Moves.faceSources {k : Fin 6} {u : Fin 3} {s t : State} (h : Moves k u s t) (j : Fin 6) :
    t.alerts.sources.at (srcRagged j) = s.alerts.sources.at (srcRagged j) ∧
      t.alerts.sources.at (srcBlind j) = s.alerts.sources.at (srcBlind j) := by
  refine ⟨h.source ?_ ?_, h.source ?_ ?_⟩ <;>
    simp [srcRagged, srcBlind, srcAdvise1, srcAdvise2, srcSecured, srcTrip, srcLockout, srcPumpFail, srcSecureFault]

/-- From `s` to `t` coil `k`'s records and its two face sources stand, but for pump proving. -/
structure Leaves (k : Fin 6) (s t : State) : Prop where
  frame : busFrame s t
  face : t.faces.at k = s.faces.at k
  exposure : t.exposures.at k = s.exposures.at k
  coil : (s.coils.at k).sameButProve (t.coils.at k)
  ragged : t.alerts.sources.at (srcRagged k) = s.alerts.sources.at (srcRagged k)
  blind : t.alerts.sources.at (srcBlind k) = s.alerts.sources.at (srcBlind k)

section
variable {k : Fin 6} {s t u : State}

theorem Leaves.refl (k : Fin 6) (s : State) : Leaves k s s := ⟨busFrame_refl s, rfl, rfl, sameButProve_refl _, rfl, rfl⟩

theorem Leaves.trans (h : Leaves k s t) (h' : Leaves k t u) : Leaves k s u :=
  ⟨busFrame_trans h.frame h'.frame, h'.face.trans h.face, h'.exposure.trans h.exposure, sameButProve_trans h.coil h'.coil,
    h'.ragged.trans h.ragged, h'.blind.trans h.blind⟩

theorem busFrame_tables (h : busFrame s t) : t.tables = s.tables := by rw [show t = _ from h]
theorem busFrame_mode (h : busFrame s t) : t.mode = s.mode := by rw [show t = _ from h]
theorem busFrame_seconds (h : busFrame s t) : t.plantSeconds = s.plantSeconds := by rw [show t = _ from h]
theorem busFrame_channels (h : busFrame s t) : t.channels = s.channels := by rw [show t = _ from h]

theorem busFrame_coilOf (h : busFrame s t) (g : Fin 3) (j : Fin 6) : t.coilOf g j = s.coilOf g j := by
  unfold State.coilOf State.cfg
  rw [busFrame_tables h]

theorem Leaves.twin (h : Leaves k s t) : Twin k s t :=
  ⟨busFrame_mode h.frame, busFrame_tables h.frame, busFrame_seconds h.frame, busFrame_channels h.frame, h.face, h.exposure, h.coil⟩

theorem handRagged_source {j : Fin 6} {y : Fin 65} (other : y ≠ srcRagged j) :
    (s.handRagged j).alerts.sources.at y = s.alerts.sources.at y := by
  unfold State.handRagged
  split
  · exact Alerts.raiseEdge_other _ other
  · rfl

/-- A source other than coil `j`'s two face sources keeps its record as the face is brought up to date. -/
theorem faceClosed_source {j : Fin 6} {entries : List SnapEntry} {y : Fin 65} (ragged : y ≠ srcRagged j) (blind : y ≠ srcBlind j) :
    (s.faceClosed j entries).alerts.sources.at y = s.alerts.sources.at y := by
  refine (Alerts.handLevel_other _ blind _).trans ?_
  rw [handRagged_source ragged]
  rfl

/-- The close of another coil's frame. -/
theorem closeCoilFrame_leaves {j : Fin 6} (other : k ≠ j) (entries : List SnapEntry) (n : Nat) :
    Leaves k s (s.closeCoilFrame j entries n) := by
  have only := faceClosed_only s j entries
  have moves := moves_frameUpdate j (s.faceClosed j entries) ((s.closeFace j entries).report n s.plantSeconds)
  obtain ⟨coil, exposure⟩ := moves.others.1 k other
  obtain ⟨ragged, blind⟩ := moves.faceSources k
  rw [only.coils] at coil
  rw [only.exposures] at exposure
  rw [faceClosed_source (by simp [srcRagged, other]) (by simp [srcRagged, srcBlind])] at ragged
  rw [faceClosed_source (by simp [srcRagged, srcBlind]) (by simp [srcBlind, other])] at blind
  refine ⟨busFrame_closeCoilFrame s j entries n, ?_, exposure, coil, ragged, blind⟩
  rw [closeCoilFrame_eq, seqFrame_faces moves.frame, only.faces, State.setFace_faces, Tab.at_put_of_ne _ _ other]

theorem handFrame_leaves {g : Fin 3} {l : List SnapEntry} {n : Nat} {j : Fin 6} (h : k ≠ j ∨ s.coilOf g k = false) :
    Leaves k s (State.handFrame g l n s j) := by
  unfold State.handFrame
  split
  · rename_i own
    refine closeCoilFrame_leaves (fun same => ?_) _ n
    rcases h with other | out
    · exact other same
    · rw [same, own] at out
      cases out
  · exact .refl k s

theorem foldFrames_leaves {g : Fin 3} {l : List SnapEntry} {n : Nat} (set : List (Fin 6)) (h : k ∉ set ∨ s.coilOf g k = false) :
    Leaves k s (set.foldl (State.handFrame g l n) s) := by
  induction set generalizing s with
  | nil => exact .refl k s
  | cons j set ih =>
    have first : Leaves k s (State.handFrame g l n s j) := handFrame_leaves (h.imp (fun out same => out (same ▸ List.mem_cons_self)) id)
    refine first.trans (ih (h.imp (fun out hk => out (List.mem_cons_of_mem _ hk)) fun out => ?_))
    rw [busFrame_coilOf first.frame]
    exact out

/-! ## What a close leaves of masters, health and units -/

theorem seqFrame_health (h : seqFrame s t) : t.health = s.health := by rw [show t = _ from h]

theorem handFrame_kept (g : Fin 3) (l : List SnapEntry) (n : Nat) (s : State) (j : Fin 6) :
    (State.handFrame g l n s j).masters = s.masters ∧ (State.handFrame g l n s j).health = s.health ∧
      ∀ u, u ≠ g → (State.handFrame g l n s j).units.at u = s.units.at u := by
  unfold State.handFrame
  split
  · rename_i own
    generalize l.filter (fun e => e.coil == some j) = entries
    have only := faceClosed_only s j entries
    have moves := moves_frameUpdate j (s.faceClosed j entries) ((s.closeFace j entries).report n s.plantSeconds)
    have unit : ((s.faceClosed j entries).cfg j).unit = g := by
      rw [only.cfg]
      unfold State.coilOf at own
      simp only [Bool.and_eq_true, decide_eq_true_eq] at own
      exact own.2
    refine ⟨?_, ?_, fun u other => ?_⟩
    · rw [closeCoilFrame_eq, seqFrame_masters moves.frame, only.reads State.masters fun _ _ _ => rfl]
      rfl
    · rw [closeCoilFrame_eq, seqFrame_health moves.frame, only.reads State.health fun _ _ _ => rfl]
      rfl
    · rw [closeCoilFrame_eq, moves.others.2 u (by rw [unit]; exact other), only.units]
      rfl
  · exact ⟨rfl, rfl, fun _ _ => rfl⟩

theorem foldFrames_kept (g : Fin 3) (l : List SnapEntry) (n : Nat) (set : List (Fin 6)) (s : State) :
    (set.foldl (State.handFrame g l n) s).masters = s.masters ∧ (set.foldl (State.handFrame g l n) s).health = s.health ∧
      ∀ u, u ≠ g → (set.foldl (State.handFrame g l n) s).units.at u = s.units.at u := by
  induction set generalizing s with
  | nil => exact ⟨rfl, rfl, fun _ _ => rfl⟩
  | cons j set ih =>
    obtain ⟨masters, health, units⟩ := handFrame_kept g l n s j
    obtain ⟨masters', health', units'⟩ := ih (State.handFrame g l n s j)
    exact ⟨masters'.trans masters, health'.trans health, fun u other => (units' u other).trans (units u other)⟩

theorem closeFrame_masters (s : State) (g : Fin 3) : (s.closeFrame g).masters = s.masters := (foldFrames_kept g _ _ _ s).1
theorem closeFrame_health (s : State) (g : Fin 3) : (s.closeFrame g).health = s.health := (foldFrames_kept g _ _ _ s).2.1

/-! ## The coil whose frame closes -/

/-- Its own close leaves coil `k` with the closed face, BLIND told, and RAGGED raised where the frame is ragged (R55 to R65). -/
theorem closeCoilFrame_own (s : State) (k : Fin 6) (entries : List SnapEntry) (n : Nat) :
    (s.closeCoilFrame k entries n).faces.at k = s.closeFace k entries ∧
      (s.closeCoilFrame k entries n).told (srcBlind k) = (s.closeCoilFrame k entries n).blindCondition k ∧
      ((s.closeFace k entries).ragged = true → (s.alerts.sources.at (srcRagged k)).membership = .none →
        ((s.closeCoilFrame k entries n).alerts.sources.at (srcRagged k)).membership = .pending) ∧
      ((s.closeFace k entries).ragged = false →
        (s.closeCoilFrame k entries n).alerts.sources.at (srcRagged k) = s.alerts.sources.at (srcRagged k)) := by
  have only := faceClosed_only s k entries
  have moves := moves_frameUpdate k (s.faceClosed k entries) ((s.closeFace k entries).report n s.plantSeconds)
  obtain ⟨ragged, blind⟩ := moves.faceSources k
  have face : (s.faceClosed k entries).faces.at k = s.closeFace k entries := by
    rw [only.faces, State.setFace_faces, Tab.at_put_self]
  have edge : (s.faceClosed k entries).alerts.sources.at (srcRagged k) =
      ((s.setFace k (s.closeFace k entries)).handRagged k).alerts.sources.at (srcRagged k) :=
    Alerts.handLevel_other _ (by simp [srcRagged, srcBlind]) _
  have own : (s.setFace k (s.closeFace k entries)).faces.at k = s.closeFace k entries := by
    rw [State.setFace_faces, Tab.at_put_self]
  rw [closeCoilFrame_eq, ragged, edge]
  refine ⟨?_, ?_, fun some none => ?_, fun none => ?_⟩
  · rw [seqFrame_faces moves.frame, face]
  · unfold State.told
    rw [blind]
    have told : (s.faceClosed k entries).told (srcBlind k) =
        ((s.setFace k (s.closeFace k entries)).handRagged k).blindCondition k := told_handLevel_self _ _ _
    refine told.trans ?_
    have before := onlyAlerts_handRagged (s.setFace k (s.closeFace k entries)) k
    unfold State.blindCondition
    rw [before.cfg, before.faces, own, seqFrame_faces moves.frame, face, cfg_of_frame moves.frame, only.cfg]
  · rw [State.handRagged, own, if_pos some]
    exact raiseEdge_pending none
  · rw [State.handRagged, own, if_neg (by rw [none]; decide)]
    rfl

/-- In the close of a whole frame a coil of the set has its own close, with the others before and after it. -/
theorem foldFrames_closes {g : Fin 3} {l : List SnapEntry} {n : Nat} {set : List (Fin 6)} (once : set.Nodup) {s : State} {k : Fin 6}
    (member : k ∈ set) (own : s.coilOf g k = true) : ∃ a, Leaves k s a ∧
      Leaves k (a.closeCoilFrame k (l.filter fun e => e.coil == some k) n) (set.foldl (State.handFrame g l n) s) := by
  obtain ⟨before, after, rfl⟩ := List.append_of_mem member
  have apart := List.nodup_append.mp once
  have first : k ∉ before := fun hk => apart.2.2 k hk k List.mem_cons_self rfl
  have last : k ∉ after := (List.nodup_cons.mp apart.2.1).1
  have start := foldFrames_leaves (s := s) (g := g) (l := l) (n := n) before (.inl first)
  refine ⟨_, start, ?_⟩
  rw [List.foldl_append, List.foldl_cons, State.handFrame, if_pos (by rw [busFrame_coilOf start.frame]; exact own)]
  exact foldFrames_leaves after (.inl last)

end

/-! ## The segment's own updates -/

/-- The masters, point health and BUS_FAULT alone differ. -/
structure Quiet (s t : State) : Prop where
  frame : busFrame s t
  faces : t.faces = s.faces
  coils : t.coils = s.coils
  exposures : t.exposures = s.exposures
  units : t.units = s.units
  sources : ∀ y, (∀ u, y ≠ srcBusFault u) → t.alerts.sources.at y = s.alerts.sources.at y

section
variable {s t u : State}

theorem Quiet.refl (s : State) : Quiet s s := ⟨busFrame_refl s, rfl, rfl, rfl, rfl, fun _ _ => rfl⟩

theorem Quiet.trans (h : Quiet s t) (h' : Quiet t u) : Quiet s u :=
  ⟨busFrame_trans h.frame h'.frame, h'.faces.trans h.faces, h'.coils.trans h.coils, h'.exposures.trans h.exposures,
    h'.units.trans h.units, fun y other => (h'.sources y other).trans (h.sources y other)⟩

theorem quiet_setMaster (s : State) (g : Fin 3) (m : Master) : Quiet s (s.setMaster g m) := ⟨rfl, rfl, rfl, rfl, rfl, fun _ _ => rfl⟩

theorem quiet_setMasterState (s : State) (g : Fin 3) (st : MasterState) : Quiet s (s.setMasterState g st) := quiet_setMaster s g _

theorem quiet_giveResult (g : Fin 3) (r : PointResult) (s : State) (p : Fin 48) : Quiet s (State.giveResult g r s p) :=
  ⟨rfl, rfl, rfl, rfl, rfl, fun _ _ => rfl⟩

theorem quiet_setBusFault (s : State) (g : Fin 3) (v : Bool) : Quiet s (s.setBusFault g v) :=
  ⟨rfl, rfl, rfl, rfl, rfl, fun _ other => Alerts.handLevel_other _ (other g) _⟩

theorem quiet_countCut (s : State) (g : Fin 3) : Quiet s (s.countCut g) := by
  unfold State.countCut
  dsimp only
  split
  · exact .refl s
  · exact quiet_setMaster s g _

theorem quiet_giveResults (g : Fin 3) (r : PointResult) (l : List (Fin 48)) (s : State) : Quiet s (l.foldl (State.giveResult g r) s) := by
  induction l generalizing s with
  | nil => exact .refl s
  | cons p l ih => exact (quiet_giveResult g r s p).trans (ih _)

theorem quiet_giveRest (s : State) (g : Fin 3) (r : PointResult) : Quiet s (s.giveRest g r) := quiet_giveResults g r _ s

theorem quiet_openFrame (s : State) (g : Fin 3) : Quiet s (s.openFrame g) := quiet_setMaster s g _

theorem Quiet.leaves (h : Quiet s t) (k : Fin 6) : Leaves k s t := by
  refine ⟨h.frame, by rw [h.faces], by rw [h.exposures], by rw [h.coils]; exact sameButProve_refl _, h.sources _ fun u => ?_,
    h.sources _ fun u => ?_⟩
  · simp [srcRagged, srcBusFault]
  · simp [srcBlind, srcBusFault]

end

/-! ## The whole frame -/

theorem onlyFrames_of_ends {s q t : State} (e : Ends q t) (h : busFrame s q) : onlyFrames s t := by
  have only := e.only
  unfold onlyFrames onlyProtection
  unfold onlyAlerts at only ⊢
  rw [only, h]

/-- A frame that closes with the entries `l`, the segment's own updates before and after it, to the end of its event. -/
theorem framesClosed_of {s q w t : State} {g : Fin 3} {l : List SnapEntry} (before : Quiet s q)
    (snapshot : (q.masters.at g).snapshot = l) (set : (q.masters.at g).coilSet = (s.masters.at g).coilSet)
    (interval : (q.masters.at g).intervalAtOpen = (s.masters.at g).intervalAtOpen) (after : Quiet (q.closeFrame g) w) (e : Ends w t) :
    framesClosed s t g l := by
  have closing : q.closeFrame g = (s.masters.at g).coilSet.foldl (State.handFrame g l (s.masters.at g).intervalAtOpen) q := by
    unfold State.closeFrame
    dsimp only
    rw [snapshot, set, interval]
  refine ⟨fun k out => ?_, fun u other => ?_, fun once k member own entries f b hentries hf hb => ?_⟩
  · have leaves : Leaves k q (q.closeFrame g) := by
      rw [closing]
      exact foldFrames_leaves _ (out.imp_right fun out => (busFrame_coilOf before.frame g k).trans out)
    have whole := ((before.leaves k).trans leaves).trans (after.leaves k)
    rw [e.only.faces, e.only.exposures, e.only.coils]
    exact ⟨whole.face, whole.exposure, whole.coil⟩
  · rw [e.only.units, after.units, closing, (foldFrames_kept g l _ _ q).2.2 u other, before.units]
  · obtain ⟨a, first, last⟩ := foldFrames_closes (l := l) (n := (s.masters.at g).intervalAtOpen) once (s := q) member
      ((busFrame_coilOf before.frame g k).trans own)
    rw [← closing, ← hentries] at last
    have first := (before.leaves k).trans first
    have last := last.trans (after.leaves k)
    obtain ⟨face, blind, raises, stands⟩ := closeCoilFrame_own a k entries (s.masters.at g).intervalAtOpen
    obtain ⟨coil, exposure⟩ := first.twin.closes entries (s.masters.at g).intervalAtOpen
    rw [first.twin.closeFace, ← hf] at face raises stands
    rw [first.ragged] at raises stands
    rw [← hb] at coil exposure
    have cfg : w.cfg k = (a.closeCoilFrame k entries (s.masters.at g).intervalAtOpen).cfg k := last.twin.cfg
    have ragged : f.ragged = true ↔ f.status = .accepted ∧ f.missingSet ≠ [] := by
      unfold Face.ragged
      simp
    refine ⟨?_, ?_, ?_, ?_, fun accepted missing => e.raised fun none => ?_, fun whole none => ?_⟩
    · rw [e.only.faces, last.face, face]
    · rw [e.told, e.only.reads (State.blindCondition · k) fun _ _ _ => rfl]
      unfold State.told State.blindCondition
      rw [last.blind, cfg, last.face]
      exact blind
    · rw [e.only.exposures, last.exposure, exposure]
    · rw [e.only.coils]
      exact sameButProve_trans coil last.coil
    · rw [last.ragged]
      exact raises (ragged.mpr ⟨accepted, missing⟩) none
    · have still : (w.alerts.sources.at (srcRagged k)).membership = .none := by
        rw [last.ragged, stands, none]
        refine Bool.eq_false_iff.mpr fun some => ?_
        obtain ⟨accepted, missing⟩ := ragged.mp some
        rcases whole with starved | empty
        · rw [accepted] at starved
          cases starved
        · exact missing empty
      rw [e.others _ (by rw [still]; decide), still]

end Sys2Proof.Machine
end

section
/-! PROOF. Attempts and recoveries (O47, O48). -/

namespace Sys2Proof.Machine

open Sys2Proof

/-! ## Point health (R49, R50) -/

/-- A GOOD result (R50). -/
theorem give_good (h : Health) (v : Int) (now : Seconds) :
    (h.give (.good v) now).misses = 0 ∧ (h.give (.good v) now).lastGood = some v ∧ (h.give (.good v) now).lastGoodSecond = some now ∧
      ((h.give (.good v) now).state = .dropped ↔ h.state = .dropped ∧ h.misses ≠ 0) ∧
      ((h.give (.good v) now).state ≠ .dropped → (h.give (.good v) now).state = .ok) := by
  obtain ⟨state, misses, _, _, _⟩ := h
  unfold Health.give Health.hit
  cases state <;> by_cases zero : misses = 0 <;> simp [zero]

theorem give_miss (h : Health) {r : PointResult} (bad : ∀ v, r ≠ .good v) (now : Seconds) : h.give r now = h.miss r := by
  cases r with
  | good v => exact absurd rfl (bad v)
  | noAnswer | timeout | badCheck | sensorInvalid | implausible | stuck | notReached | segmentFault => rfl

/-- A miss (R49). -/
theorem miss_health (h : Health) (r : PointResult) :
    (h.miss r).misses = (if h.misses < 255 then h.misses + 1 else h.misses) ∧ (h.miss r).lastGood = h.lastGood ∧
      (h.state = .dropped → (h.miss r).state = .dropped) ∧ (h.state = .ok → (h.miss r).state = .suspect) ∧
      (h.state = .unseen ∨ h.state = .suspect → (h.miss r).state = if (h.miss r).misses < 3 then h.state else .dropped) := by
  unfold Health.miss
  refine ⟨rfl, rfl, fun dropped => ?_, fun ok => ?_, fun early => ?_⟩
  · rw [dropped]
  · rw [ok]
  · rcases early with early | early <;> rw [early] <;> rfl

theorem give_lastOutcome (h : Health) (r : PointResult) (now : Seconds) : (h.give r now).lastOutcome = some r := by
  cases r with
  | good v => rfl
  | noAnswer | timeout | badCheck | sensorInvalid | implausible | stuck | notReached | segmentFault => rfl

/-! ## Results given to a snapshot (R42, R45, R47) -/

theorem untried_iff {e : SnapEntry} : e.untried = true ↔ e.result = none := by
  unfold SnapEntry.untried
  rw [Option.isNone_iff_eq_none]

theorem markEntry_eq (p : Fin 48) (r : PointResult) (l : List SnapEntry) :
    markEntry p r l = l.map fun e => if e.point = p ∧ e.result = none then { e with result := some r } else e := by
  unfold markEntry
  simp only [untried_iff]

theorem mem_openPoints {s : State} {g : Fin 3} {p : Fin 48} :
    p ∈ s.openPoints g ↔ ∃ f ∈ (s.masters.at g).snapshot, f.result = none ∧ f.point = p := by
  simp only [State.openPoints, List.mem_map, List.mem_filter, untried_iff, and_assoc]

theorem openPoints_eq_nil {s : State} {g : Fin 3} :
    s.openPoints g = [] ↔ ∀ f ∈ (s.masters.at g).snapshot, f.result ≠ none := by
  rw [List.eq_nil_iff_forall_not_mem]
  refine ⟨fun none f member open_ => none f.point (mem_openPoints.mpr ⟨f, member, open_, rfl⟩), fun tried p member => ?_⟩
  obtain ⟨f, member, open_, -⟩ := mem_openPoints.mp member
  exact tried f member open_

section
variable (g : Fin 3) (r : PointResult) (s : State)

theorem giveResult_master (p : Fin 48) : (State.giveResult g r s p).masters.at g =
    { s.masters.at g with snapshot := markEntry p r (s.masters.at g).snapshot } := Tab.at_put_self _ _ _

theorem giveResult_others (p : Fin 48) {h : Fin 3} (other : h ≠ g) : (State.giveResult g r s p).masters.at h = s.masters.at h :=
  Tab.at_put_of_ne _ _ other

theorem giveResult_health (p : Fin 48) : (State.giveResult g r s p).health =
    s.health.put p ((s.health.at p).give r s.plantSeconds) := rfl

end

/-- The entries of the points `l` given a result. -/
def markPoints (l : List (Fin 48)) (r : PointResult) (entries : List SnapEntry) : List SnapEntry :=
  entries.map fun e => if e.point ∈ l ∧ e.result = none then { e with result := some r } else e

theorem markPoints_cons (p : Fin 48) (l : List (Fin 48)) (r : PointResult) (entries : List SnapEntry) :
    markPoints l r (markEntry p r entries) = markPoints (p :: l) r entries := by
  rw [markEntry_eq]
  unfold markPoints
  rw [List.map_map]
  refine List.map_congr_left fun e _ => ?_
  rw [Function.comp_apply]
  by_cases own : e.point = p <;> by_cases open_ : e.result = none <;> simp [own, open_]

theorem giveResults_master (g : Fin 3) (r : PointResult) (l : List (Fin 48)) (s : State) :
    (l.foldl (State.giveResult g r) s).masters.at g =
      { s.masters.at g with snapshot := markPoints l r (s.masters.at g).snapshot } := by
  induction l generalizing s with
  | nil => simp [markPoints]
  | cons p l ih =>
    rw [List.foldl_cons, ih, giveResult_master]
    dsimp only
    rw [markPoints_cons]

theorem giveResults_others (g : Fin 3) (r : PointResult) (l : List (Fin 48)) (s : State) {h : Fin 3} (other : h ≠ g) :
    (l.foldl (State.giveResult g r) s).masters.at h = s.masters.at h := by
  induction l generalizing s with
  | nil => rfl
  | cons p l ih => rw [List.foldl_cons, ih, giveResult_others g r s p other]

theorem giveResults_health (g : Fin 3) (r : PointResult) (l : List (Fin 48)) (s : State) (p : Fin 48) :
    (p ∉ l → (l.foldl (State.giveResult g r) s).health.at p = s.health.at p) ∧
    (p ∈ l → ((l.foldl (State.giveResult g r) s).health.at p).lastOutcome = some r) := by
  induction l generalizing s with
  | nil => exact ⟨fun _ => rfl, fun member => absurd member List.not_mem_nil⟩
  | cons a l ih =>
    obtain ⟨stands, given⟩ := ih (State.giveResult g r s a)
    refine ⟨fun out => ?_, fun member => ?_⟩
    · have other : p ≠ a := fun same => out (same ▸ List.mem_cons_self)
      rw [List.foldl_cons, stands fun later => out (List.mem_cons_of_mem _ later), giveResult_health, Tab.at_put_of_ne _ _ other]
    · by_cases later : p ∈ l
      · exact given later
      · obtain rfl := (List.mem_cons.mp member).resolve_right later
        rw [List.foldl_cons, stands later, giveResult_health, Tab.at_put_self, give_lastOutcome]

section
variable (s : State) (g : Fin 3) (r : PointResult)

theorem giveRest_master : (s.giveRest g r).masters.at g =
    { s.masters.at g with snapshot := restGiven r (s.masters.at g).snapshot } := by
  have all : markPoints (s.openPoints g) r (s.masters.at g).snapshot = restGiven r (s.masters.at g).snapshot := by
    unfold markPoints restGiven
    refine List.map_congr_left fun e member => ?_
    have open_ : (e.point ∈ s.openPoints g ∧ e.result = none) ↔ e.result = none :=
      ⟨And.right, fun open_ => ⟨mem_openPoints.mpr ⟨e, member, open_, rfl⟩, open_⟩⟩
    simp only [open_]
  unfold State.giveRest
  rw [giveResults_master, all]

theorem giveRest_others {h : Fin 3} (other : h ≠ g) : (s.giveRest g r).masters.at h = s.masters.at h :=
  giveResults_others g r _ s other

theorem giveRest_health (p : Fin 48) : (p ∉ s.openPoints g → (s.giveRest g r).health.at p = s.health.at p) ∧
    (p ∈ s.openPoints g → ((s.giveRest g r).health.at p).lastOutcome = some r) := giveResults_health g r _ s p

/-! ## Frames that go on, close or are cut short (R45, R47) -/

/-- The segment's master once its frame has been cut short, with the rest NOT_REACHED, before the frame's close (R45). -/
def State.cutShort (s : State) (g : Fin 3) : State := ((s.countCut g).giveRest g .notReached).setMasterState g .idle

theorem countCut_master : (s.countCut g).masters.at g = { s.masters.at g with
    framesCutShort := if s.openPoints g = [] then (s.masters.at g).framesCutShort
      else satAdd Config.maxCount16 (s.masters.at g).framesCutShort } := by
  by_cases none : s.openPoints g = []
  · rw [if_pos none, State.countCut]
    exact congrArg (fun q => State.masters q |>.at g) (if_pos (List.isEmpty_iff.mpr none))
  · rw [if_neg none, State.countCut]
    exact (congrArg (fun q => State.masters q |>.at g) (if_neg fun empty => none (List.isEmpty_iff.mp empty))).trans (Tab.at_put_self _ _ _)

theorem countCut_others {h : Fin 3} (other : h ≠ g) : (s.countCut g).masters.at h = s.masters.at h := by
  unfold State.countCut
  dsimp only
  split
  · rfl
  · exact Tab.at_put_of_ne _ _ other

theorem countCut_health : (s.countCut g).health = s.health := by
  unfold State.countCut
  dsimp only
  split <;> rfl

theorem countCut_openPoints : (s.countCut g).openPoints g = s.openPoints g := by
  unfold State.openPoints
  rw [countCut_master]

theorem cutShort_master : (s.cutShort g).masters.at g = { s.masters.at g with
    state := .idle
    snapshot := restGiven .notReached (s.masters.at g).snapshot
    framesCutShort := if s.openPoints g = [] then (s.masters.at g).framesCutShort
      else satAdd Config.maxCount16 (s.masters.at g).framesCutShort } := by
  refine (Tab.at_put_self _ _ _).trans ?_
  rw [giveRest_master, countCut_master]

theorem cutShort_others {h : Fin 3} (other : h ≠ g) : (s.cutShort g).masters.at h = s.masters.at h := by
  refine (Tab.at_put_of_ne _ _ other).trans ?_
  rw [giveRest_others _ g _ other, countCut_others s g other]

theorem cutShort_health (p : Fin 48) : (p ∉ s.openPoints g → (s.cutShort g).health.at p = s.health.at p) ∧
    (p ∈ s.openPoints g → ((s.cutShort g).health.at p).lastOutcome = some .notReached) := by
  obtain ⟨stands, given⟩ := giveRest_health (s.countCut g) g .notReached p
  rw [countCut_openPoints, countCut_health] at stands
  rw [countCut_openPoints] at given
  exact ⟨stands, given⟩

theorem quiet_cutShort : Quiet s (s.cutShort g) :=
  ((quiet_countCut s g).trans (quiet_giveRest _ g _)).trans (quiet_setMasterState _ g _)

/-- A frame goes on, closes or is cut short, by its timer and the entries left (R45, R47). -/
theorem goOn_cases : ((s.masters.at g).openPending = true ∧ s.goOn g = ((s.cutShort g).closeFrame g).openFrame g) ∨
    ((s.masters.at g).openPending = false ∧ s.openPoints g = [] ∧ s.goOn g = (s.setMasterState g .idle).closeFrame g) ∨
    ((s.masters.at g).openPending = false ∧ s.openPoints g ≠ [] ∧ s.goOn g = s) := by
  unfold State.goOn
  by_cases pending : (s.masters.at g).openPending = true
  · exact .inl ⟨pending, if_pos pending⟩
  · have pending' := Bool.eq_false_of_not_eq_true pending
    by_cases all : s.openPoints g = []
    · exact .inr (.inl ⟨pending', all, (if_neg pending).trans (if_pos (List.isEmpty_iff.mpr all))⟩)
    · exact .inr (.inr ⟨pending', all, (if_neg pending).trans (if_neg fun empty => all (List.isEmpty_iff.mp empty))⟩)

theorem setMasterState_master (st : MasterState) : (s.setMasterState g st).masters.at g = { s.masters.at g with state := st } :=
  Tab.at_put_self _ _ _

theorem setMasterState_others (st : MasterState) {h : Fin 3} (other : h ≠ g) :
    (s.setMasterState g st).masters.at h = s.masters.at h := Tab.at_put_of_ne _ _ other

/-- The segment's own updates leave its tables, so the next frame opens on the same snapshot and coil set (R46). -/
theorem opened_fields {q : State} (tables : q.tables = s.tables) : q.opened g = { q.masters.at g with
    state := if (q.masters.at g).state = .faulted then .recovering else if s.takeSnapshot g = [] then .idle else .reading,
    frameTimer := some (s.tables.intervals.at g), intervalAtOpen := s.tables.intervals.at g, snapshot := s.takeSnapshot g,
    coilSet := s.coilSetOf g (s.takeSnapshot g), openPending := false,
    framesOpened := satAdd Config.maxCount16 (q.masters.at g).framesOpened } := by
  unfold State.opened State.takeSnapshot State.coilSetOf State.coilOf State.cfg
  rw [tables]

theorem openFrame_master : (s.openFrame g).masters.at g = s.opened g := by
  rw [openFrame_eq]
  exact Tab.at_put_self _ _ _

theorem openFrame_others {h : Fin 3} (other : h ≠ g) : (s.openFrame g).masters.at h = s.masters.at h := by
  rw [openFrame_eq]
  exact Tab.at_put_of_ne _ _ other

end

end Sys2Proof.Machine
end

section
/-! PROOF. The obligations of attempts and recoveries (O47, O48). -/

namespace Sys2Proof.Machine

open Sys2Proof

/-! ## BUS_FAULT through a close -/

theorem handFrame_busFault (g : Fin 3) (l : List SnapEntry) (n : Nat) (s : State) (j : Fin 6) (u : Fin 3) :
    (State.handFrame g l n s j).told (srcBusFault u) = s.told (srcBusFault u) := by
  unfold State.handFrame
  split
  · generalize l.filter (fun e => e.coil == some j) = entries
    have moves := moves_frameUpdate j (s.faceClosed j entries) ((s.closeFace j entries).report n s.plantSeconds)
    have still := moves.source (y := srcBusFault u)
      (by simp [srcBusFault, srcAdvise1, srcAdvise2, srcSecured])
      (by simp [srcBusFault, srcTrip, srcLockout, srcPumpFail, srcSecureFault])
    rw [closeCoilFrame_eq, State.told, still, faceClosed_source (by simp [srcBusFault, srcRagged]) (by simp [srcBusFault, srcBlind])]
    rfl
  · rfl

theorem closeFrame_busFault (s : State) (g u : Fin 3) : (s.closeFrame g).told (srcBusFault u) = s.told (srcBusFault u) := by
  have fold (l : List SnapEntry) (n : Nat) (set : List (Fin 6)) (t : State) :
      (set.foldl (State.handFrame g l n) t).told (srcBusFault u) = t.told (srcBusFault u) := by
    induction set generalizing t with
    | nil => rfl
    | cons j set ih => exact (ih _).trans (handFrame_busFault g l n t j u)
  exact fold _ _ _ s

/-! ## The next frame behind a close that cuts one short -/

/-- A frame cut short has closed and the next one has opened (R45, R46). -/
theorem cutShort_opened (s : State) (g : Fin 3) : (((s.cutShort g).closeFrame g).openFrame g).masters.at g =
    { s.masters.at g with
      state := if s.takeSnapshot g = [] then .idle else .reading, frameTimer := some (s.tables.intervals.at g),
      intervalAtOpen := s.tables.intervals.at g, snapshot := s.takeSnapshot g, coilSet := s.coilSetOf g (s.takeSnapshot g),
      openPending := false, framesOpened := satAdd Config.maxCount16 (s.masters.at g).framesOpened,
      framesCutShort := if s.openPoints g = [] then (s.masters.at g).framesCutShort
        else satAdd Config.maxCount16 (s.masters.at g).framesCutShort } := by
  have tables : ((s.cutShort g).closeFrame g).tables = s.tables :=
    busFrame_tables (busFrame_trans (quiet_cutShort s g).frame (busFrame_closeFrame _ g))
  rw [openFrame_master, opened_fields s g tables, closeFrame_masters, cutShort_master]
  rfl

theorem cutShort_openFrame_others (s : State) {g h : Fin 3} (other : h ≠ g) :
    (((s.cutShort g).closeFrame g).openFrame g).masters.at h = s.masters.at h := by
  rw [openFrame_others _ g other, closeFrame_masters, cutShort_others s g other]

theorem openFrame_health (s : State) (g : Fin 3) : (s.openFrame g).health = s.health := rfl

theorem cutShort_openFrame_health (s : State) (g : Fin 3) (p : Fin 48) :
    (((s.cutShort g).closeFrame g).openFrame g).health.at p = (s.cutShort g).health.at p := by
  rw [openFrame_health, closeFrame_health]

/-! ## What going on leaves of the masters and point health -/

theorem goOn_others (s : State) {g h : Fin 3} (other : h ≠ g) : (s.goOn g).masters.at h = s.masters.at h := by
  rcases goOn_cases s g with ⟨-, e⟩ | ⟨-, -, e⟩ | ⟨-, -, e⟩ <;> rw [e]
  · exact cutShort_openFrame_others s other
  · rw [closeFrame_masters, setMasterState_others s g _ other]

theorem goOn_health (s : State) (g : Fin 3) {p : Fin 48} (h : p ∉ s.openPoints g ∨ (s.masters.at g).openPending = false) :
    (s.goOn g).health.at p = s.health.at p := by
  rcases goOn_cases s g with ⟨pending, e⟩ | ⟨-, -, e⟩ | ⟨-, -, e⟩ <;> rw [e]
  · rw [cutShort_openFrame_health]
    refine (cutShort_health s g p).1 (h.resolve_right fun still => ?_)
    rw [pending] at still
    cases still
  · rw [closeFrame_health]
    rfl

/-! ## The attempt's result (R38, R47, R49) -/

section
variable {s : State} {g : Fin 3} {e : SnapEntry} {r : PointResult}

theorem attemptEnds_eq (flight : (s.masters.at g).position = some e) : s.attemptEnds g r = (State.giveResult g r s e.point).goOn g := by
  unfold State.attemptEnds
  rw [flight]

theorem attemptStuck_eq (flight : (s.masters.at g).position = some e) :
    s.attemptStuck g = (State.giveResult g .stuck s e.point).setMasterState g .recovering := by
  unfold State.attemptStuck
  rw [flight]

/-- After the attempt the points left are those of the other entries not attempted. -/
theorem mem_openPoints_given {p q : Fin 48} : q ∈ (State.giveResult g r s p).openPoints g ↔
    ∃ f ∈ (s.masters.at g).snapshot, f.result = none ∧ f.point ≠ p ∧ f.point = q := by
  rw [mem_openPoints, giveResult_master]
  dsimp only
  rw [markEntry_eq]
  constructor
  · rintro ⟨f, member, open_, point⟩
    obtain ⟨e, he, rfl⟩ := List.mem_map.mp member
    split at open_
    · cases open_
    · rename_i kept
      rw [if_neg kept] at point
      exact ⟨e, he, open_, fun same => kept ⟨same, open_⟩, point⟩
  · rintro ⟨f, member, open_, other, point⟩
    have kept : ¬ (f.point = p ∧ f.result = none) := fun h => other h.1
    exact ⟨f, List.mem_map.mpr ⟨f, member, if_neg kept⟩, open_, point⟩

theorem openPoints_given_nil {p : Fin 48} : (State.giveResult g r s p).openPoints g = [] ↔
    ∀ f ∈ (s.masters.at g).snapshot, f.result = none → f.point = p := by
  rw [List.eq_nil_iff_forall_not_mem]
  refine ⟨fun none f member open_ => ?_, fun all q member => ?_⟩
  · by_contra other
    exact none f.point (mem_openPoints_given.mpr ⟨f, member, open_, other, rfl⟩)
  · obtain ⟨f, hf, open_, other, -⟩ := mem_openPoints_given.mp member
    exact other (all f hf open_)

/-- The clauses of an attempt's result on the health of its point (R49, R50). -/
theorem healthGiven {h h' : Health} {now : Seconds} (given : h' = h.give r now) :
    h'.lastOutcome = some r ∧
    (∀ v, r = .good v → h'.misses = 0 ∧ h'.lastGood = some v ∧ h'.lastGoodSecond = some now ∧
      (h'.state = .dropped ↔ h.state = .dropped ∧ h.misses ≠ 0) ∧ (h'.state ≠ .dropped → h'.state = .ok)) ∧
    ((∀ v, r ≠ .good v) → h'.misses = (if h.misses < 255 then h.misses + 1 else h.misses) ∧ h'.lastGood = h.lastGood ∧
      (h.state = .dropped → h'.state = .dropped) ∧ (h.state = .ok → h'.state = .suspect) ∧
      (h.state = .unseen ∨ h.state = .suspect → h'.state = if h'.misses < 3 then h.state else .dropped)) := by
  subst given
  refine ⟨give_lastOutcome h r now, fun v good => ?_, fun bad => ?_⟩
  · subst good
    exact give_good h v now
  · rw [give_miss h bad]
    exact miss_health h r

end

/-- The masters' addresses on the bus (R175). -/
theorem sends (m : Master) : ∀ f, m.position = some f → f.address < 128 →
    ∃ b, m.addressSent = some b ∧ b.toNat = 2 * f.address + 1 := fun _ position small => addressSent_of_position position small

/-- The command of an attempt's end, as the operation that it runs. -/
theorem attempt_command {s : State} {g : Fin 3} {c : Instr} {r : PointResult}
    (hc : (∃ reply, c = .readPointComplete g reply ∧ r = replyResult reply) ∨ (c = .clockHoldTimeout g ∧ r = .timeout) ∨
      (c = .dataHeldTimeout g ∧ r = .stuck)) :
    (c = .dataHeldTimeout g ∧ r = .stuck ∧ exec c s = whileRunning s fun s => (s.attemptStuck g).conclude) ∨
      (c ≠ .dataHeldTimeout g ∧ exec c s = whileRunning s fun s => (s.attemptEnds g r).conclude) := by
  rcases hc with ⟨reply, rfl, rfl⟩ | ⟨rfl, rfl⟩ | ⟨rfl, rfl⟩
  · exact .inr ⟨by simp, rfl⟩
  · exact .inr ⟨by simp, rfl⟩
  · exact .inl ⟨rfl, rfl, rfl⟩

theorem settled_given {s : State} (g : Fin 3) (r : PointResult) (p : Fin 48) (h : s.settled) : (State.giveResult g r s p).settled := h

theorem settled_setMasterState {s : State} (g : Fin 3) (st : MasterState) (h : s.settled) : (s.setMasterState g st).settled := h

theorem ends_settled {s : State} (h : s.settled) : Ends s s := by
  have ends := ends_conclude s
  rwa [conclude_settled h] at ends

/-- Settles O47. -/
theorem attemptsRecordTheirResultAndMoveTheFrame : Obligations.AttemptsRecordTheirResultAndMoveTheFrame := by
  intro s g c r running settled hc
  have command := attempt_command (s := s) hc
  refine ⟨fun idle => ?_, fun e flight => ?_⟩
  · rcases command with ⟨-, -, exec⟩ | ⟨-, exec⟩ <;> rw [exec]
    · refine whileRunning_settled (act := (State.attemptStuck · g)) running ?_ settled
      unfold State.attemptStuck
      rw [idle]
    · refine whileRunning_settled (act := (State.attemptEnds · g r)) running ?_ settled
      unfold State.attemptEnds
      rw [idle]
  · have master := giveResult_master g r s e.point
    have own : (State.giveResult g r s e.point).health.at e.point = (s.health.at e.point).give r s.plantSeconds := by
      rw [giveResult_health, Tab.at_put_self]
    have health (p : Fin 48) (other : p ≠ e.point) : (State.giveResult g r s e.point).health.at p = s.health.at p := by
      rw [giveResult_health, Tab.at_put_of_ne _ _ other]
    have quiet := quiet_giveResult g r s e.point
    rw [markEntry_eq] at master
    clear hc
    rcases command with ⟨hc, rfl, exec⟩ | ⟨hc, exec⟩
    · have next := whileRunning_settled (act := (State.attemptStuck · g)) running (attemptStuck_eq flight)
        (settled_setMasterState g .recovering (settled_given g .stuck e.point settled))
      obtain ⟨outcome, good, bad⟩ := healthGiven own
      refine ⟨_, exec.trans next, ?_, fun h other => ?_, fun p other _ => health p other, outcome, good, bad, fun _ => ?_,
        fun other => absurd hc other, sends _, fun other => absurd hc other⟩
      · exact onlyFrames_of_ends (ends_settled (settled_setMasterState g .recovering (settled_given g .stuck e.point settled)))
          (busFrame_trans quiet.frame (busFrame_setMasterState _ g _))
      · exact (setMasterState_others _ g _ other).trans (giveResult_others g _ s e.point other)
      · refine ⟨rfl, rfl, rfl, rfl, ?_⟩
        rw [setMasterState_master, master, if_pos hc]
    · obtain ⟨t, next, ends⟩ := whileRunning_ends running (State.attemptEnds · g r)
      have masters : t.masters = (s.attemptEnds g r).masters := ends.only.reads State.masters fun _ _ _ => rfl
      have healths : t.health = (s.attemptEnds g r).health := ends.only.reads State.health fun _ _ _ => rfl
      have frame := onlyFrames_of_ends ends (busFrame_attemptEnds s g r)
      rw [attemptEnds_eq flight] at masters healths ends
      have given : t.health.at e.point = (s.health.at e.point).give r s.plantSeconds := by
        rw [healths, goOn_health _ g (.inl fun member => ?_), own]
        obtain ⟨f, -, -, other, same⟩ := mem_openPoints_given.mp member
        exact other same
      obtain ⟨outcome, good, bad⟩ := healthGiven given
      refine ⟨t, exec.trans next, frame, fun h other => ?_, fun p other calm => ?_, outcome, good, bad, fun more => ?_,
        fun _ waits last => ?_, sends _, fun _ waits => ?_⟩
      · rw [masters, goOn_others _ other, giveResult_others g r s e.point other]
      · have waits := calm.resolve_right hc
        rw [healths, goOn_health _ g (.inr (by rw [master]; exact waits)), health p other]
      · obtain ⟨waits, f, member, open_, other⟩ := more.resolve_left hc
        have left : (State.giveResult g r s e.point).openPoints g ≠ [] := fun none => other (openPoints_given_nil.mp none f member open_)
        have goes : (State.giveResult g r s e.point).goOn g = State.giveResult g r s e.point := by
          rcases goOn_cases (State.giveResult g r s e.point) g with ⟨pending, -⟩ | ⟨-, none, -⟩ | ⟨-, -, same⟩
          · rw [master] at pending
            cases pending.symm.trans waits
          · exact absurd none left
          · exact same
        have still : whileRunning s (fun s => (s.attemptEnds g r).conclude) = .next (State.giveResult g r s e.point) :=
          whileRunning_settled (act := (State.attemptEnds · g r)) running ((attemptEnds_eq flight).trans goes)
            (settled_given g r e.point settled)
        obtain rfl := Host.Outcome.next.inj (next.symm.trans still)
        refine ⟨rfl, rfl, rfl, rfl, ?_⟩
        rw [master, if_neg hc]
        have reading : (s.masters.at g).state = .reading := by
          unfold Master.position at flight
          split at flight
          · assumption
          all_goals cases flight
        rw [← reading]
      · have empty : (State.giveResult g r s e.point).openPoints g = [] := openPoints_given_nil.mpr last
        have closes : (State.giveResult g r s e.point).goOn g = ((State.giveResult g r s e.point).setMasterState g .idle).closeFrame g := by
          rcases goOn_cases (State.giveResult g r s e.point) g with ⟨pending, -⟩ | ⟨-, -, same⟩ | ⟨-, left, -⟩
          · rw [master] at pending
            cases pending.symm.trans waits
          · exact same
          · exact absurd empty left
        rw [closes] at ends masters
        have idle : ((State.giveResult g r s e.point).setMasterState g .idle).masters.at g = { s.masters.at g with
            state := .idle
            snapshot := (s.masters.at g).snapshot.map fun f =>
              if f.point = e.point ∧ f.result = none then { f with result := some r } else f } := by
          rw [setMasterState_master, master]
        have final : t.masters.at g = ((State.giveResult g r s e.point).setMasterState g .idle).masters.at g := by
          rw [masters, closeFrame_masters]
        rw [idle] at final
        refine ⟨final, ?_⟩
        rw [final]
        exact framesClosed_of (quiet.trans (quiet_setMasterState _ g .idle)) (by rw [idle]) (by rw [idle]) (by rw [idle]) (.refl _) ends
      · have cuts : (State.giveResult g r s e.point).goOn g =
            (((State.giveResult g r s e.point).cutShort g).closeFrame g).openFrame g := by
          rcases goOn_cases (State.giveResult g r s e.point) g with ⟨-, same⟩ | ⟨calm, -⟩ | ⟨calm, -⟩
          · exact same
          all_goals
            rw [master] at calm
            cases calm.symm.trans waits
        rw [cuts] at ends masters healths
        have opened := cutShort_opened (State.giveResult g r s e.point) g
        have same : (State.giveResult g r s e.point).tables = s.tables := rfl
        have cut := cutShort_master (State.giveResult g r s e.point) g
        rw [master] at opened cut
        rw [masters, opened]
        refine ⟨framesClosed_of (quiet.trans (quiet_cutShort _ g)) (by rw [cut]) (by rw [cut]) (by rw [cut]) (quiet_openFrame _ g) ends,
          rfl, rfl, rfl, rfl, rfl, rfl, rfl, ?_, fun f member open_ other => ?_⟩
        · dsimp only
          by_cases empty : (State.giveResult g r s e.point).openPoints g = []
          · rw [if_pos empty, if_neg]
            rintro ⟨⟨f, member, open_, other⟩, -⟩
            exact other (openPoints_given_nil.mp empty f member open_)
          · have left : ∃ f ∈ (s.masters.at g).snapshot, f.result = none ∧ f.point ≠ e.point := by
              by_contra all
              refine empty (openPoints_given_nil.mpr fun f member open_ => ?_)
              by_contra other
              exact all ⟨f, member, open_, other⟩
            rw [if_neg empty]
            simp only [left, true_and]
            rfl
        · rw [healths, cutShort_openFrame_health]
          exact (cutShort_health _ g f.point).2 (mem_openPoints_given.mpr ⟨f, member, open_, other, rfl⟩)

end Sys2Proof.Machine
end

section
/-! PROOF. The end of a recovery (O48). -/

namespace Sys2Proof.Machine

open Sys2Proof

theorem giveRest_alerts (s : State) (g : Fin 3) (r : PointResult) : (s.giveRest g r).alerts = s.alerts := by
  have fold (l : List (Fin 48)) (t : State) : (l.foldl (State.giveResult g r) t).alerts = t.alerts := by
    induction l generalizing t with
    | nil => rfl
    | cons p l ih => exact ih _
  exact fold _ s

theorem cutShort_alerts (s : State) (g : Fin 3) : (s.cutShort g).alerts = s.alerts := by
  have cut : (s.countCut g).alerts = s.alerts := by
    unfold State.countCut
    dsimp only
    split <;> rfl
  exact (giveRest_alerts (s.countCut g) g .notReached).trans cut

theorem told_of_alerts {s t : State} (h : t.alerts = s.alerts) (x : Fin 65) : t.told x = s.told x := by
  unfold State.told
  rw [h]

theorem setMasterState_alerts (s : State) (g : Fin 3) (st : MasterState) : (s.setMasterState g st).alerts = s.alerts := rfl

theorem openFrame_alerts (s : State) (g : Fin 3) : (s.openFrame g).alerts = s.alerts := by
  rw [openFrame_eq, State.setMaster_alerts]

theorem goOn_busFault (s : State) (g u : Fin 3) : (s.goOn g).told (srcBusFault u) = s.told (srcBusFault u) := by
  rcases goOn_cases s g with ⟨-, e⟩ | ⟨-, -, e⟩ | ⟨-, -, e⟩ <;> rw [e]
  · rw [told_of_alerts (openFrame_alerts _ g), closeFrame_busFault, told_of_alerts (cutShort_alerts s g)]
  · exact (closeFrame_busFault (s.setMasterState g .idle) g u).trans (told_of_alerts (setMasterState_alerts s g .idle) _)

/-! ## The master that a recovery's end leaves (R41 to R44) -/

/-- The master of segment `g` at the end of a recovery, before the frame goes on: its state and BUS_FAULT written. -/
def State.recovered (s : State) (g : Fin 3) (st : MasterState) (fault : Bool) : State := (s.setMasterState g st).setBusFault g fault

section
variable (s : State) (g : Fin 3) (st : MasterState) (fault : Bool)

theorem recovered_master : (s.recovered g st fault).masters.at g = { s.masters.at g with state := st, busFault := fault } := by
  refine (Tab.at_put_self _ _ _).trans ?_
  rw [setMasterState_master]

theorem recovered_others {h : Fin 3} (other : h ≠ g) : (s.recovered g st fault).masters.at h = s.masters.at h :=
  (Tab.at_put_of_ne _ _ other).trans (setMasterState_others s g st other)

theorem recovered_told : (s.recovered g st fault).told (srcBusFault g) = fault := by
  refine (told_handLevel_self _ _ _).trans ?_
  unfold State.busFaultCondition
  rw [State.setMaster_masters, Tab.at_put_self]

theorem quiet_recovered : Quiet s (s.recovered g st fault) := (quiet_setMasterState s g st).trans (quiet_setBusFault _ g fault)

theorem recovered_openPoints : (s.recovered g st fault).openPoints g = s.openPoints g := by
  unfold State.openPoints
  rw [recovered_master]

end

section
variable {s : State} {g : Fin 3} (recovering : (s.masters.at g).state = .recovering)
include recovering

theorem recoveryEnds_frees : s.recoveryEnds g true = (s.recovered g .reading false).goOn g := by
  unfold State.recoveryEnds
  rw [recovering]
  rfl

/-- A recovery that fails closes the frame with the rest SEGMENT_FAULT, and opens the next where its timer has expired (R42, R43). -/
theorem recoveryEnds_fails : s.recoveryEnds g false =
    if (s.masters.at g).openPending then (((s.recovered g .faulted true).giveRest g .segmentFault).closeFrame g).openFrame g
    else ((s.recovered g .faulted true).giveRest g .segmentFault).closeFrame g := by
  unfold State.recoveryEnds
  rw [recovering]
  rfl

end

/-- The segment's master after a failed recovery, its frame closed with the rest SEGMENT_FAULT (R42). -/
theorem failed_master (s : State) (g : Fin 3) : ((s.recovered g .faulted true).giveRest g .segmentFault).masters.at g =
    { s.masters.at g with
      state := .faulted, busFault := true, snapshot := restGiven .segmentFault (s.masters.at g).snapshot } := by
  rw [giveRest_master, recovered_master]

/-- Settles O48. -/
theorem recoveryFreesTheSegmentOrFaultsIt : Obligations.RecoveryFreesTheSegmentOrFaultsIt := by
  intro s g running
  refine ⟨fun settled other freed => ?_, fun recovering freed => ?_⟩
  · refine whileRunning_settled (act := (State.recoveryEnds · g freed)) running ?_ settled
    unfold State.recoveryEnds
    split
    · exact absurd ‹_› other
    all_goals rfl
  · obtain ⟨t, next, ends⟩ := whileRunning_ends running (State.recoveryEnds · g freed)
    have masters : t.masters = (s.recoveryEnds g freed).masters := ends.only.reads State.masters fun _ _ _ => rfl
    have healths : t.health = (s.recoveryEnds g freed).health := ends.only.reads State.health fun _ _ _ => rfl
    have told := ends.told (srcBusFault g)
    have frame := onlyFrames_of_ends ends (busFrame_recoveryEnds s g freed)
    have open_ (f : SnapEntry) (member : f ∈ (s.masters.at g).snapshot) (untried : f.result = none) : f.point ∈ s.openPoints g :=
      mem_openPoints.mpr ⟨f, member, untried, rfl⟩
    cases freed
    · rw [recoveryEnds_fails recovering] at ends masters healths told
      have failed := failed_master s g
      have quiet := (quiet_recovered s g .faulted true).trans (quiet_giveRest _ g .segmentFault)
      have given (f : SnapEntry) (member : f ∈ (s.masters.at g).snapshot) (untried : f.result = none) :
          (((s.recovered g .faulted true).giveRest g .segmentFault).health.at f.point).lastOutcome = some .segmentFault :=
        (giveRest_health _ g _ f.point).2 (by rw [recovered_openPoints]; exact open_ f member untried)
      have tells : (((s.recovered g .faulted true).giveRest g .segmentFault).closeFrame g).told (srcBusFault g) = true :=
        (closeFrame_busFault _ g g).trans ((told_of_alerts (giveRest_alerts _ g _) _).trans (recovered_told s g _ true))
      by_cases waiting : (s.masters.at g).openPending = true
      · rw [if_pos waiting] at ends masters healths told
        have tables : (((s.recovered g .faulted true).giveRest g .segmentFault).closeFrame g).tables = s.tables :=
          busFrame_tables (busFrame_trans quiet.frame (busFrame_closeFrame _ g))
        have opened : t.masters.at g = _ := (congrArg (Tab.at · g) masters).trans ((openFrame_master _ g).trans (opened_fields s g tables))
        rw [closeFrame_masters, failed] at opened
        refine ⟨t, next, frame, fun h other => ?_, ?_, told.trans tells, ?_, fun freed => (by cases freed), fun freed => (by cases freed),
          fun _ => ⟨framesClosed_of quiet (by rw [failed]) (by rw [failed]) (by rw [failed]) (quiet_openFrame _ g) ends,
            fun f member untried => ?_, fun calm => (by cases calm.symm.trans waiting), fun _ => ?_⟩⟩
        · rw [masters, openFrame_others _ g other, closeFrame_masters, giveRest_others _ g _ other, recovered_others s g _ _ other]
        · rw [opened]
          rfl
        · rw [opened]
        · rw [healths, openFrame_health, closeFrame_health]
          exact given f member untried
        · rw [opened]
          exact ⟨rfl, rfl, rfl⟩
      · have calm := Bool.eq_false_of_not_eq_true waiting
        rw [if_neg waiting] at ends masters healths told
        have final : t.masters.at g = { s.masters.at g with
            state := .faulted, busFault := true, snapshot := restGiven .segmentFault (s.masters.at g).snapshot } := by
          rw [masters, closeFrame_masters, failed]
        refine ⟨t, next, frame, fun h other => ?_, ?_, told.trans tells, ?_, fun freed => (by cases freed), fun freed => (by cases freed),
          fun _ => ⟨framesClosed_of quiet (by rw [failed]) (by rw [failed]) (by rw [failed]) (.refl _) ends,
            fun f member untried => ?_, fun _ => ?_, fun waiting => (by cases calm.symm.trans waiting)⟩⟩
        · rw [masters, closeFrame_masters, giveRest_others _ g _ other, recovered_others s g _ _ other]
        · rw [final]
          rfl
        · rw [final]
          exact calm
        · rw [healths, closeFrame_health]
          exact given f member untried
        · rw [final]
          exact ⟨rfl, rfl, fun f member => restGiven_tried member⟩
    · rw [recoveryEnds_frees recovering] at ends masters healths told
      have freedMaster := recovered_master s g .reading false
      have quiet := quiet_recovered s g .reading false
      have tells := told.trans ((goOn_busFault _ g g).trans (recovered_told s g .reading false))
      have others (h : Fin 3) (other : h ≠ g) : t.masters.at h = s.masters.at h := by
        rw [masters, goOn_others _ other, recovered_others s g _ _ other]
      rcases goOn_cases (s.recovered g .reading false) g with ⟨waiting, e⟩ | ⟨calm, empty, e⟩ | ⟨calm, left, e⟩ <;>
        rw [e] at ends masters healths
      · rw [freedMaster] at waiting
        have waiting : (s.masters.at g).openPending = true := waiting
        have opened := cutShort_opened (s.recovered g .reading false) g
        have cut := cutShort_master (s.recovered g .reading false) g
        rw [← masters, freedMaster] at opened
        rw [freedMaster] at cut
        refine ⟨t, next, frame, others, ?_, tells, ?_, fun _ calm => (by cases calm.symm.trans waiting), fun _ _ =>
          ⟨framesClosed_of (quiet.trans (quiet_cutShort _ g)) (by rw [cut]) (by rw [cut]) (by rw [cut]) (quiet_openFrame _ g) ends,
            ?_, ?_, ?_, fun f member untried => ?_⟩, fun freed => (by cases freed)⟩
        · rw [opened]
          rfl
        · rw [opened]
        · rw [opened]
          rfl
        · rw [opened]
          rfl
        · rw [opened]
          rfl
        · rw [healths, cutShort_openFrame_health]
          exact (cutShort_health _ g f.point).2 (by rw [recovered_openPoints]; exact open_ f member untried)
      · rw [freedMaster] at calm
        rw [recovered_openPoints, openPoints_eq_nil] at empty
        have calm : (s.masters.at g).openPending = false := calm
        have idle : ((s.recovered g .reading false).setMasterState g .idle).masters.at g =
            { s.masters.at g with state := .idle, busFault := false } := by rw [setMasterState_master, freedMaster]
        have final : t.masters.at g = { s.masters.at g with state := .idle, busFault := false } := by
          rw [masters, closeFrame_masters, idle]
        refine ⟨t, next, frame, others, ?_, tells, ?_, fun _ _ => ⟨?_, ?_, fun ⟨f, member, untried⟩ => absurd untried (empty f member),
          fun _ => ⟨?_, framesClosed_of (quiet.trans (quiet_setMasterState _ g .idle)) (by rw [idle]) (by rw [idle]) (by rw [idle])
            (.refl _) ends⟩⟩, fun _ waiting => (by cases calm.symm.trans waiting), fun freed => (by cases freed)⟩
        · rw [final]
          rfl
        · rw [final]
          exact calm
        · rw [final]
        · rw [healths, closeFrame_health]
          rfl
        · rw [final]
      · rw [freedMaster] at calm
        rw [recovered_openPoints] at left
        have calm : (s.masters.at g).openPending = false := calm
        have final : t.masters.at g = { s.masters.at g with state := .reading, busFault := false } := by rw [masters, freedMaster]
        refine ⟨t, next, frame, others, ?_, tells, ?_, fun _ _ => ⟨?_, healths, fun _ => ⟨?_, ends.only.faces.trans quiet.faces,
          ends.only.coils.trans quiet.coils, ends.only.exposures.trans quiet.exposures, ends.only.units.trans quiet.units⟩,
          fun all => absurd (openPoints_eq_nil.mpr all) left⟩, fun _ waiting => (by cases calm.symm.trans waiting),
          fun freed => (by cases freed)⟩
        · rw [final]
          rfl
        · rw [final]
          exact calm
        · rw [final]
        · rw [final]

end Sys2Proof.Machine
end

section
/-! PROOF. SET-MODE ARMED and SET-MODE TEST (O32, O33). -/

namespace Sys2Proof.Machine

open Sys2Proof

/-! ## One record after another -/

/-- A fold whose step for `i` touches what `read` sees at `i` alone leaves there what that step makes of it. -/
theorem foldl_own {ι β : Type} (read : State → ι → β) (f : State → ι → State) (inv : State → Prop) (F : ι → β → β)
    (step : ∀ t i, inv t → inv (f t i)) (other : ∀ t i j, inv t → j ≠ i → read (f t i) j = read t j)
    (own : ∀ t i, inv t → read (f t i) i = F i (read t i)) (l : List ι) :
    ∀ s, l.Nodup → inv s → (∀ i, i ∈ l → read (l.foldl f s) i = F i (read s i)) ∧
      ∀ i, i ∉ l → read (l.foldl f s) i = read s i := by
  induction l with
  | nil => exact fun s _ _ => ⟨fun i hi => absurd hi List.not_mem_nil, fun _ _ => rfl⟩
  | cons a l ih =>
    intro s once hs
    obtain ⟨fresh, once⟩ := List.nodup_cons.mp once
    obtain ⟨taken, left⟩ := ih (f s a) once (step s a hs)
    refine ⟨fun i hi => ?_, fun i hi => ?_⟩
    · by_cases same : i = a
      · subst same
        rw [List.foldl_cons, left i fresh, own s i hs]
      · rw [List.foldl_cons, taken i ((List.mem_cons.mp hi).resolve_left same), other s a i hs same]
    · rw [List.mem_cons, not_or] at hi
      rw [List.foldl_cons, left i hi.2, other s a i hs hi.1]

theorem allUnits_nodup : allUnits.Nodup := by decide

/-! ## The units as a start or the entry to TEST places them (R120, R121) -/

/-- Unit `u`'s record placed by the conditions of `s`. -/
def State.placedRec (s : State) (u : Fin 3) : UnitRec :=
  if s.tripOf u then
    if s.damperProof u && s.fanProof u then { UnitRec.start with
      temper := s.temperOf u, trip := true, stage := .secured, closingSecond := some s.plantSeconds }
    else { UnitRec.start with
      temper := s.temperOf u, trip := true, stage := .closing, stroke := some (s.tables.units.at u).strokeLimit,
      fan := some (s.tables.units.at u).fanStopLimit, closingSecond := some s.plantSeconds }
  else { UnitRec.start with temper := s.temperOf u, stage := openStage (s.temperOf u) }

/-- The units and the alerts alone differ. -/
def unitsFrame (s t : State) : Prop := t = { s with units := t.units, alerts := t.alerts }

theorem unitsFrame_startUnit {s t : State} (h : unitsFrame s t) (u : Fin 3) : unitsFrame s (t.startUnit u) := by
  have step := (unitFrame_startUnit u t).1
  unfold unitsFrame at h ⊢
  rw [step, h]

theorem startUnit_record {s t : State} (h : unitsFrame s t) (protects : s.mode ≠ .fallback) (u : Fin 3) :
    (t.startUnit u).units.at u = s.placedRec u := by
  have mode : t.mode = s.mode := by rw [h]
  have base : ((t.setUnit u UnitRec.start).handSecureFault u).units.at u = UnitRec.start := Tab.at_put_self _ _ _
  have same : unitsFrame s ((t.setUnit u UnitRec.start).handSecureFault u) := by
    unfold unitsFrame
    rw [h]
    rfl
  rw [startUnit_eq (by rw [mode]; exact protects)]
  generalize (t.setUnit u UnitRec.start).handSecureFault u = q at base same
  have trip : q.tripOf u = s.tripOf u := by rw [same]; rfl
  have temper : q.temperOf u = s.temperOf u := by rw [same]; rfl
  have damper : q.damperProof u = s.damperProof u := by rw [same]; rfl
  have fan : q.fanProof u = s.fanProof u := by rw [same]; rfl
  have tables : q.tables = s.tables := by rw [same]
  have seconds : q.plantSeconds = s.plantSeconds := by rw [same]
  rw [placeUnit_record, base, trip, temper, damper, fan, tables, seconds]
  rfl

/-- Every unit is placed by the conditions that stand before the first is. -/
theorem startUnits_records {s : State} (protects : s.mode ≠ .fallback) (u : Fin 3) :
    (allUnits.foldl State.startUnit s).units.at u = s.placedRec u :=
  (foldl_own (fun t u => t.units.at u) State.startUnit (unitsFrame s) (fun u _ => s.placedRec u)
    (fun _ u h => unitsFrame_startUnit h u) (fun t u v _ other => (unitFrame_startUnit u t).2 v other)
    (fun _ u h => startUnit_record h protects u) allUnits s allUnits_nodup rfl).1 u (by revert u; decide)

theorem placedRec_stage (s : State) (u : Fin 3) :
    (s.tripOf u = true → (s.placedRec u).stage = .closing ∨ (s.placedRec u).stage = .secured) ∧
    (s.tripOf u = false → (s.placedRec u).stage = if s.temperOf u then .temper else .run) := by
  unfold State.placedRec
  refine ⟨fun trip => ?_, fun calm => ?_⟩
  · rw [if_pos trip]
    split
    · exact .inr rfl
    · exact .inl rfl
  · rw [if_neg (by rw [calm]; decide)]
    rfl

/-! ## The entry to TEST (R13) -/

/-- A coil's record and its exposure record. -/
def State.coilView (s : State) (k : Fin 6) : CoilSeq × Exposure := (s.coils.at k, s.exposures.at k)

theorem coilView_coil (s : State) (k : Fin 6) : (s.coilView k).1 = s.coils.at k := rfl
theorem coilView_exposure (s : State) (k : Fin 6) : (s.coilView k).2 = s.exposures.at k := rfl

/-- A present coil's records placed by its lockout flag (R13, R85, R106). -/
def placedCoil (c : CoilCfg) (r : CoilSeq) : CoilSeq × Exposure :=
  if r.lockout then ({ r.enter .lockout c.settleFrames with forced := false }, { Exposure.start with band := .trip })
  else ({ r.enter .settle c.settleFrames with forced := false }, Exposure.start)

theorem placedCoil_fields (c : CoilCfg) (r : CoilSeq) : (placedCoil c r).2.e = 0 ∧ (placedCoil c r).2.confirm = 0 ∧
    (r.lockout = true → (placedCoil c r).1.stage = .lockout ∧ (placedCoil c r).2.band = .trip) ∧
    (r.lockout = false → (placedCoil c r).1.stage = .settle ∧ (placedCoil c r).2.band = .clear ∧
      (placedCoil c r).1.settle = c.settleFrames) := by
  unfold placedCoil
  refine ⟨?_, ?_, fun locked => ?_, fun unlocked => ?_⟩
  · split <;> rfl
  · split <;> rfl
  · rw [if_pos locked]
    exact ⟨rfl, rfl⟩
  · rw [if_neg (by rw [unlocked]; decide)]
    exact ⟨rfl, rfl, rfl⟩

theorem placeCoil_view (s : State) (k : Fin 6) : (s.placeCoil k).coilView k = placedCoil (s.cfg k) (s.coils.at k) := by
  unfold State.placeCoil placedCoil State.coilView
  dsimp only
  split
  · exact Prod.ext (Tab.at_put_self _ _ _) (Tab.at_put_self _ _ _)
  · exact Prod.ext (Tab.at_put_self _ _ _) (Tab.at_put_self _ _ _)

theorem placeCoil_others (s : State) {j k : Fin 6} (other : j ≠ k) : (s.placeCoil k).coilView j = s.coilView j := by
  obtain ⟨-, others⟩ := ownCoil_placeCoil s k
  obtain ⟨coil, exposure, -⟩ := others j other
  exact Prod.ext coil exposure

theorem handCoil_view (s : State) (j k : Fin 6) : (s.handCoil k).coilView j = s.coilView j := rfl

theorem releaseCoil_view (s : State) (k : Fin 6) :
    ((s.releaseCoil k).coilView k = if (s.cfg k).present then placedCoil (s.cfg k) (s.coils.at k) else s.coilView k) ∧
      ∀ j, j ≠ k → (s.releaseCoil k).coilView j = s.coilView j := by
  unfold State.releaseCoil
  split
  · rw [handCoil_view]
    exact ⟨placeCoil_view s k, fun j other => (handCoil_view _ j k).trans (placeCoil_others s other)⟩
  · exact ⟨rfl, fun _ _ => rfl⟩

/-- The present coils placed, the absent ones as they stood. -/
theorem releaseCoils_views (s : State) (k : Fin 6) : (allCoils.foldl State.releaseCoil s).coilView k =
    if (s.cfg k).present then placedCoil (s.cfg k) (s.coils.at k) else s.coilView k := by
  refine ((foldl_own State.coilView State.releaseCoil (seqFrame s)
    (fun k v => if (s.cfg k).present then placedCoil (s.cfg k) v.1 else v) (fun t k h => seqFrame_trans h (seqFrame_releaseCoil t k))
    (fun t k j _ other => ?_) (fun t k h => ?_) allCoils s allCoils_nodup (seqFrame_refl s)).1 k (mem_allCoils k)).trans rfl
  · exact (releaseCoil_view t k).2 j other
  · rw [(releaseCoil_view t k).1, cfg_of_frame h k, State.coilView]

/-- The state of a plant that enters TEST from FALLBACK, with its coils placed, before its units are. -/
def State.released (s : State) : State := allCoils.foldl State.releaseCoil { s with mode := .test }

theorem startUnits_store (s : State) : (allUnits.foldl State.startUnit s).store = s.store := by
  have fold (l : List (Fin 3)) (t : State) : (l.foldl State.startUnit t).store = t.store := by
    induction l generalizing t with
    | nil => rfl
    | cons u l ih => rw [List.foldl_cons, ih, (unitFrame_startUnit u t).1]
  exact fold allUnits s

theorem releaseCoil_store (s : State) (k : Fin 6) : (s.releaseCoil k).store = s.store := by
  have hand (t : State) : (t.handCoil k).store = t.store := rfl
  unfold State.releaseCoil
  split
  · rw [hand, (ownCoil_placeCoil s k).1]
  · rfl

theorem released_store (s : State) : s.released.store = s.store := by
  have fold (l : List (Fin 6)) (t : State) : (l.foldl State.releaseCoil t).store = t.store := by
    induction l generalizing t with
    | nil => rfl
    | cons k l ih => rw [List.foldl_cons, ih, releaseCoil_store]
  exact fold allCoils _

theorem enterTest_fallback {s : State} (fallback : s.mode = .fallback) :
    s.enterTest = (allUnits.foldl State.startUnit s.released).handModeTest.recompute := by
  unfold State.enterTest
  rw [fallback]
  rfl

theorem enterTest_armed {s : State} (armed : s.mode = .armed) :
    s.enterTest = ({ s with mode := .test } : State).handModeTest.recompute := by
  unfold State.enterTest
  rw [armed]

theorem handModeTest_blocks (s : State) : s.handModeTest.coils = s.coils ∧ s.handModeTest.exposures = s.exposures ∧
    s.handModeTest.units = s.units ∧ s.handModeTest.store = s.store := ⟨rfl, rfl, rfl, rfl⟩

theorem handModeTest_told (s : State) : s.handModeTest.recompute.told srcModeTest = s.modeTestCondition := by
  rw [recompute_told _ fun k => (coilSource_ne_device k _ (by decide)).symm]
  exact told_handLevel_self _ _ _

theorem reqSetMode_test {s : State} (free : s.saveBusy = false) : reqSetMode 2 s = answer .done s.enterTest := by
  unfold reqSetMode
  rw [if_neg (by rw [free]; decide), if_neg (by decide), if_pos rfl]

theorem reqSetMode_armed {s : State} (free : s.saveBusy = false) : reqSetMode 1 s = s.requestArmed := by
  unfold reqSetMode
  rw [if_neg (by rw [free]; decide), if_pos rfl]

/-- What an event that keeps `seqFrame` leaves outside the protection blocks, to the end of its event, the mode apart. -/
theorem ends_framed {s p q t : State} {m : PlantMode} {v : Validation} (hp : p = { s with mode := m, validation := v })
    (h : seqFrame p q) (e : Ends q t) :
    t.mode = m ∧ t.validation = v ∧ t.tables = s.tables ∧ t.demands = s.demands ∧ t.faces = s.faces ∧ t.inputs = s.inputs ∧
      sameOutside s t := by
  have validation : q.validation = p.validation := by rw [show q = _ from h]
  refine ⟨e.only.mode.trans ((seqFrame_mode h).trans ?_), (e.only.reads State.validation fun _ _ _ => rfl).trans (validation.trans ?_),
    e.only.tables.trans ((seqFrame_tables h).trans ?_), e.only.demands.trans ((seqFrame_demands h).trans ?_),
    e.only.faces.trans ((seqFrame_faces h).trans ?_), e.only.inputs.trans ((seqFrame_inputs h).trans ?_),
    e.only.sameOutside (sameOutside_trans ?_ h.outside)⟩
  all_goals rw [hp]
  exact sameOutside_refl s

/-- Settles O33. -/
theorem testEntryFromEveryMode : Obligations.TestEntryFromEveryMode := by
  intro s tag ready free
  refine ⟨fun test => arrive_refused ready ?_, fun armed => ?_, fun fallback => ?_⟩
  · refine (reqSetMode_test free).trans ?_
    unfold State.enterTest
    rw [test]
    rfl
  · have acts : handleRequest ⟨0x21, tag, [2]⟩ s = ⟨[0], ({ s with mode := .test } : State).handModeTest.recompute⟩ := by
      rw [← enterTest_armed armed]
      exact reqSetMode_test free
    obtain ⟨t, arrives, holds, ends⟩ := arrive_ends ready acts (by rw [recompute_link]; rfl)
    have frame : seqFrame { s with mode := .test } ({ s with mode := .test } : State).handModeTest.recompute :=
      seqFrame_trans (seqFrame_handLevel _ _ _) (seqFrame_recompute _)
    obtain ⟨mode, -, tables, demands, faces, inputs, outside⟩ := ends_framed (v := s.validation) rfl frame ends
    refine ⟨t, arrives, holds, mode, (ends.told _).trans (handModeTest_told _), ?_, ?_, fun k => ?_, ends.driven (recompute_driven _),
      tables, demands, faces, inputs, ?_, outside⟩
    · rw [ends.only.units, recompute_units]
      rfl
    · rw [ends.only.exposures, recompute_exposures]
      rfl
    · rw [ends.only.coils]
      exact recompute_coils ({ s with mode := .test } : State).handModeTest k
    · rw [ends.only.store, recompute_store]
      rfl
  · have acts : handleRequest ⟨0x21, tag, [2]⟩ s =
        ⟨[0], (allUnits.foldl State.startUnit s.released).handModeTest.recompute⟩ := by
      rw [← enterTest_fallback fallback]
      exact reqSetMode_test free
    have frame : seqFrame { s with mode := .test }
        (allUnits.foldl State.startUnit s.released).handModeTest.recompute :=
      seqFrame_trans (seqFrame_foldl _ seqFrame_releaseCoil _ _) (seqFrame_trans (seqFrame_foldl _ seqFrame_startUnit _ _)
        (seqFrame_trans (seqFrame_handLevel _ _ _) (seqFrame_recompute _)))
    obtain ⟨t, arrives, holds, ends⟩ := arrive_ends ready acts (by rw [seqFrame_link frame])
    obtain ⟨mode, -, tables, demands, faces, inputs, outside⟩ := ends_framed (v := s.validation) rfl frame ends
    obtain ⟨coils, exposures⟩ := startUnits_blocks s.released allUnits
    obtain ⟨coils', exposures', units', store'⟩ := handModeTest_blocks (allUnits.foldl State.startUnit s.released)
    have relFrame : seqFrame { s with mode := .test } s.released := seqFrame_foldl _ seqFrame_releaseCoil _ _
    have test : s.released.mode = .test := seqFrame_mode relFrame
    have view (k : Fin 6) (present : (s.cfg k).present = true) :
        s.released.coilView k = placedCoil (s.cfg k) (s.coils.at k) := (releaseCoils_views _ k).trans (if_pos present)
    have own (k : Fin 6) : (s.released.coils.at k).sameButProve (t.coils.at k) := by
      rw [ends.only.coils, ← coils, ← coils']
      exact recompute_coils _ k
    have exposure (k : Fin 6) : t.exposures.at k = s.released.exposures.at k := by
      rw [ends.only.exposures, recompute_exposures, exposures', exposures]
    have stage (k : Fin 6) : (t.coils.at k).stage = (s.released.coils.at k).stage := (sameButProve_stage (own k)).1
    have cfgs : t.tables.coils = s.released.tables.coils := by
      rw [tables]
      exact (congrArg Tables.coils (seqFrame_tables relFrame)).symm
    have trip (u : Fin 3) : t.tripOf u = s.released.tripOf u := tripOf_of_trips cfgs (fun k => by rw [stage k]) u
    have temper (u : Fin 3) : t.temperOf u = s.released.temperOf u := temperOf_of_tempers cfgs (fun k => by rw [stage k]) u
    have units (u : Fin 3) : t.units.at u = s.released.placedRec u := by
      rw [ends.only.units, recompute_units, units']
      exact startUnits_records (by rw [test]; decide) u
    refine ⟨t, arrives, holds, mode, (ends.told _).trans ((handModeTest_told _).trans ?_), ends.driven (recompute_driven _), tables, demands,
      faces, inputs, ?_, outside, fun k present => ?_, fun u trips => ?_, fun u calm => ?_⟩
    · unfold State.modeTestCondition
      rw [seqFrame_mode (seqFrame_foldl _ seqFrame_startUnit _ _), test]
      rfl
    · rw [ends.only.store, recompute_store, store', startUnits_store, released_store]
    · obtain ⟨stage, settle, -⟩ := sameButProve_fields (own k)
      rw [exposure k, stage, settle, ← coilView_coil s.released, ← coilView_exposure s.released, view k present]
      exact placedCoil_fields _ _
    · rw [units u]
      exact (placedRec_stage _ u).1 (by rw [← trip u]; exact trips)
    · rw [units u, temper u]
      exact (placedRec_stage _ u).2 (by rw [← trip u]; exact calm)

end Sys2Proof.Machine
end

section
/-! PROOF. Arming (O32). -/

namespace Sys2Proof.Machine

open Sys2Proof

/-- What arming makes of a present coil's record (R14). -/
def armedSeq (r : CoilSeq) (b : Band) (frames : Nat) : CoilSeq :=
  if r.forced then r.release b frames
  else if r.stage = .tripped ∨ r.stage = .lockout then r
  else r.enter .settle frames

/-- The record, history and lockout flag stand; the coil is no longer forced and takes its stage by its trip state (R14). -/
theorem armedSeq_fields (r : CoilSeq) (b : Band) (frames : Nat) :
    (armedSeq r b frames).tripRecord = r.tripRecord ∧ (armedSeq r b frames).history = r.history ∧
    (armedSeq r b frames).lockout = r.lockout ∧ (armedSeq r b frames).forced = false ∧
    (r.forced = true → (armedSeq r b frames).stage = if b = .trip then .tripped else .settle) ∧
    (r.forced = false → (armedSeq r b frames).stage = if r.stage = .tripped ∨ r.stage = .lockout then r.stage else .settle) ∧
    ((armedSeq r b frames).stage = .settle → (armedSeq r b frames).settle = frames ∧ (armedSeq r b frames).holdDown = none) := by
  unfold armedSeq
  cases forced : r.forced
  · rw [if_neg (by decide)]
    by_cases shut : r.stage = .tripped ∨ r.stage = .lockout
    · rw [if_pos shut, if_pos shut]
      refine ⟨rfl, rfl, rfl, forced, fun h => (by cases h), fun _ => rfl, fun settle => ?_⟩
      rcases shut with stage | stage <;> cases settle.symm.trans stage
    · rw [if_neg shut, if_neg shut]
      exact ⟨rfl, rfl, rfl, forced, fun h => (by cases h), fun _ => rfl, fun _ => ⟨rfl, rfl⟩⟩
  · obtain ⟨free, stopped, record, history, lockout, trip, open_⟩ := release_fields r b frames
    rw [if_pos rfl]
    refine ⟨record, history, lockout, free, fun _ => ?_, fun h => (by cases h), fun settle => ?_⟩
    · by_cases b_trip : b = .trip
      · rw [if_pos b_trip, (trip b_trip).1]
      · rw [if_neg b_trip, (open_ b_trip).1]
    · by_cases b_trip : b = .trip
      · cases settle.symm.trans (trip b_trip).1
      · exact ⟨(open_ b_trip).2, stopped⟩

section
variable {s : State} {k : Fin 6}

/-- The write of a record and the event of the coil's unit (R89, R110). -/
def State.writeEvent (s : State) (k : Fin 6) (r : CoilSeq) : State := (s.writeCoil k r).unitEvent (s.cfg k).unit

theorem armCoil_absent (absent : (s.cfg k).present = false) : s.armCoil k = s := by
  unfold State.armCoil
  exact if_neg (by rw [absent]; decide)

/-- A present coil writes its record and makes an event, unless its trip state stands unforced. -/
theorem armCoil_present (present : (s.cfg k).present = true) : s.armCoil k =
    if (s.coils.at k).forced = false ∧ ((s.coils.at k).stage = .tripped ∨ (s.coils.at k).stage = .lockout) then s
    else s.writeEvent k (armedSeq (s.coils.at k) (s.exposures.at k).band (s.cfg k).settleFrames) := by
  unfold State.armCoil armedSeq
  dsimp only
  rw [if_pos present]
  cases forced : (s.coils.at k).forced
  · by_cases shut : (s.coils.at k).stage = .tripped ∨ (s.coils.at k).stage = .lockout
    · rw [if_neg (by decide), if_pos (by simpa using shut), if_pos ⟨rfl, shut⟩]
    · rw [if_neg (by decide), if_neg (by simpa using shut), if_neg fun h => shut h.2, if_neg (by decide), if_neg shut]
      rfl
  · rw [if_pos rfl, if_neg fun h => (by cases h.1), if_pos rfl]
    rfl

variable (r : CoilSeq)

theorem writeEvent_frame : seqFrame s (s.writeEvent k r) :=
  seqFrame_trans (seqFrame_writeCoil s k r) (seqFrame_unitEvent _ _)

theorem writeEvent_coils : (s.writeEvent k r).coils = s.coils.put k r := by
  unfold State.writeEvent
  rw [(unitFrame_unitEvent (s.cfg k).unit (s.writeCoil k r)).1]
  rfl

theorem writeEvent_blocks : (s.writeEvent k r).exposures = s.exposures ∧ (s.writeEvent k r).store = s.store := by
  unfold State.writeEvent
  rw [(unitFrame_unitEvent (s.cfg k).unit (s.writeCoil k r)).1]
  exact ⟨rfl, rfl⟩

/-- The event is one of R110 for the coil's unit. -/
theorem writeEvent_moved : onlyUnitMoved s (s.writeEvent k r) (s.cfg k).unit := by
  obtain ⟨own, others⟩ := unitEvent_onlyUnitMoved (s.writeCoil k r) (s.cfg k).unit
  have frame := seqFrame_writeCoil s k r
  refine ⟨fun protects => ?_, fun v other => (others v other).trans (by rw [writeCoil_units])⟩
  exact unitMoved_congr (own (by rw [seqFrame_mode frame]; exact protects)) (by rw [writeCoil_units]) (by rw [seqFrame_tables frame])
    (seqFrame_seconds frame).symm rfl rfl rfl rfl rfl

end

/-! ## The coils one after another -/

/-- The coils and the units have moved; nothing else that arming reads has. -/
structure Arming (s t : State) : Prop where
  frame : seqFrame s t
  exposures : t.exposures = s.exposures
  store : t.store = s.store

theorem arming_armCoil {s t : State} (h : Arming s t) (k : Fin 6) : Arming s (t.armCoil k) := by
  refine ⟨seqFrame_trans h.frame (seqFrame_armCoil t k), ?_, ?_⟩
  all_goals
    by_cases present : (t.cfg k).present = true
    · rw [armCoil_present present]
      split
      · first
          | exact h.exposures
          | exact h.store
      · first
          | exact (writeEvent_blocks _).1.trans h.exposures
          | exact (writeEvent_blocks _).2.trans h.store
    · rw [armCoil_absent (Bool.eq_false_of_not_eq_true present)]
      first
        | exact h.exposures
        | exact h.store

/-- The record that arming leaves of coil `k`. -/
def State.armedRec (s : State) (k : Fin 6) (r : CoilSeq) : CoilSeq :=
  if (s.cfg k).present then armedSeq r (s.exposures.at k).band (s.cfg k).settleFrames else r

theorem armCoil_coils {s t : State} (h : Arming s t) (k : Fin 6) :
    (t.armCoil k).coils.at k = s.armedRec k (t.coils.at k) ∧ ∀ j, j ≠ k → (t.armCoil k).coils.at j = t.coils.at j := by
  have cfg := cfg_of_frame h.frame k
  unfold State.armedRec
  by_cases present : (s.cfg k).present = true
  · rw [armCoil_present (by rw [cfg]; exact present), if_pos present, cfg, h.exposures]
    split
    · rename_i stands
      refine ⟨?_, fun _ _ => rfl⟩
      unfold armedSeq
      rw [if_neg (by rw [stands.1]; decide), if_pos stands.2]
    · rw [writeEvent_coils]
      exact ⟨Tab.at_put_self _ _ _, fun j other => Tab.at_put_of_ne _ _ other⟩
  · rw [armCoil_absent (by rw [cfg]; exact Bool.eq_false_of_not_eq_true present), if_neg present]
    exact ⟨rfl, fun _ _ => rfl⟩

/-- Every coil's record once all are armed. -/
theorem armCoils_records (s : State) (k : Fin 6) : (allCoils.foldl State.armCoil s).coils.at k = s.armedRec k (s.coils.at k) :=
  (foldl_own (fun t k => t.coils.at k) State.armCoil (Arming s) (fun k r => s.armedRec k r) (fun _ k h => arming_armCoil h k)
    (fun _ k _ h other => (armCoil_coils h k).2 _ other) (fun _ k h => (armCoil_coils h k).1) allCoils s allCoils_nodup
    ⟨seqFrame_refl s, rfl, rfl⟩).1 k (mem_allCoils k)

theorem arming_armCoils (s : State) : Arming s (allCoils.foldl State.armCoil s) := by
  have fold (l : List (Fin 6)) : ∀ t, Arming s t → Arming s (l.foldl State.armCoil t) := by
    induction l with
    | nil => exact fun _ h => h
    | cons k l ih => exact fun t h => ih _ (arming_armCoil h k)
  exact fold allCoils s ⟨seqFrame_refl s, rfl, rfl⟩

/-! ## A unit none of whose coils is left tripped (R118, R121) -/

section
variable {s : State} {u : Fin 3}

section
variable (calm : ∀ k, s.coilOf u k = true → (s.armedRec k (s.coils.at k)).stage.trips = false)
include calm

/-- A coil of the unit that has not been taken makes an event, and its record written trips the unit no more. -/
theorem armCoil_event {t : State} (h : Arming s t) {k : Fin 6} (own : s.coilOf u k = true) (fresh : t.coils.at k = s.coils.at k) :
    onlyUnitMoved t (t.armCoil k) u ∧ (t.tripOf u = false → (t.armCoil k).tripOf u = false) := by
  have cfg := cfg_of_frame h.frame k
  obtain ⟨present, unit⟩ : (s.cfg k).present = true ∧ (s.cfg k).unit = u := by
    unfold State.coilOf at own
    simpa using own
  have open_ := calm k own
  rw [State.armedRec, if_pos present] at open_
  have acts : t.armCoil k = t.writeEvent k (armedSeq (s.coils.at k) (s.exposures.at k).band (s.cfg k).settleFrames) := by
    rw [armCoil_present (by rw [cfg]; exact present), fresh, h.exposures, cfg]
    refine if_neg fun ⟨free, shut⟩ => ?_
    unfold armedSeq at open_
    rw [if_neg (by rw [free]; decide), if_pos shut] at open_
    unfold CoilStage.trips at open_
    rcases shut with stage | stage <;> simp [stage] at open_
  have moved := writeEvent_moved (s := t) (k := k) (armedSeq (s.coils.at k) (s.exposures.at k).band (s.cfg k).settleFrames)
  rw [acts]
  rw [cfg, unit] at moved
  refine ⟨moved, fun quiet => ?_⟩
  rw [tripOf_false_iff] at quiet ⊢
  intro j present unit
  rw [cfg_of_frame (writeEvent_frame _) j] at present unit
  rw [writeEvent_coils, Tab.at_put]
  split
  · unfold CoilStage.trips at open_
    simpa using open_
  · exact quiet j present unit

end

theorem temperOf_congr {t w : State} {u : Fin 3} (cfgs : ∀ k, w.coilOf u k = t.coilOf u k)
    (coils : ∀ k, t.coilOf u k = true → (w.coils.at k).stage = (t.coils.at k).stage) : w.temperOf u = t.temperOf u := by
  unfold State.temperOf
  refine List.any_congr rfl fun k => ?_
  rw [cfgs]
  cases own : t.coilOf u k
  · rfl
  · rw [coils k own]

/-- A coil of another unit, or an absent one, leaves this unit. -/
theorem armCoil_apart {t : State} (h : Arming s t) {k : Fin 6} (other : s.coilOf u k = false) :
    (t.armCoil k).units.at u = t.units.at u ∧ (t.armCoil k).tripOf u = t.tripOf u ∧ (t.armCoil k).temperOf u = t.temperOf u := by
  have frame := seqFrame_armCoil t k
  have cfgs (j : Fin 6) : (t.armCoil k).coilOf u j = t.coilOf u j := by
    unfold State.coilOf
    rw [cfg_of_frame frame j]
  have apart : t.coilOf u k = false := by
    unfold State.coilOf at other ⊢
    rw [cfg_of_frame h.frame k]
    exact other
  have coils (j : Fin 6) (own : t.coilOf u j = true) : ((t.armCoil k).coils.at j).stage = (t.coils.at j).stage := by
    rw [(armCoil_coils h k).2 j fun same => by rw [same, apart] at own; cases own]
  refine ⟨?_, tripOf_congr cfgs coils, temperOf_congr cfgs coils⟩
  by_cases present : (t.cfg k).present = true
  · rw [armCoil_present present]
    split
    · rfl
    · refine (writeEvent_moved _).2 u fun same => ?_
      unfold State.coilOf at apart
      simp [present, same] at apart
  · rw [armCoil_absent (Bool.eq_false_of_not_eq_true present)]

/-- From `s` to `t` the coils of `done` have been armed; a unit shut in `s` has handled one event for all of its own (R110). -/
structure ArmedUnit (s : State) (u : Fin 3) (done : List (Fin 6)) (t : State) : Prop where
  arming : Arming s t
  fresh : ∀ k, k ∉ done → t.coils.at k = s.coils.at k
  moved : (∃ k, k ∈ done ∧ s.coilOf u k = true) → unitMoved s t u
  stands : (∀ k, k ∈ done → s.coilOf u k = false) → t.units.at u = s.units.at u

section
variable (protects : s.mode ≠ .fallback) (shut : (s.units.at u).stage.shut = true)
  (calm : ∀ k, s.coilOf u k = true → (s.armedRec k (s.coils.at k)).stage.trips = false)
include protects shut calm

theorem ArmedUnit.next {done : List (Fin 6)} {t : State} (h : ArmedUnit s u done t) {k : Fin 6} (fresh : k ∉ done) :
    ArmedUnit s u (k :: done) (t.armCoil k) := by
  have arming := arming_armCoil h.arming k
  have frame := seqFrame_armCoil t k
  have damper : (t.armCoil k).damperProof u = t.damperProof u := by
    unfold State.damperProof
    rw [seqFrame_inputs frame]
  have fan : (t.armCoil k).fanProof u = t.fanProof u := by
    unfold State.fanProof
    rw [seqFrame_inputs frame]
  refine ⟨arming, fun j out => ?_, ?_, fun none => ?_⟩
  · rw [List.mem_cons, not_or] at out
    rw [(armCoil_coils h.arming k).2 j out.1, h.fresh j out.2]
  · rintro ⟨j, hj, own⟩
    cases ownK : s.coilOf u k
    · obtain ⟨units, trip, temper⟩ := armCoil_apart h.arming ownK
      have before : j ∈ done := (List.mem_cons.mp hj).resolve_left fun same => by rw [← same, own] at ownK; cases ownK
      exact unitMoved_congr (h.moved ⟨j, before, own⟩) rfl rfl rfl units temper trip damper fan
    · obtain ⟨⟨moved, -⟩, falls⟩ := armCoil_event calm h.arming ownK (h.fresh k fresh)
      have moved := moved (by rw [seqFrame_mode h.arming.frame]; exact protects)
      by_cases before : ∃ i, i ∈ done ∧ s.coilOf u i = true
      · refine unitMoved_twice (h.moved before) moved (by rw [seqFrame_tables h.arming.frame]) (seqFrame_seconds h.arming.frame) damper
          fan ?_
        cases trips : t.tripOf u
        · exact .inl (falls trips)
        · exact .inr ⟨shut, rfl⟩
      · have still := h.stands fun i hi => Bool.eq_false_of_not_eq_true fun own => before ⟨i, hi, own⟩
        exact unitMoved_congr moved still.symm (by rw [seqFrame_tables h.arming.frame]) (seqFrame_seconds h.arming.frame).symm rfl rfl rfl
          rfl rfl
  · rw [(armCoil_apart h.arming (none k List.mem_cons_self)).1]
    exact h.stands fun j hj => none j (List.mem_cons_of_mem _ hj)

/-- A unit with a present coil and none left tripped has handled one event once all are armed. -/
theorem armCoils_moved (some : ∃ k, s.coilOf u k = true) : unitMoved s (allCoils.foldl State.armCoil s) u := by
  have fold (l : List (Fin 6)) : ∀ done t, ArmedUnit s u done t → l.Nodup → (∀ k ∈ l, k ∉ done) →
      ∃ taken, (∀ k ∈ l, k ∈ taken) ∧ (∀ k ∈ done, k ∈ taken) ∧ ArmedUnit s u taken (l.foldl State.armCoil t) := by
    induction l with
    | nil => exact fun done t h _ _ => ⟨done, fun _ hk => absurd hk List.not_mem_nil, fun _ hk => hk, h⟩
    | cons k l ih =>
      intro done t h once fresh
      obtain ⟨first, once⟩ := List.nodup_cons.mp once
      obtain ⟨taken, all, kept, whole⟩ := ih (k :: done) (t.armCoil k) (h.next protects shut calm (fresh k List.mem_cons_self)) once
        fun j hj => by
          rw [List.mem_cons, not_or]
          exact ⟨fun same => first (same ▸ hj), fresh j (List.mem_cons_of_mem _ hj)⟩
      refine ⟨taken, fun j hj => ?_, fun j hj => kept j (List.mem_cons_of_mem _ hj), whole⟩
      rcases List.mem_cons.mp hj with rfl | hj
      · exact kept j List.mem_cons_self
      · exact all j hj
  have start : ArmedUnit s u [] s := ⟨⟨seqFrame_refl s, rfl, rfl⟩, fun _ _ => rfl, fun ⟨_, hk, _⟩ => absurd hk List.not_mem_nil,
    fun _ => rfl⟩
  obtain ⟨taken, all, -, whole⟩ := fold allCoils [] s start allCoils_nodup fun _ _ => List.not_mem_nil
  obtain ⟨k, own⟩ := some
  exact whole.moved ⟨k, all k (mem_allCoils k), own⟩

end

end

/-- A shut unit's event with its trip condition false gives RESTART_HOLD (R118). -/
theorem unitMoved_restarts {s t : State} {u : Fin 3} (h : unitMoved s t u) (shut : (s.units.at u).stage.shut = true)
    (calm : t.tripOf u = false) (runs : 0 < (s.tables.units.at u).holdOff) : (t.units.at u).stage = .restartHold ∧
      (t.units.at u).holdOff = some (s.tables.units.at u).holdOff ∧ (t.units.at u).stroke = none ∧ (t.units.at u).fan = none := by
  have held : movedRec (eventRec s t u) (s.tables.units.at u) (t.damperProof u && t.fanProof u) s.plantSeconds =
      heldRec (eventRec s t u) (s.tables.units.at u) := by
    have trip : (eventRec s t u).trip = false := calm
    have stage : (eventRec s t u).stage.shut = true := shut
    unfold movedRec
    rw [trip]
    cases e : (eventRec s t u).stage <;> rw [e] at stage
    all_goals first
      | rfl
      | cases stage
  rw [unitMoved_iff.mp h, held]
  unfold heldRec
  rw [if_neg (by omega), if_neg (by omega)]
  exact ⟨rfl, rfl, rfl, rfl⟩

/-! ## SET-MODE ARMED (R13, R14) -/

/-- The state at the beginning of arming: the validation result written and the mode ARMED. -/
def State.armingState (s : State) : State := { s with validation := s.tables.validate, mode := .armed }

/-- The state with all coils armed, before MODE_TEST is told and the outputs follow. -/
def State.armedCoils (s : State) : State := allCoils.foldl State.armCoil s.armingState

theorem requestArmed_test {s : State} (test : s.mode = .test) : s.requestArmed = if s.tables.validate.reason = 0
    then answer .done s.armedCoils.handModeTest.recompute
    else ⟨[8, u8 s.tables.validate.coil, u8 s.tables.validate.reason], { s with validation := s.tables.validate }⟩ := by
  unfold State.requestArmed
  rw [test]
  rfl

/-- Settles O32. -/
theorem armingPlacesEveryCoil : Obligations.ArmingPlacesEveryCoil := by
  intro s tag ready free
  refine ⟨fun fallback => arrive_refused ready ?_, fun armed => arrive_refused ready ?_, fun test bad => ?_, fun test good => ?_⟩
  · refine (reqSetMode_armed free).trans ?_
    unfold State.requestArmed
    rw [fallback]
    rfl
  · refine (reqSetMode_armed free).trans ?_
    unfold State.requestArmed
    rw [armed]
    rfl
  · exact arrive_acted ready ((reqSetMode_armed free).trans ((requestArmed_test test).trans (if_neg bad))) ready.2.1
  · have acts : handleRequest ⟨0x21, tag, [1]⟩ s = ⟨[0], s.armedCoils.handModeTest.recompute⟩ :=
      (reqSetMode_armed free).trans ((requestArmed_test test).trans (if_pos good))
    have arming := arming_armCoils s.armingState
    have frame : seqFrame s.armingState s.armedCoils.handModeTest.recompute :=
      seqFrame_trans arming.frame (seqFrame_trans (seqFrame_handLevel _ _ _) (seqFrame_recompute _))
    obtain ⟨t, arrives, holds, ends⟩ := arrive_ends ready acts (by rw [seqFrame_link frame]; rfl)
    obtain ⟨mode, validation, tables, demands, faces, inputs, outside⟩ := ends_framed (s := s) rfl frame ends
    obtain ⟨coils, exposures, units, store⟩ := handModeTest_blocks s.armedCoils
    have armed (k : Fin 6) : s.armedCoils.coils.at k = s.armingState.armedRec k (s.coils.at k) := armCoils_records s.armingState k
    have armedTables : s.armedCoils.tables = s.tables := seqFrame_tables (s := s.armingState) arming.frame
    have own (k : Fin 6) : (s.armingState.armedRec k (s.coils.at k)).sameButProve (t.coils.at k) := by
      rw [ends.only.coils, ← armed k, ← coils]
      exact recompute_coils _ k
    have stage (k : Fin 6) : (t.coils.at k).stage = (s.armingState.armedRec k (s.coils.at k)).stage := (sameButProve_stage (own k)).1
    refine ⟨t, arrives, holds, mode, validation, (ends.told _).trans ((handModeTest_told _).trans ?_), ends.driven (recompute_driven _), ?_,
      faces, tables, demands, inputs, ?_, outside, fun u shut calm some runs => ?_, fun k => ?_⟩
    · unfold State.modeTestCondition
      rw [show s.armedCoils.mode = _ from seqFrame_mode arming.frame]
      rfl
    · rw [ends.only.exposures, recompute_exposures, exposures]
      exact arming.exposures
    · rw [ends.only.store, recompute_store, store]
      exact arming.store
    · have quiet (k : Fin 6) (coilOf : s.armingState.coilOf u k = true) :
          (s.armingState.armedRec k (s.armingState.coils.at k)).stage.trips = false := by
        obtain ⟨present, unit⟩ : (s.cfg k).present = true ∧ (s.cfg k).unit = u := by
          unfold State.coilOf at coilOf
          simp only [Bool.and_eq_true, decide_eq_true_eq] at coilOf
          exact coilOf
        have cfg : t.cfg k = s.cfg k := by
          unfold State.cfg
          rw [tables]
        obtain ⟨tripped, lockout⟩ := (tripOf_false_iff t u).mp calm k (by rw [cfg]; exact present) (by rw [cfg]; exact unit)
        rw [stage k] at tripped lockout
        unfold CoilStage.trips
        simp only [Bool.or_eq_false_iff, beq_eq_false_iff_ne]
        exact ⟨tripped, lockout⟩
      have moved := armCoils_moved (s := s.armingState) (u := u) (show PlantMode.armed ≠ .fallback by decide) shut quiet some
      have calm' : s.armedCoils.tripOf u = false := by
        rw [tripOf_false_iff] at calm ⊢
        intro k present unit
        have cfg : s.armedCoils.cfg k = t.cfg k := by
          unfold State.cfg
          rw [tables, armedTables]
        rw [armed k]
        have := calm k (by rw [← cfg]; exact present) (by rw [← cfg]; exact unit)
        rw [stage k] at this
        exact this
      rw [ends.only.units, recompute_units, units]
      exact unitMoved_restarts moved shut calm' runs
    · obtain ⟨stage, settle, holdDown, lockout, forced, record, history⟩ := sameButProve_fields (own k)
      rw [stage, settle, holdDown, lockout, forced, record, history]
      have left : s.armingState.armedRec k (s.coils.at k) = if (s.cfg k).present
          then armedSeq (s.coils.at k) (s.exposures.at k).band (s.cfg k).settleFrames else s.coils.at k := rfl
      rw [left]
      cases present : (s.cfg k).present
      · exact ⟨rfl, rfl, rfl, fun _ => rfl, fun h => by cases h⟩
      · obtain ⟨record, history, lockout, free, forced, unforced, settles⟩ :=
          armedSeq_fields (s.coils.at k) (s.exposures.at k).band (s.cfg k).settleFrames
        rw [if_pos rfl]
        exact ⟨record, history, lockout, fun h => (by cases h), fun _ => ⟨free, forced, unforced, settles⟩⟩

end Sys2Proof.Machine
end

section
/-! PROOF. The records that a start's completion leaves (O36, O37). -/

namespace Sys2Proof.Machine

open Sys2Proof

/-! ## What placing, driving and handing over leave of a start's records -/

/-- The sampler's blocks, the protection blocks, the outputs, the resolver and the store alone differ. -/
def startFrame (s t : State) : Prop :=
  t = { s with channels := t.channels, sampler := t.sampler, detectors := t.detectors, coils := t.coils, exposures := t.exposures,
               units := t.units, outputs := t.outputs, alerts := t.alerts, store := t.store }

section
variable {s t w : State}

theorem startFrame_trans (h : startFrame s t) (h' : startFrame t w) : startFrame s w := Eq.trans h' (by rw [h])

theorem startFrame_of_seqFrame (h : seqFrame s t) : startFrame s t := by
  unfold startFrame
  rw [show t = _ from h]

theorem startFrame_of_samplerFrame (h : samplerFrame s t) : startFrame s t := by
  unfold startFrame
  rw [show t = _ from h]

theorem startFrame_handStartLevels (s : State) : startFrame s s.handStartLevels := by
  have levels : ∀ (l : List (Fin 6)) (t : State), seqFrame t (l.foldl State.handCoilLevels t) :=
    seqFrame_foldl _ fun t k => seqFrame_trans (seqFrame_handCoil t k) (seqFrame_handLevel _ _ _)
  exact startFrame_of_seqFrame (seqFrame_trans (seqFrame_trans (seqFrame_handLevel s _ _) (seqFrame_handLevel _ _ _))
    (seqFrame_trans (levels _ _) (seqFrame_trans (seqFrame_handDemandsStale _) (seqFrame_handLevel _ _ _))))

theorem startFrame_startHanded (s : State) : startFrame s s.startHanded := by
  have written : startFrame s (if s.areaDirty then s.lockoutChange else s) :=
    startFrame_of_seqFrame (seqFrame_ite (seqFrame_lockoutChange s) (seqFrame_refl s))
  exact startFrame_trans (startFrame_trans written (startFrame_handStartLevels _)) (startFrame_of_seqFrame (seqFrame_setAlerts _ _))

theorem seqFrame_proveFresh_fold (s : State) : seqFrame s (allCoils.foldl State.proveFresh s) :=
  seqFrame_foldl _ seqFrame_proveFresh _ s

theorem startFrame_startDriven (s : State) : startFrame s s.startDriven :=
  startFrame_trans (startFrame_of_seqFrame (seqFrame_trans (seqFrame_setOutputs s _) (seqFrame_proveFresh_fold _)))
    (startFrame_of_samplerFrame (samplerFrame_beginPass _))

end

/-- The state with the records that a start loads, before its coils and units are placed. -/
def State.startBase (s : State) (cold : Bool) (strap : Strap) : State := (s.loadStart cold strap).startBlocks

theorem startFrame_completeStart (s : State) (cold : Bool) (strap : Strap) :
    startFrame (s.startBase cold strap) (s.completeStart cold strap) := by
  rw [completeStart_eq]
  exact startFrame_trans (startFrame_of_seqFrame (seqFrame_startPlaced s cold strap))
    (startFrame_trans (startFrame_startDriven _) (startFrame_startHanded _))

/-! ## The coils as a start places them (R16, R85, R105) -/

/-- The state with the coils placed, before the units are. -/
def State.startCoils (s : State) : State := allCoils.foldl State.startCoil s

theorem startPlaced_eq (s : State) (cold : Bool) (strap : Strap) :
    s.startPlaced cold strap = allUnits.foldl State.startUnit (s.startBase cold strap).startCoils := rfl

theorem startCoil_view (s : State) (k : Fin 6) :
    ((s.startCoil k).coilView k = if s.mode ≠ .fallback ∧ (s.cfg k).present = true then placedCoil (s.cfg k) (s.coils.at k)
      else s.coilView k) ∧ ∀ j, j ≠ k → (s.startCoil k).coilView j = s.coilView j := by
  have placed (protects : s.mode ≠ .fallback) : ((if (s.cfg k).present then s.placeCoil k else s).coilView k =
      if s.mode ≠ .fallback ∧ (s.cfg k).present = true then placedCoil (s.cfg k) (s.coils.at k) else s.coilView k) ∧
      ∀ j, j ≠ k → (if (s.cfg k).present then s.placeCoil k else s).coilView j = s.coilView j := by
    by_cases present : (s.cfg k).present = true
    · rw [if_pos present, if_pos ⟨protects, present⟩]
      exact ⟨placeCoil_view s k, fun j other => placeCoil_others s other⟩
    · rw [if_neg present, if_neg fun h => present h.2]
      exact ⟨rfl, fun _ _ => rfl⟩
  by_cases fallback : s.mode = .fallback
  · rw [startCoil_fallback fallback, if_neg fun h => h.1 fallback]
    exact ⟨rfl, fun _ _ => rfl⟩
  · have acts : s.startCoil k = if (s.cfg k).present then s.placeCoil k else s := by
      unfold State.startCoil
      cases mode : s.mode with
      | armed => rfl
      | test => rfl
      | fallback => exact absurd mode fallback
    rw [acts]
    exact placed fallback

/-- The coils of a start that protects are placed by their lockout flags; otherwise every coil stands. -/
theorem startCoils_views (s : State) (k : Fin 6) : s.startCoils.coilView k =
    if s.mode ≠ .fallback ∧ (s.cfg k).present = true then placedCoil (s.cfg k) (s.coils.at k) else s.coilView k := by
  refine ((foldl_own State.coilView State.startCoil (seqFrame s)
    (fun k v => if s.mode ≠ .fallback ∧ (s.cfg k).present = true then placedCoil (s.cfg k) v.1 else v)
    (fun t k h => seqFrame_trans h (seqFrame_startCoil t k)) (fun t k j _ other => (startCoil_view t k).2 j other)
    (fun t k h => ?_) allCoils s allCoils_nodup (seqFrame_refl s)).1 k (mem_allCoils k)).trans rfl
  rw [(startCoil_view t k).1, cfg_of_frame h k, seqFrame_mode h, State.coilView]

theorem seqFrame_startCoils (s : State) : seqFrame s s.startCoils := seqFrame_foldl _ seqFrame_startCoil _ s

theorem startCoil_blocks (s : State) (k : Fin 6) : (s.startCoil k).store = s.store ∧ (s.startCoil k).alerts = s.alerts := by
  have place : (s.placeCoil k).store = s.store ∧ (s.placeCoil k).alerts = s.alerts := by
    unfold State.placeCoil
    dsimp only
    split <;> exact ⟨rfl, rfl⟩
  unfold State.startCoil
  split
  · exact ⟨rfl, rfl⟩
  · split
    · exact place
    · exact ⟨rfl, rfl⟩
  · split
    · exact place
    · exact ⟨rfl, rfl⟩

theorem startCoils_blocks (s : State) : s.startCoils.store = s.store ∧ s.startCoils.alerts = s.alerts := by
  have fold (l : List (Fin 6)) (t : State) : (l.foldl State.startCoil t).store = t.store ∧
      (l.foldl State.startCoil t).alerts = t.alerts := by
    induction l generalizing t with
    | nil => exact ⟨rfl, rfl⟩
    | cons k l ih => exact ⟨(ih _).1.trans (startCoil_blocks t k).1, (ih _).2.trans (startCoil_blocks t k).2⟩
  exact fold allCoils s

/-! ## Pump proving as a start finds it (R105) -/

/-- The prove state of coil `k` by its pump output and FLOW. -/
def State.freshProve (s : State) (k : Fin 6) : Prove :=
  if (s.cfg k).present ∧ s.outputs.pumps.at k = true then (if s.flow k then .proven else .proving) else .off

/-- A record with the prove state of coil `k` taken afresh. -/
def State.provenSeq (s : State) (k : Fin 6) (r : CoilSeq) : CoilSeq :=
  { r with
    prove := s.freshProve k
    proveTimer := if s.freshProve k = .proving then some (s.cfg k).proveLimit else none }

theorem proveFresh_coils (s : State) (k : Fin 6) : (s.proveFresh k).coils.at k = s.provenSeq k (s.coils.at k) ∧
    ∀ j, j ≠ k → (s.proveFresh k).coils.at j = s.coils.at j := by
  have set (p : Prove) (n : Option Nat) : (s.setProve k p n).coils.at k = { s.coils.at k with prove := p, proveTimer := n } ∧
      ∀ j, j ≠ k → (s.setProve k p n).coils.at j = s.coils.at j := by
    rw [setProve_coils]
    exact ⟨Tab.at_put_self _ _ _, fun j other => Tab.at_put_of_ne _ _ other⟩
  unfold State.proveFresh State.provenSeq State.freshProve
  by_cases present : (s.cfg k).present = true
  · rw [if_pos present]
    cases pump : s.outputs.pumps.at k
    · simpa [present] using set .off none
    · rw [if_neg (by decide)]
      cases flow : s.flow k
      · simpa [present] using set .proving (some (s.cfg k).proveLimit)
      · simpa [present] using set .proven none
  · rw [if_neg present]
    simpa [present] using set .off none

/-- What pump proving reads stands. -/
structure ProveBase (s t : State) : Prop where
  frame : seqFrame s t
  outputs : t.outputs = s.outputs
  exposures : t.exposures = s.exposures
  units : t.units = s.units
  store : t.store = s.store

theorem proveBase_proveFresh {s t : State} (h : ProveBase s t) (k : Fin 6) : ProveBase s (t.proveFresh k) := by
  have step := proveFrame_proveFresh t k
  exact ⟨seqFrame_trans h.frame (seqFrame_proveFresh t k), (proveFrame_outputs step).trans h.outputs,
    (proveFrame_exposures step).trans h.exposures, (proveFrame_units step).trans h.units, (proveFrame_store step).trans h.store⟩

theorem proveBase_fold (s : State) : ProveBase s (allCoils.foldl State.proveFresh s) := by
  have fold (l : List (Fin 6)) : ∀ t, ProveBase s t → ProveBase s (l.foldl State.proveFresh t) := by
    induction l with
    | nil => exact fun _ h => h
    | cons k l ih => exact fun t h => ih _ (proveBase_proveFresh h k)
  exact fold allCoils s ⟨seqFrame_refl s, rfl, rfl, rfl, rfl⟩

theorem proveFresh_records (s : State) (k : Fin 6) :
    (allCoils.foldl State.proveFresh s).coils.at k = s.provenSeq k (s.coils.at k) := by
  refine (foldl_own (fun t k => t.coils.at k) State.proveFresh (ProveBase s) (fun k r => s.provenSeq k r)
    (fun _ k h => proveBase_proveFresh h k) (fun t k j _ other => (proveFresh_coils t k).2 j other) (fun t k h => ?_) allCoils s
    allCoils_nodup ⟨seqFrame_refl s, rfl, rfl, rfl, rfl⟩).1 k (mem_allCoils k)
  rw [(proveFresh_coils t k).1]
  unfold State.provenSeq State.freshProve State.flow
  rw [cfg_of_frame h.frame k, h.outputs, seqFrame_inputs h.frame]

/-! ## The driven start -/

theorem beginPass_blocks (s : State) : s.beginPass.coils = s.coils ∧ s.beginPass.exposures = s.exposures ∧
    s.beginPass.units = s.units ∧ s.beginPass.outputs = s.outputs ∧ s.beginPass.store = s.store := by
  have frame : s.beginPass = _ := samplerFrame_beginPass s
  rw [frame]
  exact ⟨rfl, rfl, rfl, rfl, rfl⟩

/-- The resolver alone differs. -/
def alertsAlone (s t : State) : Prop := ∃ a, t = s.setAlerts a

theorem alertsAlone_trans {s t w : State} (h : alertsAlone s t) (h' : alertsAlone t w) : alertsAlone s w := by
  obtain ⟨a, rfl⟩ := h
  obtain ⟨b, rfl⟩ := h'
  exact ⟨b, rfl⟩

theorem alertsAlone_handLevel (s : State) (x : Fin 65) (c : Bool) : alertsAlone s (s.handLevel x c) := ⟨_, rfl⟩

theorem alertsAlone_foldl {α : Type} (f : State → α → State) (h : ∀ s a, alertsAlone s (f s a)) (l : List α) (s : State) :
    alertsAlone s (l.foldl f s) := by
  induction l generalizing s with
  | nil => exact ⟨s.alerts, rfl⟩
  | cons a l ih => exact alertsAlone_trans (h s a) (ih _)

theorem alertsAlone_handCoilLevels (s : State) (k : Fin 6) : alertsAlone s (s.handCoilLevels k) :=
  alertsAlone_trans (alertsAlone_trans (alertsAlone_trans (alertsAlone_handLevel s _ _) (alertsAlone_handLevel _ _ _))
    (alertsAlone_handLevel _ _ _)) (alertsAlone_handLevel _ _ _)

theorem alertsAlone_handDemandsStale (s : State) : alertsAlone s s.handDemandsStale :=
  alertsAlone_foldl State.handDemandStale (fun t _ => alertsAlone_handLevel t _ _) _ s

theorem alertsAlone_handStartLevels (s : State) : alertsAlone s s.handStartLevels :=
  alertsAlone_trans (alertsAlone_trans (alertsAlone_trans (alertsAlone_trans (alertsAlone_handLevel s _ _) (alertsAlone_handLevel _ _ _))
    (alertsAlone_foldl _ alertsAlone_handCoilLevels _ _)) (alertsAlone_handDemandsStale _)) (alertsAlone_handLevel _ _ _)

/-- The level conditions and the LOCKOUT-WRITE leave every record but the store's. -/
theorem startHanded_blocks (s : State) : s.startHanded.coils = s.coils ∧ s.startHanded.exposures = s.exposures ∧
    s.startHanded.units = s.units ∧ s.startHanded.outputs = s.outputs ∧
    s.startHanded.store = (if s.areaDirty then s.lockoutChange else s).store ∧
    s.startHanded.channels = s.channels ∧ s.startHanded.sampler = s.sampler ∧ s.startHanded.detectors = s.detectors := by
  have note (t : State) : t.noteSelection = t.setAlerts { t.alerts with selectionDue := true } := rfl
  have written : (if s.areaDirty then s.lockoutChange else s) = s.setStore (if s.areaDirty then s.lockoutChange else s).store := by
    split
    · exact lockoutChange_eq s
    · rfl
  obtain ⟨a, levels⟩ := alertsAlone_handStartLevels (if s.areaDirty then s.lockoutChange else s)
  unfold State.startHanded
  rw [note, levels]
  generalize (if s.areaDirty then s.lockoutChange else s).store = st at written
  rw [written]
  exact ⟨rfl, rfl, rfl, rfl, rfl, rfl, rfl, rfl⟩

end Sys2Proof.Machine
end

section
/-! PROOF. The completion of a start: the tables, the mode and the store (O36). -/

namespace Sys2Proof.Machine

open Sys2Proof

/-! ## The completed start, block by block -/

theorem exec_startComplete {s : State} {cold : Bool} (starting : s.power = .starting cold) (strap : Strap) :
    exec (.startComplete strap) s = .next (s.completeStart cold strap).conclude := by
  change execStartComplete strap s = _
  unfold execStartComplete
  rw [starting]

/-- The state with the outputs of a completing start set, before pump proving is taken afresh. -/
def State.startOutputs (s : State) (cold : Bool) (strap : Strap) : State :=
  (s.startPlaced cold strap).setOutputs (s.startPlaced cold strap).effective

section
variable (s : State) (cold : Bool) (strap : Strap)

theorem completeStart_coils (k : Fin 6) : (s.completeStart cold strap).coils.at k =
    (s.startOutputs cold strap).provenSeq k ((s.startBase cold strap).startCoils.coils.at k) := by
  have coils : (s.startOutputs cold strap).coils = (s.startBase cold strap).startCoils.coils :=
    (startUnits_blocks (s.startBase cold strap).startCoils allUnits).1
  rw [completeStart_eq, (startHanded_blocks _).1, State.startDriven, (beginPass_blocks _).1, ← coils]
  exact proveFresh_records _ k

theorem completeStart_exposures : (s.completeStart cold strap).exposures = (s.startBase cold strap).startCoils.exposures := by
  have exposures : (s.startOutputs cold strap).exposures = (s.startBase cold strap).startCoils.exposures :=
    (startUnits_blocks (s.startBase cold strap).startCoils allUnits).2
  rw [completeStart_eq, (startHanded_blocks _).2.1, State.startDriven, (beginPass_blocks _).2.1, ← exposures]
  exact (proveBase_fold _).exposures

theorem completeStart_units : (s.completeStart cold strap).units = (s.startPlaced cold strap).units := by
  rw [completeStart_eq, (startHanded_blocks _).2.2.1, State.startDriven, (beginPass_blocks _).2.2.1]
  exact (proveBase_fold _).units

theorem completeStart_outputs : (s.completeStart cold strap).outputs = (s.startPlaced cold strap).effective := by
  rw [completeStart_eq, (startHanded_blocks _).2.2.2.1, State.startDriven, (beginPass_blocks _).2.2.2.1]
  exact (proveBase_fold _).outputs

theorem startDriven_store : (s.startPlaced cold strap).startDriven.store = s.store := by
  have before : (s.startPlaced cold strap).store = s.store :=
    (startUnits_store _).trans ((startCoils_blocks (s.startBase cold strap)).1.trans rfl)
  rw [State.startDriven, (beginPass_blocks _).2.2.2.2]
  exact (proveBase_fold _).store.trans before

theorem startDriven_coils (k : Fin 6) : (s.startPlaced cold strap).startDriven.coils.at k =
    (s.completeStart cold strap).coils.at k := by
  rw [completeStart_eq, (startHanded_blocks _).1]

theorem startDriven_areaDirty : (s.startPlaced cold strap).startDriven.areaDirty = !s.area.crcMatches := by
  have frame : startFrame (s.startBase cold strap) (s.startPlaced cold strap).startDriven :=
    startFrame_trans (startFrame_of_seqFrame (seqFrame_startPlaced s cold strap)) (startFrame_startDriven _)
  rw [show (s.startPlaced cold strap).startDriven = _ from frame]
  rfl

end

/-- Placing a coil keeps its lockout flag, trip record and history (R16). -/
theorem placedCoil_kept (c : CoilCfg) (r : CoilSeq) : (placedCoil c r).1.lockout = r.lockout ∧
    (placedCoil c r).1.tripRecord = r.tripRecord ∧ (placedCoil c r).1.history = r.history := by
  unfold placedCoil
  split <;> exact ⟨rfl, rfl, rfl⟩

theorem startBase_coil (s : State) (cold : Bool) (strap : Strap) (k : Fin 6) :
    (s.startBase cold strap).coils.at k = s.startSeq cold k := Tab.at_build _ _

/-- The flags, trip records and histories of a completed start (R16 steps 5 and 6). -/
theorem completeStart_kept (s : State) (cold : Bool) (strap : Strap) (k : Fin 6) :
    ((s.completeStart cold strap).coils.at k).lockout = (s.area.crcMatches && s.area.flags.at k) ∧
    ((s.completeStart cold strap).coils.at k).tripRecord = (if cold then none else (s.coils.at k).tripRecord) ∧
    ((s.completeStart cold strap).coils.at k).history = (if cold then [] else (s.coils.at k).history) := by
  rw [completeStart_coils, ← coilView_coil, startCoils_views]
  unfold State.provenSeq
  dsimp only
  split
  · obtain ⟨lockout, record, history⟩ := placedCoil_kept ((s.startBase cold strap).cfg k) ((s.startBase cold strap).coils.at k)
    rw [lockout, record, history, startBase_coil]
    exact ⟨rfl, rfl, rfl⟩
  · rw [coilView_coil, startBase_coil]
    exact ⟨rfl, rfl, rfl⟩

/-- The store of a completed start: a LOCKOUT-WRITE of the flags where the area has failed its check (R16 step 6). -/
theorem completeStart_store {s : State} (cold : Bool) (strap : Strap) (idle : s.store = Store.idle) :
    (s.area.crcMatches = true → (s.completeStart cold strap).store = Store.idle) ∧
    (s.area.crcMatches = false → (s.completeStart cold strap).store =
      { job := some ⟨.lockoutWrite, .areaProgram (Tab.build fun _ => false)⟩, pendingSave := none, pendingLockout := false }) := by
  have store := startDriven_store s cold strap
  rw [completeStart_eq, (startHanded_blocks _).2.2.2.2.1, startDriven_areaDirty]
  refine ⟨fun matched => ?_, fun failed => ?_⟩
  · rw [matched, if_neg (by decide), store, idle]
  · have flags : (s.startPlaced cold strap).startDriven.lockoutFlags = Tab.build fun _ => false := by
      refine Tab.ext_at fun k => ?_
      rw [Tab.at_build]
      refine (Tab.at_each _ _ _).trans ?_
      rw [startDriven_coils, (completeStart_kept s cold strap k).1, failed]
      rfl
    rw [failed, if_pos (by decide)]
    rcases lockoutChange_cases (s.startPlaced cold strap).startDriven with ⟨-, e⟩ | ⟨j, busy, -⟩
    · rw [e, State.setStore_store, State.lockoutJob, flags, store, idle]
      rfl
    · rw [store, idle] at busy
      cases busy

/-- What a start's later steps leave of the records that it loads. -/
theorem startFrame_fields {s t : State} (h : startFrame s t) : t.power = s.power ∧ t.strap = s.strap ∧ t.tables = s.tables ∧
    t.plantSeconds = s.plantSeconds ∧ t.mode = s.mode ∧ t.validation = s.validation ∧ t.imageInvalid = s.imageInvalid ∧
    t.areaDirty = s.areaDirty ∧ t.image = s.image ∧ t.area = s.area := by
  rw [show t = _ from h]
  exact ⟨rfl, rfl, rfl, rfl, rfl, rfl, rfl, rfl, rfl, rfl⟩

theorem passes_iff (i : Image) : i.passes = true ↔ i.crc = crc16 (u8 i.format :: i.tables.bytes) ∧ i.format = 1 ∧ i.tables.valid = true := by
  unfold Image.passes Image.crcMatches
  simp only [Bool.and_eq_true, beq_iff_eq]
  exact ⟨fun ⟨⟨format, crc⟩, valid⟩ => ⟨crc, format, valid⟩, fun ⟨crc, format, valid⟩ => ⟨⟨format, crc⟩, valid⟩⟩

theorem areaMatches_iff (a : Area) : a.crcMatches = true ↔ a.crc = crc16 [u8 (flagBits a.flags.toList)] := by
  unfold Area.crcMatches
  rw [beq_iff_eq]
  rfl

/-- The mode and the validation result by the strap and the image (R16 step 8). -/
theorem startMode_cases (strap : Strap) (i : Image) (T : Tables) (hT : T = if i.passes then i.tables else Tables.default) :
    (strap = .bench → (startMode strap i.passes T).1 = .test ∧ (startMode strap i.passes T).2 = { coil := 0, reason := 0 }) ∧
    (strap = .field → i.passes = false →
      (startMode strap i.passes T).1 = .fallback ∧ (startMode strap i.passes T).2 = { coil := 0, reason := 0 }) ∧
    (strap = .field → i.passes = true → (startMode strap i.passes T).2 = i.tables.validate ∧
      (startMode strap i.passes T).1 = if i.tables.validate.reason = 0 then .armed else .fallback) := by
  refine ⟨fun bench => ?_, fun field failed => ?_, fun field passed => ?_⟩
  · subst bench
    cases i.passes <;> exact ⟨rfl, rfl⟩
  · subst field
    rw [failed]
    exact ⟨rfl, rfl⟩
  · subst field
    rw [passed, if_pos rfl] at hT
    rw [passed, hT]
    exact ⟨rfl, rfl⟩

/-- Settles O36. -/
theorem startCompletionLoadsAndChoosesTheMode : Obligations.StartCompletionLoadsAndChoosesTheMode := by
  intro s cold strap starting idle
  refine ⟨passes_iff s.image, areaMatches_iff s.area, _, exec_startComplete starting strap, ?_⟩
  have only := (ends_conclude (s.completeStart cold strap)).only
  obtain ⟨power, strap', tables, seconds, mode, validation, invalid, dirty, image, area⟩ :=
    startFrame_fields (startFrame_completeStart s cold strap)
  have kept := completeStart_kept s cold strap
  obtain ⟨matched, failed⟩ := completeStart_store cold strap idle
  obtain ⟨bench, unread, read⟩ := startMode_cases strap s.image _ rfl
  generalize s.completeStart cold strap = q at only power strap' tables seconds mode validation invalid dirty image area kept matched failed
  rw [only.power, only.mode, only.tables, only.store, only.coils, only.reads State.strap fun _ _ _ => rfl,
    only.reads State.plantSeconds fun _ _ _ => rfl, only.reads State.validation fun _ _ _ => rfl,
    only.reads State.imageInvalid fun _ _ _ => rfl, only.reads State.areaDirty fun _ _ _ => rfl,
    only.reads State.image fun _ _ _ => rfl, only.reads State.area fun _ _ _ => rfl, power, strap', tables, seconds, mode, validation,
    invalid, dirty, image, area]
  exact ⟨rfl, rfl, rfl, rfl, bench, unread, read, rfl, rfl, rfl, rfl, matched, failed, kept⟩

end Sys2Proof.Machine
end

section
/-! PROOF. The alert sources that a start's completion leaves (O37). -/

namespace Sys2Proof.Machine

open Sys2Proof

/-! ## Level sources and their collections (R143, R144, R153) -/

/-- A level source is in a collection exactly while its condition is true. -/
def Alerts.matched (a : Alerts) : Prop :=
  ∀ x, isLevel x = true → ((a.sources.at x).condition = true ↔ (a.sources.at x).membership ≠ .none)

/-- No source is in service or standing. -/
def Alerts.unserved (a : Alerts) : Prop :=
  ∀ x, (a.sources.at x).membership = .none ∨ (a.sources.at x).membership = .pending

theorem start_matched : Alerts.start.matched ∧ Alerts.start.unserved := by
  refine ⟨fun x _ => ?_, fun x => ?_⟩ <;> simp [Alerts.start]

section
variable {a : Alerts} {x : Fin 65}

theorem matched_raiseEdge (edge : isLevel x = false) (h : a.matched ∧ a.unserved) :
    (a.raiseEdge x).matched ∧ (a.raiseEdge x).unserved := by
  obtain ⟨matched, unserved⟩ := h
  refine ⟨fun y level => ?_, fun y => ?_⟩
  · rw [Alerts.raiseEdge_other a fun same => by rw [same, edge] at level; cases level]
    exact matched y level
  · rcases a.raiseEdge_cases x with ⟨-, e⟩ | ⟨-, e⟩ <;> rw [e]
    · rw [Alerts.move_at]
      split
      · exact .inr rfl
      · exact unserved y
    · exact unserved y

theorem matched_handLevel (c : Bool) (h : a.matched ∧ a.unserved) :
    (a.handLevel x c).matched ∧ (a.handLevel x c).unserved := by
  obtain ⟨matched, unserved⟩ := h
  have own : ((a.handLevel x c).sources.at x).membership = .none ∨ ((a.handLevel x c).sources.at x).membership = .pending := by
    rcases a.handLevel_cases x c with ⟨-, e⟩ | ⟨-, ⟨-, -, e⟩ | ⟨-, -, e⟩ | ⟨-, e⟩⟩ <;> rw [e]
    · exact unserved x
    · simp [Alerts.move_at]
    · simp [Alerts.move_at]
    · simpa [Alerts.record_at] using unserved x
  refine ⟨fun y level => ?_, fun y => ?_⟩
  · by_cases same : y = x
    · subst same
      rw [Alerts.handLevel_condition]
      rcases a.handLevel_cases y c with ⟨held, e⟩ | ⟨held, ⟨on, -, e⟩ | ⟨off, -, e⟩ | ⟨kept, e⟩⟩ <;> rw [e]
      · rw [← held]
        exact matched y level
      · simp [on, Alerts.move_at]
      · simp [off, Alerts.move_at]
      · have before := matched y level
        rcases unserved y with none | pending
        · rcases kept with ⟨-, some⟩ | ⟨off, -⟩
          · exact absurd none some
          · simp [off, Alerts.record_at, none]
        · rcases kept with ⟨on, -⟩ | ⟨-, other, -⟩
          · simp [on, Alerts.record_at, pending]
          · exact absurd pending other
    · rw [Alerts.handLevel_other a same]
      exact matched y level
  · by_cases same : y = x
    · rw [same]
      exact own
    · rw [Alerts.handLevel_other a same]
      exact unserved y

end

theorem Alerts.Hears.matched {a b : Alerts} (h : a.Hears b) (ha : a.matched ∧ a.unserved) : b.matched ∧ b.unserved := by
  induction h with
  | refl => exact ha
  | edge _ hx ih => exact matched_raiseEdge hx ih
  | level _ c _ ih => exact matched_handLevel c ih
  | due _ ih => exact ih

/-- A selected level source, whose condition is true, goes into service or stands. -/
theorem matched_report {s : State} {x : Fin 65} (pending : (s.alerts.sources.at x).membership = .pending) (h : s.alerts.matched) :
    (s.report x).alerts.matched := by
  intro y level
  change (((s.alerts.select x _ _).sources.at y).condition = true ↔ ((s.alerts.select x _ _).sources.at y).membership ≠ .none)
  rw [Alerts.select_condition]
  by_cases same : y = x
  · subst same
    have on : (s.alerts.sources.at y).condition = true := (h y level).mpr (by rw [pending]; decide)
    rw [on]
    unfold Alerts.select
    split
    · simp [Alerts.move_at]
    · simp [Alerts.move_at]
  · rw [Alerts.select_other _ same]
    exact h y level

theorem matched_runSelection {s : State} (h : s.alerts.matched) : s.runSelection.alerts.matched := by
  have loop (n : Nat) : ∀ t : State, t.alerts.matched → (selectLoop n t).alerts.matched := by
    induction n with
    | zero => exact fun _ h => h
    | succ n ih =>
      intro t h
      unfold selectLoop
      split
      · exact h
      · rename_i x won
        exact ih _ (matched_report (winner_pending won) h)
  unfold State.runSelection
  split
  · exact loop _ s h
  · exact h

theorem matched_conclude {s : State} (h : s.alerts.matched) : s.conclude.alerts.matched := by
  have alerts : s.conclude.alerts = s.runSelection.alerts := beginHead_alerts _
  rw [alerts]
  exact matched_runSelection h

/-! ## What handing the level conditions leaves (R153) -/

theorem handLevel_source (s : State) {x y : Fin 65} (other : y ≠ x) (c : Bool) :
    (s.handLevel x c).alerts.sources.at y = s.alerts.sources.at y := Alerts.handLevel_other _ other _

/-- The sources that a start's completion tells of coil `k`. -/
def coilLevels (k : Fin 6) (y : Fin 65) : Prop := y = srcTrip k ∨ y = srcLockout k ∨ y = srcPumpFail k ∨ y = srcBlind k

theorem handCoilLevels_source (s : State) (k : Fin 6) {y : Fin 65} (other : ¬ coilLevels k y) :
    (s.handCoilLevels k).alerts.sources.at y = s.alerts.sources.at y := by
  unfold coilLevels at other
  rw [not_or, not_or, not_or] at other
  obtain ⟨trip, lockout, pump, blind⟩ := other
  refine (handLevel_source _ blind _).trans ((handLevel_source _ pump _).trans ((handLevel_source _ lockout _).trans ?_))
  exact handLevel_source _ trip _

theorem foldCoilLevels_source (l : List (Fin 6)) (s : State) {y : Fin 65} (other : ∀ k, ¬ coilLevels k y) :
    (l.foldl State.handCoilLevels s).alerts.sources.at y = s.alerts.sources.at y := by
  induction l generalizing s with
  | nil => rfl
  | cons k l ih => rw [List.foldl_cons, ih, handCoilLevels_source s k (other k)]

theorem handDemandsStale_source (s : State) {y : Fin 65} (other : ∀ u, y ≠ srcDemandStale u) :
    s.handDemandsStale.alerts.sources.at y = s.alerts.sources.at y := by
  have fold (l : List (Fin 3)) (t : State) : (l.foldl State.handDemandStale t).alerts.sources.at y = t.alerts.sources.at y := by
    induction l generalizing t with
    | nil => rfl
    | cons u l ih => exact (ih _).trans (handLevel_source t (other u) _)
  exact fold allUnits s

/-- The conditions of coil `k` as the resolver holds them. -/
def State.toldLevels (s : State) (k : Fin 6) : Bool × Bool × Bool × Bool :=
  (s.told (srcTrip k), s.told (srcLockout k), s.told (srcPumpFail k), s.told (srcBlind k))

/-- The conditions of coil `k` as its blocks find them. -/
def State.levelsOf (s : State) (k : Fin 6) : Bool × Bool × Bool × Bool :=
  (s.tripCondition k, s.lockoutCondition k, s.pumpFailCondition k, s.blindCondition k)

theorem levelsOf_alertsAlone {s t : State} (h : alertsAlone s t) (k : Fin 6) : t.levelsOf k = s.levelsOf k := by
  obtain ⟨a, rfl⟩ := h
  rfl

theorem told_of_source {s t : State} {y : Fin 65} (h : t.alerts.sources.at y = s.alerts.sources.at y) : t.told y = s.told y := by
  unfold State.told
  rw [h]

theorem handCoilLevels_told (s : State) (k : Fin 6) : (s.handCoilLevels k).toldLevels k = s.levelsOf k ∧
    ∀ j, j ≠ k → (s.handCoilLevels k).toldLevels j = s.toldLevels j := by
  obtain ⟨trip, lockout, pump⟩ := toldCoil_handCoil s k
  have alone : alertsAlone s (s.handCoil k) :=
    alertsAlone_trans (alertsAlone_trans (alertsAlone_handLevel s _ _) (alertsAlone_handLevel _ _ _)) (alertsAlone_handLevel _ _ _)
  have same := levelsOf_alertsAlone alone k
  have blind (y : Fin 65) (other : y ≠ srcBlind k) : (s.handCoilLevels k).told y = (s.handCoil k).told y :=
    told_of_source (handLevel_source _ other _)
  constructor
  · rw [← same]
    unfold State.toldLevels State.levelsOf
    rw [blind _ (by simp [srcTrip, srcBlind]), blind _ (by simp [srcLockout, srcBlind]), blind _ (by simp [srcPumpFail, srcBlind]),
      trip, lockout, pump]
    exact congrArg (fun b => ((s.handCoil k).tripCondition k, (s.handCoil k).lockoutCondition k, (s.handCoil k).pumpFailCondition k, b))
      (told_handLevel_self _ _ _)
  · intro j other
    have still (y : Fin 65) (apart : ¬ coilLevels k y) := told_of_source (handCoilLevels_source s k apart)
    unfold State.toldLevels
    rw [still _ (by simp [coilLevels, srcTrip, srcLockout, srcPumpFail, srcBlind, other]),
      still _ (by simp [coilLevels, srcTrip, srcLockout, srcPumpFail, srcBlind, other]),
      still _ (by simp [coilLevels, srcTrip, srcLockout, srcPumpFail, srcBlind, other]),
      still _ (by simp [coilLevels, srcTrip, srcLockout, srcPumpFail, srcBlind, other])]

theorem foldCoilLevels_told (s : State) (k : Fin 6) : (allCoils.foldl State.handCoilLevels s).toldLevels k = s.levelsOf k :=
  (foldl_own State.toldLevels State.handCoilLevels (alertsAlone s) (fun k _ => s.levelsOf k)
    (fun t k h => alertsAlone_trans h (alertsAlone_handCoilLevels t k)) (fun t k j _ other => (handCoilLevels_told t k).2 j other)
    (fun t k h => (handCoilLevels_told t k).1.trans (levelsOf_alertsAlone h k)) allCoils s allCoils_nodup ⟨s.alerts, rfl⟩).1 k
    (mem_allCoils k)

section
variable (s : State)

theorem alertsAlone_firstLevels : alertsAlone s (s.handLevel srcImageInvalid s.imageInvalidCondition).handModeTest :=
  alertsAlone_trans (alertsAlone_handLevel s _ _) (alertsAlone_handLevel _ _ _)

theorem alertsAlone_coilsTold : alertsAlone s (allCoils.foldl State.handCoilLevels
    (s.handLevel srcImageInvalid s.imageInvalidCondition).handModeTest) :=
  alertsAlone_trans (alertsAlone_firstLevels s) (alertsAlone_foldl _ alertsAlone_handCoilLevels _ _)

/-- The conditions of every coil are told (R153). -/
theorem handStartLevels_coil (k : Fin 6) : s.handStartLevels.toldLevels k = s.levelsOf k := by
  have still (y : Fin 65) (analog : y ≠ srcAnalogFault) (stale : ∀ u, y ≠ srcDemandStale u) : s.handStartLevels.told y =
      (allCoils.foldl State.handCoilLevels (s.handLevel srcImageInvalid s.imageInvalidCondition).handModeTest).told y :=
    told_of_source ((handLevel_source _ analog _).trans (handDemandsStale_source _ stale))
  have told := foldCoilLevels_told (s.handLevel srcImageInvalid s.imageInvalidCondition).handModeTest k
  rw [levelsOf_alertsAlone (alertsAlone_firstLevels s)] at told
  rw [← told]
  unfold State.toldLevels
  rw [still (srcTrip k) (coilSource_ne_device k _ (by decide)) (fun u => coilSource_ne_unitSource k _ u _),
    still (srcLockout k) (coilSource_ne_device k _ (by decide)) (fun u => coilSource_ne_unitSource k _ u _),
    still (srcPumpFail k) (coilSource_ne_device k _ (by decide)) (fun u => coilSource_ne_unitSource k _ u _),
    still (srcBlind k) (coilSource_ne_device k _ (by decide)) (fun u => coilSource_ne_unitSource k _ u _)]

theorem coilLevels_ne {y : Fin 65} (outside : ∀ k a, y ≠ coilSource k a) (k : Fin 6) : ¬ coilLevels k y := by
  unfold coilLevels
  rw [not_or, not_or, not_or]
  exact ⟨outside k _, outside k _, outside k _, outside k _⟩

/-- DEMAND_STALE, ANALOG_FAULT, IMAGE_INVALID and MODE_TEST are told (R153). -/
theorem handStartLevels_device : (∀ u, s.handStartLevels.told (srcDemandStale u) = s.demandStaleCondition u) ∧
    s.handStartLevels.told srcAnalogFault = s.analogFaultCondition ∧ s.handStartLevels.told srcImageInvalid = s.imageInvalidCondition ∧
    s.handStartLevels.told srcModeTest = s.modeTestCondition := by
  have device {y : Fin 65} (hy : 60 ≤ y.val) (k : Fin 6) : ¬ coilLevels k y :=
    coilLevels_ne (fun k a => (coilSource_ne_device k a hy).symm) k
  have stale {y : Fin 65} (hy : 60 ≤ y.val) (u : Fin 3) : y ≠ srcDemandStale u := (unitSource_ne_device u _ hy).symm
  have still (y : Fin 65) (analog : y ≠ srcAnalogFault) (hy : 60 ≤ y.val) : s.handStartLevels.told y =
      (s.handLevel srcImageInvalid s.imageInvalidCondition).handModeTest.told y :=
    told_of_source ((handLevel_source _ analog _).trans ((handDemandsStale_source _ (stale hy)).trans
      (foldCoilLevels_source _ _ (device hy))))
  obtain ⟨a, coils⟩ := alertsAlone_coilsTold s
  refine ⟨fun u => ?_, ?_, ?_, ?_⟩
  · refine (told_of_source (handLevel_source _ (unitSource_ne_device u _ (by decide)) _)).trans ((told_handDemandsStale _ u).trans ?_)
    rw [coils]
    rfl
  · refine (told_handLevel_self _ _ _).trans ?_
    obtain ⟨b, whole⟩ := alertsAlone_handDemandsStale (s.setAlerts a)
    rw [coils, whole]
    rfl
  · rw [still _ (by decide) (by decide)]
    exact (told_of_source (handLevel_source _ (by decide) _)).trans (told_handLevel_self _ _ _)
  · rw [still _ (by decide) (by decide)]
    exact told_handLevel_self _ _ _

/-- The sources of a unit other than DEMAND_STALE stand. -/
theorem handStartLevels_unit (u : Fin 3) {a : Fin 4} (other : a ≠ 3) :
    s.handStartLevels.alerts.sources.at (unitSource u a) = s.alerts.sources.at (unitSource u a) := by
  have device {x : Fin 65} (hx : 60 ≤ x.val) := unitSource_ne_device u a hx
  refine (handLevel_source _ (device (by decide)) _).trans ((handDemandsStale_source _ fun v => ?_).trans ((foldCoilLevels_source _ _
    (coilLevels_ne fun k b => (coilSource_ne_unitSource k b u a).symm)).trans ((handLevel_source _ (device (by decide)) _).trans
    (handLevel_source _ (device (by decide)) _))))
  simp [srcDemandStale, other]

end

/-! ## The unit sources (R115, R116, R120) -/

/-- Driving the outputs, proving and the first pass leave a unit's sources. -/
theorem startDriven_unit (s : State) (u : Fin 3) (a : Fin 4) :
    s.startDriven.alerts.sources.at (unitSource u a) = s.alerts.sources.at (unitSource u a) := by
  have proves := proves_foldl State.proveFresh proves_proveFresh allCoils (s.setOutputs s.effective)
  refine ((beginPass_fields _).2.2.2 _ (unitSource_ne_device u a (by decide))).trans (proves.membership _ fun k => ?_)
  exact (coilSource_ne_unitSource k _ u a).symm

theorem noteSelection_sources (s : State) : s.noteSelection.alerts.sources = s.alerts.sources := rfl

theorem lockoutChange_alerts (s : State) : s.lockoutChange.alerts = s.alerts := by
  rw [lockoutChange_eq, State.setStore_alerts]

theorem startHanded_unit (s : State) (u : Fin 3) {a : Fin 4} (other : a ≠ 3) :
    s.startHanded.alerts.sources.at (unitSource u a) = s.alerts.sources.at (unitSource u a) := by
  rw [State.startHanded, noteSelection_sources, handStartLevels_unit _ u other]
  split
  · rw [lockoutChange_alerts]
  · rfl

theorem startUnit_source (s : State) (u : Fin 3) {y : Fin 65} (secured : y ≠ srcSecured u) (fault : y ≠ srcSecureFault u)
    (unit : ∀ k a, y ≠ coilSource k a) : (s.startUnit u).alerts.sources.at y = s.alerts.sources.at y := by
  have placed (q : State) : (q.placeUnit u).alerts.sources.at y = q.alerts.sources.at y := by
    unfold State.placeUnit
    dsimp only
    split
    · exact (moves_enterClosing 0 u _).source ⟨unit _ _, unit _ _, secured⟩ ⟨unit _ _, unit _ _, fun j => unit _ _, fault⟩
    · split <;> rfl
  have fresh : ((s.setUnit u UnitRec.start).handSecureFault u).alerts.sources.at y = s.alerts.sources.at y := handLevel_source _ fault _
  by_cases fallback : s.mode = .fallback
  · rw [startUnit_fallback fallback, fresh]
  · rw [startUnit_eq fallback, placed, fresh]

/-- A unit placed by a start is told not to be in SECURE_FAULT. -/
theorem startUnit_told (s : State) (u : Fin 3) : (s.startUnit u).told (srcSecureFault u) = false := by
  have fresh : ((s.setUnit u UnitRec.start).handSecureFault u).told (srcSecureFault u) = false := by
    refine (told_handLevel_self _ _ _).trans ?_
    unfold State.secureFaultCondition
    rw [State.setUnit_units, Tab.at_put_self]
    rfl
  by_cases fallback : s.mode = .fallback
  · rw [startUnit_fallback fallback, fresh]
  · rw [startUnit_eq fallback]
    generalize (s.setUnit u UnitRec.start).handSecureFault u = q at fresh
    unfold State.placeUnit
    dsimp only
    split
    · unfold State.enterClosing
      dsimp only
      split
      · exact (enterSecured_alerts _ u).1
      · refine (told_handLevel_self _ _ _).trans ?_
        unfold State.secureFaultCondition
        rw [State.setUnit_units, Tab.at_put_self]
        rfl
    · split <;> exact fresh

/-- A unit that a start places in SECURED raises its source (R115). -/
theorem startUnit_raises {s : State} {u : Fin 3} (protects : s.mode ≠ .fallback) (trip : s.tripOf u = true)
    (damper : s.damperProof u = true) (fan : s.fanProof u = true) (none : (s.alerts.sources.at (srcSecured u)).membership = .none) :
    ((s.startUnit u).alerts.sources.at (srcSecured u)).membership = .pending := by
  rw [startUnit_eq protects]
  have fresh : ((s.setUnit u UnitRec.start).handSecureFault u).alerts.sources.at (srcSecured u) = s.alerts.sources.at (srcSecured u) :=
    handLevel_source _ (by simp [srcSecured, srcSecureFault]) _
  have tripQ : ((s.setUnit u UnitRec.start).handSecureFault u).tripOf u = true := trip
  have damperQ : ((s.setUnit u UnitRec.start).handSecureFault u).damperProof u = true := damper
  have fanQ : ((s.setUnit u UnitRec.start).handSecureFault u).fanProof u = true := fan
  generalize (s.setUnit u UnitRec.start).handSecureFault u = q at fresh tripQ damperQ fanQ
  have conditions : ((q.setConditions u).units.at u).trip = true := (congrArg UnitRec.trip (Tab.at_put_self _ _ _)).trans tripQ
  unfold State.placeUnit
  dsimp only
  rw [if_pos conditions]
  unfold State.enterClosing
  dsimp only
  rw [if_pos]
  · refine (enterSecured_alerts _ u).2 ?_
    refine (congrArg SourceRec.membership (handLevel_source _ (by simp [srcSecured, srcSecureFault]) _)).trans ?_
    exact (congrArg SourceRec.membership fresh).trans none
  · rw [Bool.and_eq_true]
    exact ⟨damperQ, fanQ⟩

end Sys2Proof.Machine
end

section
/-! PROOF. The records and conditions at a start's completion (O37). -/

namespace Sys2Proof.Machine

open Sys2Proof

/-! ## The blocks that a start gives their start values -/

/-- The masters, the point health, the demands, the inputs and the link at their start values (R37, R49, R124, R136, R167). -/
def State.blocksStarted (t : State) : Prop :=
  (∀ g, t.masters.at g = { Master.start with frameTimer := some (t.tables.intervals.at g), intervalAtOpen := t.tables.intervals.at g }) ∧
  (∀ p, t.health.at p = Health.start) ∧ (∀ k, t.faces.at k = Face.start) ∧
  (∀ o, t.demands.at o = Demand.start) ∧ (∀ i, t.inputs.at i = { debounced := t.inputLevel i, timer := none })

theorem startBase_blocks (s : State) (cold : Bool) (strap : Strap) : (s.startBase cold strap).blocksStarted :=
  ⟨fun _ => Tab.at_build _ _, fun _ => Tab.at_build _ _, fun _ => Tab.at_build _ _, fun _ => Tab.at_build _ _, fun _ => Tab.at_build _ _⟩

theorem blocksStarted_of_startFrame {s t : State} (h : startFrame s t) (started : s.blocksStarted) : t.blocksStarted := by
  rw [show t = _ from h]
  exact started

/-- The sampler's records as a start begins the first pass (R23, R29, R31). -/
def State.samplerStarted (t : State) : Prop :=
  t.sampler = { passList := t.tables.scan, position := 1 } ∧ (∀ k, t.detectors.at k = .ready) ∧
  ∀ c, t.channels.at c = ChannelRec.start (if c ∈ t.tables.scan then .never else .notScanned)

theorem samplerStarted_beginPass {s : State} (none : s.sampler.passList = []) (ready : ∀ k, s.detectors.at k = .ready)
    (channels : ∀ c, s.channels.at c = ChannelRec.start (if c ∈ s.tables.scan then .never else .notScanned)) :
    s.beginPass.samplerStarted := by
  obtain ⟨sampler, detectors, records, -⟩ := beginPass_fields s
  have tables : s.beginPass.tables = s.tables := by rw [show s.beginPass = _ from samplerFrame_beginPass s]
  unfold State.samplerStarted
  rw [tables]
  refine ⟨sampler, fun k => ?_, fun c => ?_⟩
  · rw [detectors]
    exact ready k
  · rw [records c, if_neg fun h => absurd h.1 (by rw [none]; exact List.not_mem_nil)]
    exact channels c

theorem startBase_sampler (s : State) (cold : Bool) (strap : Strap) : (s.startBase cold strap).sampler.passList = [] ∧
    (∀ k, (s.startBase cold strap).detectors.at k = .ready) ∧ ∀ c, (s.startBase cold strap).channels.at c =
      ChannelRec.start (if c ∈ (s.startBase cold strap).tables.scan then .never else .notScanned) := by
  refine ⟨rfl, fun _ => Tab.at_build _ _, fun c => (Tab.at_build _ _).trans ?_⟩
  exact congrArg ChannelRec.start (if_congr List.contains_iff_mem rfl rfl)

theorem seqFrame_sampler {s t : State} (h : seqFrame s t) :
    t.sampler = s.sampler ∧ t.detectors = s.detectors ∧ t.channels = s.channels ∧ t.tables = s.tables := by
  rw [show t = _ from h]
  exact ⟨rfl, rfl, rfl, rfl⟩

theorem samplerStarted_startDriven {b s : State} (h : seqFrame b s) (none : b.sampler.passList = [])
    (ready : ∀ k, b.detectors.at k = .ready)
    (channels : ∀ c, b.channels.at c = ChannelRec.start (if c ∈ b.tables.scan then .never else .notScanned)) :
    s.startDriven.samplerStarted := by
  obtain ⟨sampler, detectors, records, tables⟩ :=
    seqFrame_sampler (seqFrame_trans h (seqFrame_trans (seqFrame_setOutputs s s.effective) (seqFrame_proveFresh_fold _)))
  refine samplerStarted_beginPass (by rw [sampler, none]) (fun k => ?_) fun c => ?_
  · rw [detectors, ready]
  · rw [records, tables, channels]

theorem samplerStarted_startHanded {s : State} (started : s.samplerStarted) : s.startHanded.samplerStarted := by
  obtain ⟨-, -, -, -, -, channels, sampler, detectors⟩ := startHanded_blocks s
  obtain ⟨-, -, tables, -⟩ := startFrame_fields (startFrame_startHanded s)
  unfold State.samplerStarted at started ⊢
  rw [channels, sampler, detectors, tables]
  exact started

theorem completeStart_sampler (s : State) (cold : Bool) (strap : Strap) : (s.completeStart cold strap).samplerStarted := by
  obtain ⟨none, ready, channels⟩ := startBase_sampler s cold strap
  rw [completeStart_eq]
  exact samplerStarted_startHanded (samplerStarted_startDriven (seqFrame_startPlaced s cold strap) none ready channels)

/-! ## The coils (R85, R105) -/

/-- Coil `k`'s record and exposure record as a start that finds `r` places them, pump proving apart. -/
def State.startView (t : State) (k : Fin 6) (r : CoilSeq) : CoilSeq × Exposure :=
  if t.mode ≠ .fallback ∧ (t.cfg k).present = true then placedCoil (t.cfg k) r else (r, Exposure.start)

theorem completeStart_view (s : State) (cold : Bool) (strap : Strap) (k : Fin 6) :
    (s.completeStart cold strap).coilView k =
      ((s.completeStart cold strap).provenSeq k ((s.completeStart cold strap).startView k (s.startSeq cold k)).1,
        ((s.completeStart cold strap).startView k (s.startSeq cold k)).2) := by
  obtain ⟨-, -, tables, -, mode, -⟩ := startFrame_fields (startFrame_completeStart s cold strap)
  have inputs : (s.completeStart cold strap).inputs = (s.startBase cold strap).inputs := by
    rw [show s.completeStart cold strap = _ from startFrame_completeStart s cold strap]
  have placed := seqFrame_startPlaced s cold strap
  have view : (s.startBase cold strap).startCoils.coilView k = (s.completeStart cold strap).startView k (s.startSeq cold k) := by
    rw [startCoils_views, State.startView, mode, State.cfg, State.cfg, tables, startBase_coil]
    exact if_congr Iff.rfl rfl (Prod.ext (startBase_coil s cold strap k) (Tab.at_build _ _))
  have proven (r : CoilSeq) : (s.startOutputs cold strap).provenSeq k r = (s.completeStart cold strap).provenSeq k r := by
    have cfg : (s.startOutputs cold strap).cfg k = (s.completeStart cold strap).cfg k :=
      (cfg_of_frame placed k).trans (congrArg (fun T => T.coils.at k) tables.symm)
    have flow : (s.startOutputs cold strap).flow k = (s.completeStart cold strap).flow k :=
      congrArg (fun i => (i.at (flowInput k)).debounced) ((seqFrame_inputs placed).trans inputs.symm)
    have outputs : (s.startOutputs cold strap).outputs = (s.completeStart cold strap).outputs :=
      (completeStart_outputs s cold strap).symm
    unfold State.provenSeq State.freshProve
    rw [cfg, flow, outputs]
  refine Prod.ext ?_ ?_
  · rw [coilView_coil, completeStart_coils, ← coilView_coil, view, proven]
  · rw [coilView_exposure, completeStart_exposures, ← coilView_exposure, view]

/-- A coil's records as a start leaves them by the mode, its presence and its lockout flag. -/
def State.coilStarted (t : State) (k : Fin 6) : Prop :=
  (t.coils.at k).forced = false ∧ (t.coils.at k).holdDown = none ∧ (t.exposures.at k).e = 0 ∧ (t.exposures.at k).confirm = 0 ∧
  (t.mode = .fallback ∨ (t.cfg k).present = false →
    (t.coils.at k).stage = .idle ∧ (t.coils.at k).settle = 0 ∧ (t.exposures.at k).band = .clear) ∧
  (t.mode ≠ .fallback → (t.cfg k).present = true → (t.coils.at k).lockout = true →
    (t.coils.at k).stage = .lockout ∧ (t.coils.at k).settle = 0 ∧ (t.exposures.at k).band = .trip) ∧
  (t.mode ≠ .fallback → (t.cfg k).present = true → (t.coils.at k).lockout = false →
    (t.coils.at k).stage = .settle ∧ (t.coils.at k).settle = (t.cfg k).settleFrames ∧ (t.exposures.at k).band = .clear) ∧
  ((t.cfg k).present = true → (t.coils.at k).prove =
    if t.outputs.pumps.at k then (if t.flow k then .proven else .proving) else .off) ∧
  ((t.cfg k).present = false → (t.coils.at k).prove = .off) ∧
  (t.coils.at k).proveTimer = (if (t.coils.at k).prove = .proving then some (t.cfg k).proveLimit else none)

theorem placedCoil_still (c : CoilCfg) (r : CoilSeq) : (placedCoil c r).1.forced = false ∧ (placedCoil c r).1.holdDown = none ∧
    (r.lockout = true → (placedCoil c r).1.settle = 0) := by
  unfold placedCoil
  refine ⟨?_, ?_, fun locked => ?_⟩
  · split <;> rfl
  · split <;> rfl
  · rw [if_pos locked]
    rfl

theorem freshProve_cases (t : State) (k : Fin 6) :
    ((t.cfg k).present = true → t.freshProve k = if t.outputs.pumps.at k then (if t.flow k then .proven else .proving) else .off) ∧
    ((t.cfg k).present = false → t.freshProve k = .off) := by
  unfold State.freshProve
  refine ⟨fun present => ?_, fun absent => if_neg fun h => ?_⟩
  · rw [present]
    exact if_congr (by simp) rfl rfl
  · rw [absent] at h
    cases h.1

theorem coilStarted_of_view {t : State} {k : Fin 6} {r : CoilSeq} (forced : r.forced = false) (hold : r.holdDown = none)
    (idle : r.stage = .idle) (settle : r.settle = 0)
    (view : t.coilView k = (t.provenSeq k (t.startView k r).1, (t.startView k r).2)) : t.coilStarted k := by
  obtain ⟨proven, off⟩ := freshProve_cases t k
  have coil : t.coils.at k = t.provenSeq k (t.startView k r).1 := congrArg Prod.fst view
  have exposure : t.exposures.at k = (t.startView k r).2 := congrArg Prod.snd view
  unfold State.coilStarted
  rw [coil, exposure]
  by_cases placed : t.mode ≠ .fallback ∧ (t.cfg k).present = true
  · obtain ⟨protects, present⟩ := placed
    have taken : t.startView k r = placedCoil (t.cfg k) r := if_pos ⟨protects, present⟩
    obtain ⟨e, confirm, locked, unlocked⟩ := placedCoil_fields (t.cfg k) r
    obtain ⟨unforced, still, none⟩ := placedCoil_still (t.cfg k) r
    obtain ⟨lockout, -⟩ := placedCoil_kept (t.cfg k) r
    rw [taken]
    refine ⟨unforced, still, e, confirm, fun absent => ?_, fun _ _ flag => ?_, fun _ _ flag => ?_, proven, off, rfl⟩
    · rcases absent with fallback | absent
      · exact absurd fallback protects
      · rw [present] at absent
        cases absent
    · have flag := lockout.symm.trans flag
      exact ⟨(locked flag).1, none flag, (locked flag).2⟩
    · have flag := lockout.symm.trans flag
      obtain ⟨stage, band, count⟩ := unlocked flag
      exact ⟨stage, count, band⟩
  · have kept : t.startView k r = (r, Exposure.start) := if_neg placed
    rw [kept]
    exact ⟨forced, hold, rfl, rfl, fun _ => ⟨idle, settle, rfl⟩, fun protects present => absurd ⟨protects, present⟩ placed,
      fun protects present => absurd ⟨protects, present⟩ placed, proven, off, rfl⟩

/-! ## The units (R113, R120) -/

theorem seqFrame_conditions {s t : State} (h : seqFrame s t) (u : Fin 3) :
    t.damperProof u = s.damperProof u ∧ t.fanProof u = s.fanProof u ∧ t.tables = s.tables ∧ t.plantSeconds = s.plantSeconds := by
  rw [show t = _ from h]
  exact ⟨rfl, rfl, rfl, rfl⟩

theorem startFrame_conditions {s t : State} (h : startFrame s t) (u : Fin 3) :
    t.damperProof u = s.damperProof u ∧ t.fanProof u = s.fanProof u ∧ t.tables = s.tables ∧ t.plantSeconds = s.plantSeconds := by
  rw [show t = _ from h]
  exact ⟨rfl, rfl, rfl, rfl⟩

section
variable (s : State) (cold : Bool) (strap : Strap) (u : Fin 3)

theorem completeStart_conditions :
    (s.completeStart cold strap).tripOf u = (s.startBase cold strap).startCoils.tripOf u ∧
    (s.completeStart cold strap).temperOf u = (s.startBase cold strap).startCoils.temperOf u := by
  have coils := (seqFrame_conditions (seqFrame_startCoils (s.startBase cold strap)) u).2.2.1
  have tables : (s.completeStart cold strap).tables.coils = (s.startBase cold strap).startCoils.tables.coils := by
    rw [(startFrame_conditions (startFrame_completeStart s cold strap) u).2.2.1, coils]
  have stage (k : Fin 6) : ((s.completeStart cold strap).coils.at k).stage = ((s.startBase cold strap).startCoils.coils.at k).stage := by
    rw [completeStart_coils]
    rfl
  exact ⟨tripOf_of_trips tables (fun k => by rw [stage k]) u, temperOf_of_tempers tables (fun k => by rw [stage k]) u⟩

theorem completeStart_mode : (s.completeStart cold strap).mode = (s.startBase cold strap).startCoils.mode :=
  (startFrame_fields (startFrame_completeStart s cold strap)).2.2.2.2.1.trans (seqFrame_mode (seqFrame_startCoils _)).symm

/-- The units of a start that protects are placed by the conditions that stand at its end. -/
theorem completeStart_placed (protects : (s.completeStart cold strap).mode ≠ .fallback) :
    (s.completeStart cold strap).units.at u = (s.completeStart cold strap).placedRec u := by
  obtain ⟨trip, temper⟩ := completeStart_conditions s cold strap u
  obtain ⟨damper, fan, tables, seconds⟩ := startFrame_conditions (startFrame_completeStart s cold strap) u
  obtain ⟨damper', fan', tables', seconds'⟩ := seqFrame_conditions (seqFrame_startCoils (s.startBase cold strap)) u
  rw [completeStart_mode] at protects
  rw [completeStart_units, startPlaced_eq, startUnits_records protects, State.placedRec, State.placedRec, trip, temper, damper, fan,
    tables, seconds, damper', fan', tables', seconds']

/-- The units of a start into FALLBACK stay as a start leaves them. -/
theorem completeStart_idle (fallback : (s.completeStart cold strap).mode = .fallback) :
    (s.completeStart cold strap).units.at u = UnitRec.start := by
  rw [completeStart_mode] at fallback
  rw [completeStart_units, startPlaced_eq]
  refine (foldl_own (fun t u => t.units.at u) State.startUnit (fun t => t.mode = .fallback) (fun _ _ => UnitRec.start)
    (fun t v h => ?_) (fun t u v _ other => (unitFrame_startUnit u t).2 v other) (fun t v h => ?_) allUnits _ allUnits_nodup fallback).1 u
    (mem_allUnits u)
  · rw [(unitFrame_startUnit v t).1]
    exact h
  · rw [startUnit_fallback h]
    exact Tab.at_put_self t.units v UnitRec.start

theorem completeStart_unfaulted : (s.completeStart cold strap).secureFaultCondition u = false := by
  unfold State.secureFaultCondition
  by_cases fallback : (s.completeStart cold strap).mode = .fallback
  · rw [completeStart_idle s cold strap u fallback]
    rfl
  · rw [completeStart_placed s cold strap u fallback]
    obtain ⟨shut, opens⟩ := placedRec_stage (s.completeStart cold strap) u
    cases trip : (s.completeStart cold strap).tripOf u
    · rw [opens trip]
      split <;> rfl
    · rcases shut trip with stage | stage <;> rw [stage] <;> rfl

end

/-- A unit's record as a start leaves it by the mode, its conditions and its proofs; `raises` where it takes SECURED. -/
def State.unitStarted (t : State) (raises : Prop) (u : Fin 3) (r : UnitRec) : Prop :=
  (t.mode = .fallback → t.units.at u = { r with temper := false, trip := false }) ∧
  (t.mode ≠ .fallback → r.trip = false → t.units.at u = { r with stage := if r.temper then .temper else .run }) ∧
  (t.mode ≠ .fallback → r.trip = true → (t.damperProof u = false ∨ t.fanProof u = false) →
    t.units.at u = { r with stage := .closing, stroke := some (t.tables.units.at u).strokeLimit,
                            fan := some (t.tables.units.at u).fanStopLimit, closingSecond := some t.plantSeconds }) ∧
  (t.mode ≠ .fallback → r.trip = true → t.damperProof u = true → t.fanProof u = true →
    t.units.at u = { r with stage := .secured, closingSecond := some t.plantSeconds } ∧ raises)

theorem unitStarted_of_placed {t : State} {raises : Prop} {u : Fin 3} (idle : t.mode = .fallback → t.units.at u = UnitRec.start)
    (placed : t.mode ≠ .fallback → t.units.at u = t.placedRec u)
    (raised : t.mode ≠ .fallback → t.tripOf u = true → t.damperProof u = true → t.fanProof u = true → raises) :
    t.unitStarted raises u { stage := .idle, temper := t.temperOf u, trip := t.tripOf u, stroke := none, fan := none, holdOff := none,
                             missingDamper := false, missingFan := false, closingSecond := none } := by
  refine ⟨fun fallback => idle fallback, fun protects calm => ?_, fun protects trip missing => ?_, fun protects trip damper fan =>
    ⟨?_, raised protects trip damper fan⟩⟩
  · dsimp only at calm ⊢
    rw [placed protects, State.placedRec, calm, if_neg (by decide)]
    rfl
  · have open_ : (t.damperProof u && t.fanProof u) = false := by
      rcases missing with missing | missing <;> rw [missing]
      · rfl
      · exact Bool.and_false _
    dsimp only at trip ⊢
    rw [placed protects, State.placedRec, trip, if_pos rfl, open_, if_neg (by decide)]
    rfl
  · dsimp only at trip ⊢
    rw [placed protects, State.placedRec, trip, if_pos rfl, damper, fan, if_pos (by decide)]
    rfl

/-! ## The alert sources of the units -/

theorem startUnits_source (l : List (Fin 3)) (s : State) {y : Fin 65} (own : ∀ u, u ∈ l → y ≠ srcSecured u ∧ y ≠ srcSecureFault u)
    (coil : ∀ k a, y ≠ coilSource k a) : (l.foldl State.startUnit s).alerts.sources.at y = s.alerts.sources.at y := by
  induction l generalizing s with
  | nil => rfl
  | cons u l ih =>
    obtain ⟨secured, fault⟩ := own u List.mem_cons_self
    rw [List.foldl_cons, ih _ fun v hv => own v (List.mem_cons_of_mem _ hv), startUnit_source s u secured fault coil]

theorem unitSource_other {u v : Fin 3} (other : v ≠ u) (a b : Fin 4) : unitSource v a ≠ unitSource u b := by
  rw [ne_eq, unitSource_inj]
  exact fun h => other h.1

theorem startUnits_told (s : State) (u : Fin 3) : (allUnits.foldl State.startUnit s).told (srcSecureFault u) = false :=
  (foldl_own (fun t u => t.told (srcSecureFault u)) State.startUnit (fun _ => True) (fun _ _ => false) (fun _ _ h => h)
    (fun t u v _ other => told_of_source (startUnit_source t u (unitSource_other other _ _) (unitSource_other other _ _)
      fun k a => (coilSource_ne_unitSource k a v _).symm)) (fun t u _ => startUnit_told t u) allUnits s allUnits_nodup trivial).1 u
    (mem_allUnits u)

/-- The units that a start places in SECURED raise their sources, each by the conditions that stand before the first is placed. -/
theorem startUnits_raises {s : State} {u : Fin 3} (protects : s.mode ≠ .fallback) (trip : s.tripOf u = true)
    (damper : s.damperProof u = true) (fan : s.fanProof u = true) (l : List (Fin 3)) : ∀ t, l.Nodup → u ∈ l → unitsFrame s t →
    (t.alerts.sources.at (srcSecured u)).membership = .none →
    ((l.foldl State.startUnit t).alerts.sources.at (srcSecured u)).membership = .pending := by
  have coil (k : Fin 6) (a : Fin 8) : srcSecured u ≠ coilSource k a := (coilSource_ne_unitSource k a u _).symm
  induction l with
  | nil => exact fun _ _ hu => absurd hu List.not_mem_nil
  | cons v l ih =>
    intro t once hu h none
    obtain ⟨fresh, once⟩ := List.nodup_cons.mp once
    by_cases own : u = v
    · subst own
      have left : ∀ w, w ∈ l → srcSecured u ≠ srcSecured w ∧ srcSecured u ≠ srcSecureFault w := by
        intro w hw
        have other : u ≠ w := fun same => fresh (same ▸ hw)
        exact ⟨unitSource_other other _ _, unitSource_other other _ _⟩
      rw [List.foldl_cons, startUnits_source l _ left coil]
      exact startUnit_raises (by rw [show t = _ from h]; exact protects) (by rw [show t = _ from h]; exact trip)
        (by rw [show t = _ from h]; exact damper) (by rw [show t = _ from h]; exact fan) none
    · refine ih _ once ((List.mem_cons.mp hu).resolve_left own) (unitsFrame_startUnit h v) ?_
      rw [startUnit_source t v (y := srcSecured u) (unitSource_other own _ _) (unitSource_other own _ _) coil]
      exact none

section
variable (s : State) (cold : Bool) (strap : Strap) (u : Fin 3)

theorem completeStart_unitSource {a : Fin 4} (other : a ≠ 3) : (s.completeStart cold strap).alerts.sources.at (unitSource u a) =
    (allUnits.foldl State.startUnit (s.startBase cold strap).startCoils).alerts.sources.at (unitSource u a) := by
  rw [completeStart_eq, startHanded_unit _ u other, startDriven_unit]
  rfl

theorem completeStart_raises (protects : (s.completeStart cold strap).mode ≠ .fallback)
    (trip : (s.completeStart cold strap).tripOf u = true) (damper : (s.completeStart cold strap).damperProof u = true)
    (fan : (s.completeStart cold strap).fanProof u = true) (none : (s.alerts.sources.at (srcSecured u)).membership = .none) :
    ((s.completeStart cold strap).alerts.sources.at (srcSecured u)).membership = .pending := by
  obtain ⟨damper', fan', -⟩ := startFrame_conditions (startFrame_completeStart s cold strap) u
  obtain ⟨damper'', fan'', -⟩ := seqFrame_conditions (seqFrame_startCoils (s.startBase cold strap)) u
  have before : (s.startBase cold strap).startCoils.alerts = s.alerts := (startCoils_blocks _).2
  rw [srcSecured, completeStart_unitSource s cold strap u (by decide)]
  refine startUnits_raises (s := (s.startBase cold strap).startCoils) (by rw [← completeStart_mode]; exact protects) ?_ ?_ ?_ allUnits _
    allUnits_nodup (mem_allUnits u) rfl ?_
  · rw [← (completeStart_conditions s cold strap u).1, trip]
  · rw [damper'', ← damper', damper]
  · rw [fan'', ← fan', fan]
  · rw [before]
    exact none

/-- SECURE_FAULT is told false and BUS_FAULT stands as the start found it. -/
theorem completeStart_faults : (s.completeStart cold strap).told (srcSecureFault u) = false ∧
    (s.completeStart cold strap).told (srcBusFault u) = s.told (srcBusFault u) := by
  have before : (s.startBase cold strap).startCoils.alerts = s.alerts := (startCoils_blocks _).2
  have bus : ∀ v, v ∈ allUnits → srcBusFault u ≠ srcSecured v ∧ srcBusFault u ≠ srcSecureFault v := by
    intro v _
    have apart (a : Fin 4) (other : (2 : Fin 4) ≠ a) : unitSource u 2 ≠ unitSource v a := fun h => other ((unitSource_inj u v 2 a).mp h).2
    exact ⟨apart _ (by decide), apart _ (by decide)⟩
  refine ⟨(told_of_source (completeStart_unitSource s cold strap u (by decide))).trans (startUnits_told _ u), ?_⟩
  refine told_of_source ((completeStart_unitSource s cold strap u (by decide)).trans ?_)
  rw [startUnits_source allUnits _ (y := unitSource u 2) bus fun k a => (coilSource_ne_unitSource k a u _).symm, before]
  rfl

end

/-! ## The conditions handed over (R153) -/

/-- The conditions that a start's completion hands over are told as they stand. -/
def State.levelsTold (t : State) : Prop :=
  (∀ k, t.toldLevels k = t.levelsOf k) ∧ (∀ u, t.told (srcDemandStale u) = t.demandStaleCondition u) ∧
  t.told srcAnalogFault = t.analogFaultCondition ∧ t.told srcImageInvalid = t.imageInvalidCondition ∧
  t.told srcModeTest = t.modeTestCondition

theorem handStartLevels_told (s : State) : s.handStartLevels.levelsTold := by
  have coils := handStartLevels_coil s
  obtain ⟨stale, analog, image, test⟩ := handStartLevels_device s
  obtain ⟨a, alone⟩ := alertsAlone_handStartLevels s
  rw [alone] at coils stale analog image test ⊢
  exact ⟨coils, stale, analog, image, test⟩

theorem noteSelection_levelsTold {s : State} (told : s.levelsTold) : s.noteSelection.levelsTold := told

theorem startHanded_told (s : State) : s.startHanded.levelsTold := by
  unfold State.startHanded
  exact noteSelection_levelsTold (handStartLevels_told _)

/-- The end of the event leaves what the resolver has been told. -/
theorem Ends.levelsTold {q t : State} (h : Ends q t) (told : q.levelsTold) : t.levelsTold := by
  obtain ⟨coils, stale, analog, image, test⟩ := told
  have levels (k : Fin 6) : t.toldLevels k = q.toldLevels k := by
    unfold State.toldLevels
    rw [h.told, h.told, h.told, h.told]
  refine ⟨fun k => ?_, fun u => ?_, ?_, ?_, ?_⟩
  · rw [levels, coils]
    exact (h.only.reads (State.levelsOf · k) fun _ _ _ => rfl).symm
  · rw [h.told, stale]
    exact (h.only.reads (State.demandStaleCondition · u) fun _ _ _ => rfl).symm
  · rw [h.told, analog]
    exact (h.only.reads State.analogFaultCondition fun _ _ _ => rfl).symm
  · rw [h.told, image]
    exact (h.only.reads State.imageInvalidCondition fun _ _ _ => rfl).symm
  · rw [h.told, test]
    exact (h.only.reads State.modeTestCondition fun _ _ _ => rfl).symm

/-- Settles O37. -/
theorem startCompletionSetsEveryRecord : Obligations.StartCompletionSetsEveryRecord := by
  intro s cold strap starting
  refine ⟨_, exec_startComplete starting strap, ?_⟩
  have ends := ends_conclude (s.completeStart cold strap)
  have link : (s.completeStart cold strap).link = Link.start := (tame_completeStart s cold strap).link
  have hears : s.alerts.Hears (s.completeStart cold strap).alerts := (tame_completeStart s cold strap).hears
  have matched (start : s.alerts = Alerts.start) : (s.completeStart cold strap).conclude.alerts.matched :=
    matched_conclude (hears.matched (by rw [start]; exact start_matched)).1
  have blocks := blocksStarted_of_startFrame (startFrame_completeStart s cold strap) (startBase_blocks s cold strap)
  have sampler := completeStart_sampler s cold strap
  have coils (k : Fin 6) : (s.completeStart cold strap).coilStarted k :=
    coilStarted_of_view rfl rfl rfl rfl (completeStart_view s cold strap k)
  have units (u : Fin 3) := unitStarted_of_placed (raises := raised s (s.completeStart cold strap).conclude (srcSecured u))
    (completeStart_idle s cold strap u) (completeStart_placed s cold strap u)
    (fun protects trip damper fan => ends.raised (completeStart_raises s cold strap u protects trip damper fan))
  have faults := completeStart_faults s cold strap
  have unfaulted := completeStart_unfaulted s cold strap
  have told : (s.completeStart cold strap).levelsTold := by
    rw [completeStart_eq]
    exact startHanded_told _
  have driven := ends.driven (completeStart_driven s cold strap)
  have levels := ends.levelsTold told
  generalize (s.completeStart cold strap).conclude = t at ends matched units driven levels ⊢
  generalize s.completeStart cold strap = q at *
  have only := ends.only
  replace blocks : t.blocksStarted := (only.reads State.blocksStarted fun _ _ _ => rfl).mpr blocks
  replace sampler : t.samplerStarted := (only.reads State.samplerStarted fun _ _ _ => rfl).mpr sampler
  replace coils (k : Fin 6) : t.coilStarted k := (only.reads (State.coilStarted · k) fun _ _ _ => rfl).mpr (coils k)
  replace link : { t.link with txQueue := [] } = Link.start :=
    (only.reads (fun w => { w.link with txQueue := [] }) fun _ _ _ => rfl).trans (by rw [link]; rfl)
  obtain ⟨masters, health, faces, demands, inputs⟩ := blocks
  obtain ⟨passes, detectors, channels⟩ := sampler
  obtain ⟨coilsTold, stale, analog, image, test⟩ := levels
  refine ⟨fun k => ⟨faces k, detectors k, coils k⟩, fun u r hr => ?_, fun g => ?_, health, fun c => channels c, passes, demands, inputs, driven,
    congrArg Link.receiver link, congrArg Link.rxBuffer link, congrArg Link.errorCount link, congrArg Link.lastError link,
    congrArg Link.restartAccepted link, fun k => ?_, fun u => ⟨?_, stale u⟩, analog, image, test, fun start => ⟨fun u => ?_, matched start⟩⟩
  · have conditions : r = { stage := .idle, temper := q.temperOf u, trip := q.tripOf u, stroke := none, fan := none, holdOff := none,
                            missingDamper := false, missingFan := false, closingSecond := none } := by
      rw [hr, only.reads (State.temperOf · u) fun _ _ _ => rfl, only.reads (State.tripOf · u) fun _ _ _ => rfl]
    rw [conditions]
    exact (only.reads (fun w => w.unitStarted (raised s t (srcSecured u)) u _) fun _ _ _ => rfl).mpr (units u)
  · rw [masters g]
    exact ⟨rfl, rfl, rfl, rfl, rfl, rfl, rfl⟩
  · have four := coilsTold k
    exact ⟨congrArg (fun v => v.1) four, congrArg (fun v => v.2.1) four, congrArg (fun v => v.2.2.1) four, congrArg (fun v => v.2.2.2) four⟩
  · rw [ends.told, (faults u).1, only.reads (State.secureFaultCondition · u) fun _ _ _ => rfl, unfaulted u]
  · rw [ends.told, (faults u).2, State.told, start]
    exact congrArg SourceRec.condition (Tab.at_build _ _)

end Sys2Proof.Machine
end

section
/-! PROOF. An item that leaves the transmit queue (O15). -/

namespace Sys2Proof.Machine

open Sys2Proof

/-! ## The head item as it begins (R148, R159) -/

/-- The queue with the late fields of a notice at its head filled from `s`. -/
def State.begunQueue (s : State) (l : List TxItem) : List TxItem :=
  match l with
  | .notice y c none :: more => .notice y c (some (s.lateFields y)) :: more
  | l => l

theorem beginHead_eq (s : State) : s.beginHead = s.setLink { s.link with txQueue := s.begunQueue s.link.txQueue } := by
  unfold State.beginHead
  split
  · rename_i e
    rw [e]
    rfl
  · rename_i other
    unfold State.begunQueue
    split
    · rename_i e
      exact absurd e (other _ _ _)
    · rfl

section
variable (s : State)

theorem begunQueue_length (l : List TxItem) : (s.begunQueue l).length = l.length := by
  unfold State.begunQueue
  split <;> rfl

theorem begunQueue_append {l : List TxItem} (some : l ≠ []) (more : List TxItem) :
    s.begunQueue (l ++ more) = s.begunQueue l ++ more := by
  rcases l with _ | ⟨i, l⟩
  · exact absurd rfl some
  · rcases i with f | ⟨x, c, _ | late⟩ <;> rfl

theorem begunQueue_response {l : List TxItem} {f : Frame} (h : .response f ∈ l) : .response f ∈ s.begunQueue l := by
  rcases l with _ | ⟨i, l⟩
  · exact h
  · rcases i with g | ⟨x, c, _ | late⟩
    · exact h
    · rcases List.mem_cons.mp h with same | later
      · cases same
      · exact List.mem_cons_of_mem _ later
    · exact h

end

/-- The late fields read the conditions and the records alone. -/
theorem lateFields_selects {s t : State} (h : Selects s t) (x : Fin 65) : t.lateFields x = s.lateFields x := by
  have told : (t.alerts.sources.at x).condition = (s.alerts.sources.at x).condition := h.told x
  unfold State.lateFields
  rw [told, h.only.coils, h.only.exposures, h.only.units, h.only.reads State.plantSeconds fun _ _ _ => rfl]

theorem begunQueue_selects {s t : State} (h : Selects s t) (l : List TxItem) : t.begunQueue l = s.begunQueue l := by
  unfold State.begunQueue
  split
  · rw [lateFields_selects h]
  · rfl

theorem conclude_queue (s : State) : s.conclude.link.txQueue = s.begunQueue s.runSelection.link.txQueue := by
  have begun : s.conclude.link = s.runSelection.beginHead.link := rfl
  rw [begun, beginHead_eq]
  exact begunQueue_selects (selects_runSelection s) _

theorem conclude_rxBuffer (s : State) : s.conclude.link.rxBuffer = s.link.rxBuffer :=
  (ends_conclude s).only.reads (fun w => w.link.rxBuffer) fun _ _ _ => rfl

/-! ## Selections from a due selection event (R145 to R147) -/

theorem winner_noteSelection (s : State) : s.noteSelection.winner = s.winner := rfl

/-- A due selection with no winner is no selection. -/
theorem runSelection_noted {s : State} (calm : s.alerts.selectionDue = false) (none : s.winner = none) :
    s.noteSelection.runSelection = s := by
  have loop : selectLoop Config.txCapacity s.noteSelection = s.noteSelection := by
    change selectLoop (3 + 1) s.noteSelection = _
    rw [selectLoop, winner_noteSelection, none]
  have back : s.noteSelection.setAlerts { s.noteSelection.alerts with selectionDue := false } = s := by
    change s.setAlerts { s.alerts with selectionDue := false } = s
    rw [← calm]
    rfl
  unfold State.runSelection
  rw [if_pos (show s.noteSelection.alerts.selectionDue = true from rfl)]
  dsimp only
  rw [loop]
  exact back

/-- A due selection reports its winner, and further selections follow. -/
theorem selects_winner {s : State} {x : Fin 65} (due : s.alerts.selectionDue = true) (won : s.winner = some x) :
    Selects (s.report x) s.runSelection ∧
    s.runSelection.alerts.pointers = (selectLoop 3 (s.report x)).alerts.pointers := by
  have loop : selectLoop Config.txCapacity s = selectLoop 3 (s.report x) := by
    change selectLoop (3 + 1) s = _
    rw [selectLoop, won]
  unfold State.runSelection
  rw [if_pos due, loop]
  exact ⟨(selects_selectLoop 3 (s.report x)).trans ⟨rfl, fun _ => rfl, fun _ _ => rfl, fun _ => .inl, ⟨[], rfl⟩,
    ⟨[], (List.append_nil _).symm⟩⟩, rfl⟩

/-- A source in service holds the pointers of its class and of those above it in number. -/
theorem selectLoop_pointer (n : Nat) (c : Fin 8) : ∀ (s : State) (top : StackEntry) (below : List StackEntry),
    s.alerts.stack = top :: below → top.cls ≤ c → (selectLoop n s).alerts.pointers.at c = s.alerts.pointers.at c := by
  induction n with
  | zero => exact fun _ _ _ _ _ => rfl
  | succ n ih =>
    intro s top below stack lower
    unfold selectLoop
    split
    · rfl
    · rename_i y won
      have less : s.classOf y < top.cls := ((eligible_iff s y).mp (winner_eligible won).1).2.2 top below stack
      have pointers : (s.report y).alerts.pointers.at c = s.alerts.pointers.at c := by
        rw [show (s.report y).alerts = s.alerts.select y (s.classOf y) s.tables.autoAck from rfl, Alerts.select_pointers]
        exact Tab.at_put_of_ne _ _ (ne_of_gt (lt_of_lt_of_le less lower))
      have grown : (s.report y).alerts.stack = if classNumber (s.classOf y) < s.tables.autoAck then ⟨y, s.classOf y⟩ :: s.alerts.stack
          else s.alerts.stack := Alerts.select_stack _ _ _ _
      rw [← pointers]
      split at grown
      · exact ih _ _ _ grown (le_of_lt (lt_of_lt_of_le less lower))
      · exact ih _ _ _ (grown.trans stack) lower

/-! ## Dispatches (R160) -/

theorem drain_step {s : State} {f : Frame} {more : List Frame} (buffer : s.link.rxBuffer = f :: more) (can : s.canDispatch = true)
    (n : Nat) : drain (n + 1) s = drain n ((s.setBuffer more).respond f).runSelection := by
  rw [drain, buffer]
  exact if_pos can

/-- The link grew: frames left the front of the buffer and items joined the tail of the queue. -/
def Link.grew (a b : Link) : Prop := (∃ front, a.rxBuffer = front ++ b.rxBuffer) ∧ ∃ l, b.txQueue = a.txQueue ++ l

theorem grew_trans {a b c : Link} (h : a.grew b) (h' : b.grew c) : a.grew c := by
  obtain ⟨⟨front, left⟩, l, grown⟩ := h
  obtain ⟨⟨front', left'⟩, l', grown'⟩ := h'
  exact ⟨⟨front ++ front', by rw [left, left', List.append_assoc]⟩, l ++ l', by rw [grown', grown, List.append_assoc]⟩

theorem grew_runSelection (s : State) : s.link.grew s.runSelection.link := by
  obtain ⟨l, link, -⟩ := runSelection_link s
  rw [link]
  exact ⟨⟨[], rfl⟩, l, rfl⟩

/-- A frame dispatched leaves the buffer, and its response joins the queue (R161). -/
theorem respond_link (s : State) (f : Frame) (more : List Frame) : ((s.setBuffer more).respond f).link.rxBuffer = more ∧
    ∃ body, ((s.setBuffer more).respond f).link.txQueue = s.link.txQueue ++ [.response ⟨f.kind + 0x80, f.tag, body⟩] := by
  have owner := (handleRequest_acts (s.setBuffer more) f).keeps
  refine ⟨owner.rxBuffer, (handleRequest f (s.setBuffer more)).payload, ?_⟩
  change (handleRequest f (s.setBuffer more)).state.link.txQueue ++ _ = _
  rw [owner.txQueue]
  rfl

theorem grew_drain (n : Nat) (s : State) : s.link.grew (drain n s).link := by
  induction n generalizing s with
  | zero => exact ⟨⟨[], rfl⟩, [], (List.append_nil _).symm⟩
  | succ n ih =>
    unfold drain
    split
    · exact ⟨⟨[], rfl⟩, [], (List.append_nil _).symm⟩
    · rename_i f more buffer
      split
      · obtain ⟨left, body, grown⟩ := respond_link s f more
        have step : s.link.grew ((s.setBuffer more).respond f).link := ⟨⟨[f], by rw [buffer, left]; rfl⟩, _, grown⟩
        exact grew_trans (grew_trans step (grew_runSelection _)) (ih _)
      · exact ⟨⟨[], rfl⟩, [], (List.append_nil _).symm⟩

/-- A dispatch that succeeds queues the response to the first waiting frame. -/
theorem dispatch_first {s : State} {f : Frame} {more : List Frame} (buffer : s.link.rxBuffer = f :: more)
    (can : s.canDispatch = true) : (∃ front, more = front ++ s.dispatch.link.rxBuffer) ∧
      ∃ body, .response ⟨f.kind + 0x80, f.tag, body⟩ ∈ s.dispatch.link.txQueue := by
  obtain ⟨left, body, queued⟩ := respond_link s f more
  have step : s.dispatch = drain more.length ((s.setBuffer more).respond f).runSelection := by
    unfold State.dispatch
    rw [buffer]
    exact drain_step buffer can _
  obtain ⟨⟨front, taken⟩, l, grown⟩ := grew_trans (grew_runSelection ((s.setBuffer more).respond f)) (grew_drain more.length _)
  rw [step]
  refine ⟨⟨front, left.symm.trans taken⟩, body, ?_⟩
  rw [grown, queued]
  exact List.mem_append_left _ (List.mem_append_right _ List.mem_cons_self)

/-! ## The room that an item leaves (R159, R160) -/

theorem itemSent_eq {s : State} {i : TxItem} {rest : List TxItem} (queue : s.link.txQueue = i :: rest) :
    s.itemSent = (s.setLink { s.link with txQueue := rest }).roomFreed := by
  unfold State.itemSent
  rw [queue]

/-- Where no dispatch succeeds, room in the queue is a selection event alone. -/
theorem roomFreed_held {s : State} (held : s.link.rxBuffer = [] ∨ s.canDispatch = false) : s.roomFreed = s.noteSelection := by
  have closed : s.noteSelection.orderOpen = false := by
    unfold State.orderOpen
    rcases held with empty | held
    · rw [show s.noteSelection.link.rxBuffer = [] from empty, List.isEmpty_nil, Bool.not_true, Bool.and_false, Bool.false_and]
    · rw [show s.noteSelection.canDispatch = false from held, Bool.and_false]
  unfold State.roomFreed
  dsimp only
  rw [if_neg (by rw [closed]; decide)]
  rcases held with empty | held
  · unfold State.dispatch
    rw [show s.noteSelection.link.rxBuffer = [] from empty]
    rfl
  · exact drain_held (s := s.noteSelection) held _

theorem canDispatch_held {s : State} (held : s.link.restartAccepted = true ∨ 4 ≤ s.link.txQueue.length) : s.canDispatch = false := by
  rw [Bool.eq_false_iff, ne_eq, canDispatch_iff]
  rintro ⟨room, free⟩
  rcases held with restart | full
  · rw [restart] at free
    cases free
  · exact absurd room (Nat.not_lt.mpr full)

/-- Selections before the dispatch leave an entry for it. -/
theorem canDispatch_runSelection {s : State} (room : s.link.txQueue.length ≤ 3) (free : s.link.restartAccepted = false) :
    s.runSelection.canDispatch = true := by
  obtain ⟨l, link, few⟩ := runSelection_link s
  rw [canDispatch_iff, link]
  refine ⟨?_, free⟩
  simp only [List.length_append, Config.txCapacity]
  rcases few with rfl | few
  · simp only [List.length_nil]
    omega
  · omega

/-- Where a dispatch succeeds, room in the queue dispatches the first waiting frame, in either order (R160). -/
theorem roomFreed_first {s : State} {f : Frame} {more : List Frame} (buffer : s.link.rxBuffer = f :: more)
    (room : s.link.txQueue.length ≤ 3) (free : s.link.restartAccepted = false) :
    (∃ front, more = front ++ s.roomFreed.link.rxBuffer) ∧
      ∃ body, .response ⟨f.kind + 0x80, f.tag, body⟩ ∈ s.roomFreed.link.txQueue := by
  have can : s.canDispatch = true := (canDispatch_iff s).mpr ⟨Nat.lt_succ_of_le room, free⟩
  unfold State.roomFreed
  dsimp only
  split
  · split
    · exact dispatch_first (s := { s.noteSelection with freeUses := s.noteSelection.freeUses + 1 }) buffer can
    · obtain ⟨l, link, -⟩ := runSelection_link { s.noteSelection with freeUses := s.noteSelection.freeUses + 1 }
      refine dispatch_first ?_ (canDispatch_runSelection room free)
      rw [link]
      exact buffer
  · exact dispatch_first (s := s.noteSelection) buffer can

/-- Where the queue has one free entry, the first waiting frame takes it. -/
theorem roomFreed_last {s : State} {f : Frame} {more : List Frame} (buffer : s.link.rxBuffer = f :: more)
    (one : s.link.txQueue.length = 3) (free : s.link.restartAccepted = false) :
    s.roomFreed.runSelection = s.roomFreed ∧ s.roomFreed.link.rxBuffer = more ∧
      ∃ body, s.roomFreed.link.txQueue = s.link.txQueue ++ [.response ⟨f.kind + 0x80, f.tag, body⟩] := by
  have closed : s.noteSelection.orderOpen = false := by
    unfold State.orderOpen
    rw [decide_eq_false, Bool.false_and, Bool.false_and]
    change ¬ 2 ≤ Config.txCapacity - s.link.txQueue.length
    rw [one]
    decide
  have can : s.noteSelection.canDispatch = true := (canDispatch_iff s.noteSelection).mpr ⟨Nat.lt_succ_of_le (le_of_eq one), free⟩
  obtain ⟨left, body, queued⟩ := respond_link s.noteSelection f more
  obtain ⟨l, link, few⟩ := runSelection_link ((s.noteSelection.setBuffer more).respond f)
  have full : ((s.noteSelection.setBuffer more).respond f).link.txQueue.length = 4 := by
    rw [queued, List.length_append]
    exact congrArg (· + 1) one
  have none : l = [] := few.resolve_right (by rw [full]; omega)
  rw [none, List.append_nil] at link
  have held : ((s.noteSelection.setBuffer more).respond f).runSelection.canDispatch = false := by
    refine canDispatch_held (.inr ?_)
    rw [link]
    exact le_of_eq full.symm
  have freed : s.roomFreed = ((s.noteSelection.setBuffer more).respond f).runSelection := by
    unfold State.roomFreed
    dsimp only
    rw [if_neg (by rw [closed]; decide)]
    unfold State.dispatch
    rw [show s.noteSelection.link.rxBuffer = f :: more from buffer, List.length_cons, drain_step (s := s.noteSelection) buffer can]
    exact drain_held held _
  rw [freed]
  refine ⟨runSelection_idle (runSelection_done _), ?_, body, ?_⟩
  · rw [link]
    exact left
  · rw [link]
    exact queued

/-! ## The three cases -/

theorem exec_txItemSent {s : State} {i : TxItem} {rest : List TxItem} (running : s.power = .running)
    (queue : s.link.txQueue = i :: rest) :
    exec .txItemSent s = .next (s.setLink { s.link with txQueue := rest }).roomFreed.conclude := by
  rw [← itemSent_eq queue]
  exact whileRunning_running running fun s => s.itemSent.conclude

/-- The end of an event that selects nothing, on a state whose queue alone has moved since it settled. -/
theorem conclude_rested {s : State} (hs : s.settled) (rest : List TxItem)
    (none : (s.setLink { s.link with txQueue := rest }).winner = none) :
    (s.setLink { s.link with txQueue := rest }).noteSelection.conclude =
      s.setLink { s.link with txQueue := s.begunQueue rest } := by
  obtain ⟨calm, -, line⟩ := hs
  have alone : (s.setLink { s.link with txQueue := rest }).noteSelection.runSelection = s.setLink { s.link with txQueue := rest } :=
    runSelection_noted calm none
  unfold State.conclude
  rw [alone, beginHead_eq]
  exact driveAlertLine_true line

/-- What the selections after an item has left give their first winner (R146, R147). -/
theorem ended_winner {q t : State} {x : Fin 65} (won : q.winner = some x) (ht : t = q.noteSelection.conclude) :
    t.winner = none ∧ t.link.txQueue.length ≤ 3 ∧
    (q.link.txQueue = [] → ∃ more, t.link.txQueue = .notice x (q.classOf x) (some (q.lateFields x)) :: more) ∧
    (q.link.txQueue ≠ [] → ∃ more, t.link.txQueue = q.begunQueue q.link.txQueue ++ .notice x (q.classOf x) none :: more) ∧
    (classNumber (q.classOf x) < q.tables.autoAck →
      (t.alerts.sources.at x).membership = .inService ∧ (∃ new, t.alerts.stack = new ++ ⟨x, q.classOf x⟩ :: q.alerts.stack) ∧
      (t.alerts.pointers.at (q.classOf x)).val = if x.val = 64 then 0 else x.val + 1) ∧
    (q.tables.autoAck ≤ classNumber (q.classOf x) →
      (t.alerts.sources.at x).membership = (if isLevel x then .standing else .none) ∧
      ∃ new, t.alerts.stack = new ++ q.alerts.stack) := by
  obtain ⟨-, room⟩ := winner_eligible won
  have few : q.link.txQueue.length ≤ 2 := by
    simp only [State.txFree, Config.txCapacity] at room
    omega
  obtain ⟨later, pointers⟩ := selects_winner (s := q.noteSelection) rfl won
  have alerts : t.alerts = q.noteSelection.runSelection.alerts := by rw [ht]; exact beginHead_alerts _
  have queue : t.link.txQueue = q.begunQueue q.noteSelection.runSelection.link.txQueue := by rw [ht]; exact conclude_queue _
  obtain ⟨more, grown⟩ := later.queue
  have grown : q.noteSelection.runSelection.link.txQueue = q.link.txQueue ++ .notice x (q.classOf x) none :: more := by
    rw [grown]
    change (q.link.txQueue ++ [_]) ++ more = _
    rw [List.append_assoc]
    rfl
  have taken : ((q.noteSelection.report x).alerts.sources.at x).membership =
      if classNumber (q.classOf x) < q.tables.autoAck then .inService else if isLevel x then .standing else .none :=
    Alerts.select_membership q.noteSelection.alerts x _ _
  have stack : (q.noteSelection.report x).alerts.stack =
      if classNumber (q.classOf x) < q.tables.autoAck then ⟨x, q.classOf x⟩ :: q.alerts.stack else q.alerts.stack :=
    Alerts.select_stack q.noteSelection.alerts x _ _
  have away : ((q.noteSelection.report x).alerts.sources.at x).membership ≠ .pending := by
    rw [taken]
    split
    · decide
    · split <;> decide
  have source : t.alerts.sources.at x = (q.noteSelection.report x).alerts.sources.at x := by
    rw [alerts]
    exact later.others x away
  obtain ⟨new, above⟩ := later.stack
  refine ⟨?_, ?_, fun empty => ⟨more, ?_⟩, fun some => ⟨more, ?_⟩, fun below => ⟨?_, ⟨new, ?_⟩, ?_⟩, fun acknowledged => ⟨?_, new, ?_⟩⟩
  · rw [ht]
    exact (ends_conclude q.noteSelection).winner rfl
  · obtain ⟨l, link, bound⟩ := runSelection_link q.noteSelection
    rw [queue, begunQueue_length, link]
    change (q.link.txQueue ++ l).length ≤ 3
    rw [List.length_append]
    rcases bound with rfl | bound
    · exact Nat.le_succ_of_le few
    · exact bound
  · rw [queue, grown, empty]
    rfl
  · rw [queue, grown, begunQueue_append q some]
  · rw [source, taken, if_pos below]
  · rw [alerts, above, stack, if_pos below]
  · have held := selectLoop_pointer 3 (q.classOf x) (q.noteSelection.report x) ⟨x, q.classOf x⟩ q.alerts.stack
      (by rw [stack, if_pos below]) le_rfl
    have moved : (q.noteSelection.report x).alerts.pointers = q.alerts.pointers.put (q.classOf x) (Fin.ofNat 65 (x.val + 1)) :=
      Alerts.select_pointers q.noteSelection.alerts x _ _
    rw [alerts, pointers, held, moved, Tab.at_put_self, succ_pointer]
  · rw [source, taken, if_neg (Nat.not_lt.mpr acknowledged)]
  · rw [alerts, above, stack, if_neg (Nat.not_lt.mpr acknowledged)]

/-- Settles O15. -/
theorem itemSentFreesAnEntry : Obligations.ItemSentFreesAnEntry := by
  intro s i rest running hs queue q begun hq hbegun
  have sent := exec_txItemSent running queue
  rw [← hq] at sent
  have qrest : q.link.txQueue = rest := by rw [hq]; rfl
  have qbuffer : q.link.rxBuffer = s.link.rxBuffer := by rw [hq]; rfl
  have qrestart : q.link.restartAccepted = s.link.restartAccepted := by rw [hq]; rfl
  have head : begun = s.begunQueue rest := hbegun
  refine ⟨fun held none => ?_, fun x c held won hc => ?_, fun f more buffer free => ⟨fun room => ?_, fun one => ?_⟩⟩
  · have stays : q.link.rxBuffer = [] ∨ q.canDispatch = false := by
      rw [qbuffer]
      refine held.imp id fun held => canDispatch_held ?_
      rw [qrestart, qrest]
      exact held
    rw [sent, roomFreed_held stays, head, hq]
    rw [hq] at none
    exact congrArg Host.Outcome.next (conclude_rested hs rest none)
  · have stays : q.link.rxBuffer = [] ∨ q.canDispatch = false := by
      rw [qbuffer]
      exact held.imp id fun restart => canDispatch_held (.inl (by rw [qrestart]; exact restart))
    rw [roomFreed_held stays] at sent
    obtain ⟨ended, few, first, behind, served, acknowledged⟩ := ended_winner won rfl
    have ends := ends_conclude q.noteSelection
    have only : onlyAlerts s q.noteSelection.conclude := onlyAlerts_trans (by rw [hq]; rfl) ends.only
    have late (y : Fin 65) : q.lateFields y = s.lateFields y := by rw [hq]; rfl
    have cls : q.classOf x = c := by rw [hq, hc]; rfl
    have same : q.begunQueue rest = begun := by rw [head, hq]; rfl
    have stack : q.alerts = s.alerts := by rw [hq]; rfl
    have level : q.tables = s.tables := by rw [hq]; rfl
    rw [cls, late, qrest] at first
    rw [cls, qrest, same] at behind
    rw [cls, stack, level] at served acknowledged
    exact ⟨_, sent, only, ended, few, first, behind, fun y => (ends.told y).trans (by rw [hq]; rfl), served, acknowledged⟩
  · obtain ⟨⟨front, taken⟩, body, queued⟩ := roomFreed_first (s := q) (qbuffer.trans buffer) (by rw [qrest]; exact room)
      (qrestart.trans free)
    refine ⟨_, sent, ⟨front, by rw [conclude_rxBuffer]; exact taken⟩, body, ?_⟩
    obtain ⟨-, l, grown⟩ := grew_runSelection q.roomFreed
    rw [conclude_queue, grown]
    exact begunQueue_response _ (List.mem_append_left _ queued)
  · obtain ⟨idle, taken, body, queued⟩ := roomFreed_last (s := q) (qbuffer.trans buffer) (by rw [qrest]; exact one)
      (qrestart.trans free)
    have nonempty : rest ≠ [] := fun empty => by rw [empty] at one; cases one
    have final : q.roomFreed.conclude.link.txQueue = q.roomFreed.begunQueue rest ++ [.response ⟨f.kind + 0x80, f.tag, body⟩] := by
      rw [conclude_queue, idle, queued, qrest, begunQueue_append _ nonempty]
    refine ⟨_, sent, by rw [conclude_rxBuffer]; exact taken, ?_, body, ?_⟩
    · rw [final, List.length_append, begunQueue_length, one]
      rfl
    · rw [final, List.getLast?_concat]

end Sys2Proof.Machine
end

section
/-! PROOF. What an accepted SET-COIL leaves, part by part (O29, O30). -/

namespace Sys2Proof.Machine

open Sys2Proof

/-! ## What follows the coil's own records -/

/-- Coil `k`'s level conditions are told as `t` finds them, and its sequencer record but for pump proving, every exposure record
and the store are those of `s`. -/
structure CoilTold (k : Fin 6) (s t : State) : Prop where
  frame : seqFrame s t
  exposures : t.exposures = s.exposures
  store : t.store = s.store
  coils : ∀ j, (s.coils.at j).sameButProve (t.coils.at j)
  levels : t.toldCoil k
  blind : t.told (srcBlind k) = s.blindCondition k

theorem toldCoil_of_told {s t : State} {k : Fin 6} (h : s.toldCoil k) (cfg : t.cfg k = s.cfg k) (coil : t.coils.at k = s.coils.at k)
    (told : ∀ a, t.told (coilSource k a) = s.told (coilSource k a)) : t.toldCoil k := by
  obtain ⟨trip, lockout, pump⟩ := h
  refine ⟨(told _).trans (trip.trans ?_), (told _).trans (lockout.trans ?_), (told _).trans (pump.trans ?_)⟩
  · rw [State.tripCondition, State.tripCondition, cfg, coil]
  · rw [State.lockoutCondition, State.lockoutCondition, cfg, coil]
  · rw [State.pumpFailCondition, State.pumpFailCondition, cfg, coil]

theorem toldCoil_proves {s t : State} {k : Fin 6} (h : s.toldCoil k) (proves : Proves s t) : t.toldCoil k := by
  obtain ⟨trip, lockout, pump⟩ := h
  have stage := (sameButProve_stage (proveFrame_sameButProve proves.frame k)).1
  have cfg : t.cfg k = s.cfg k := by rw [show t = _ from proves.frame.1]; rfl
  refine ⟨(proves.told _ (by simp [srcTrip, srcPumpFail])).trans (trip.trans ?_),
    (proves.told _ (by simp [srcLockout, srcPumpFail])).trans (lockout.trans ?_), proves.pumpFail k pump⟩
  · rw [State.tripCondition, State.tripCondition, cfg, stage]
  · rw [State.lockoutCondition, State.lockoutCondition, cfg, stage]

theorem alertsAlone_handCoil (s : State) (k : Fin 6) : alertsAlone s (s.handCoil k) :=
  alertsAlone_trans (alertsAlone_trans (alertsAlone_handLevel s _ _) (alertsAlone_handLevel _ _ _)) (alertsAlone_handLevel _ _ _)

theorem coilTold_handBlind {s q : State} {k : Fin 6} (alone : alertsAlone s q) (levels : q.toldCoil k) :
    CoilTold k s (q.handBlind k) := by
  obtain ⟨trip, lockout, pump⟩ := levels
  obtain ⟨a, rfl⟩ := alone
  refine ⟨rfl, rfl, rfl, fun _ => rfl, ⟨?_, ?_, ?_⟩, told_handLevel_self _ _ _⟩
  · exact (told_handLevel_other _ (by simp [srcTrip, srcBlind]) _).trans trip
  · exact (told_handLevel_other _ (by simp [srcLockout, srcBlind]) _).trans lockout
  · exact (told_handLevel_other _ (by simp [srcPumpFail, srcBlind]) _).trans pump

theorem coilTold_handed (s : State) (k : Fin 6) : CoilTold k s ((s.handCoil k).handBlind k) :=
  coilTold_handBlind (alertsAlone_handCoil s k) (toldCoil_handCoil s k)

section
variable {k : Fin 6} {s t : State}

theorem CoilTold.unitEvent (h : CoilTold k s t) (u : Fin 3) : CoilTold k s (t.unitEvent u) := by
  have event := (unitFrame_unitEvent u t).1
  refine ⟨seqFrame_trans h.frame (seqFrame_unitEvent t u), ?_, ?_, fun j => ?_, toldCoil_unitEvent h.levels u, ?_⟩
  · rw [event]
    exact h.exposures
  · rw [event]
    exact h.store
  · rw [event]
    exact h.coils j
  · rw [told_unitEvent t (by simp [srcBlind, srcSecureFault])]
    exact h.blind

theorem CoilTold.unitsConcerned (h : CoilTold k s t) (old new : CoilCfg) : CoilTold k s (t.unitsConcerned old new) := by
  unfold State.unitsConcerned
  split
  · exact h
  · split
    · exact h.unitEvent _
    · exact (h.unitEvent _).unitEvent _

/-- Pump proving keeps what coil `k` has been told. -/
theorem CoilTold.proves (h : CoilTold k s t) {w : State} (frame : seqFrame t w) (proves : Proves t w) : CoilTold k s w where
  frame := seqFrame_trans h.frame frame
  exposures := (proveFrame_exposures proves.frame).trans h.exposures
  store := (proveFrame_store proves.frame).trans h.store
  coils j := sameButProve_trans (h.coils j) (proveFrame_sameButProve proves.frame j)
  levels := toldCoil_proves h.levels proves
  blind := (proves.told _ (by simp [srcBlind, srcPumpFail])).trans h.blind

theorem CoilTold.setOutputs (h : CoilTold k s t) (o : Outputs) : CoilTold k s (t.setOutputs o) :=
  ⟨seqFrame_trans h.frame (seqFrame_setOutputs t o), h.exposures, h.store, h.coils, h.levels, h.blind⟩

theorem CoilTold.recompute (h : CoilTold k s t) : CoilTold k s t.recompute :=
  (h.setOutputs t.effective).proves (seqFrame_trans (seqFrame_setOutputs t _) (seqFrame_recompute t)) (proves_recompute t)

end

/-! ## The units concerned (R110, R122) -/

/-- Pump proving alone moves no unit. -/
theorem unitMoved_proves {s t w : State} {u : Fin 3} (h : unitMoved s t u) (frame : seqFrame t w) (units : w.units = t.units)
    (coils : ∀ j, (t.coils.at j).sameButProve (w.coils.at j)) : unitMoved s w u := by
  have cfgs : w.tables.coils = t.tables.coils := congrArg Tables.coils (seqFrame_tables frame)
  have stage (j : Fin 6) : (w.coils.at j).stage = (t.coils.at j).stage := (sameButProve_stage (coils j)).1
  obtain ⟨damper, fan, -, -⟩ := seqFrame_conditions frame u
  exact unitMoved_congr h rfl rfl rfl (by rw [units]) (temperOf_of_tempers cfgs (fun j => by rw [stage j]) u)
    (tripOf_of_trips cfgs (fun j => by rw [stage j]) u) damper fan

/-- A unit's event leaves what another unit's event reads. -/
theorem unitMoved_beside {s t : State} {u v : Fin 3} (h : unitMoved s t u) (other : u ≠ v) : unitMoved s (t.unitEvent v) u := by
  obtain ⟨event, others⟩ := unitFrame_unitEvent v t
  exact unitMoved_congr h rfl rfl rfl (others u other) (by rw [event]; rfl) (by rw [event]; rfl) (by rw [event]; rfl) (by rw [event]; rfl)

theorem unitMoved_behind {s t : State} {u v : Fin 3} (h : unitMoved (s.unitEvent v) t u) (other : u ≠ v) : unitMoved s t u := by
  obtain ⟨event, others⟩ := unitFrame_unitEvent v s
  exact unitMoved_congr h (others u other).symm (by rw [event]) (by rw [event]) rfl rfl rfl rfl rfl

/-- The old and the new unit of a SET-COIL that changes presence or unit handle an event each, and the others stand. -/
theorem unitsConcerned_moved {s : State} {old new : CoilCfg} (protects : s.mode ≠ .fallback)
    (changed : ¬ (old.present = new.present ∧ old.unit = new.unit)) :
    unitMoved s (s.unitsConcerned old new) old.unit ∧ unitMoved s (s.unitsConcerned old new) new.unit ∧
    ∀ v, v ≠ old.unit → v ≠ new.unit → (s.unitsConcerned old new).units.at v = s.units.at v := by
  rw [State.unitsConcerned, if_neg changed]
  by_cases same : old.unit = new.unit
  · obtain ⟨moved, others⟩ := unitEvent_onlyUnitMoved s new.unit
    rw [if_pos same, same]
    exact ⟨moved protects, moved protects, fun v _ => others v⟩
  · obtain ⟨moved, others⟩ := unitEvent_onlyUnitMoved s old.unit
    obtain ⟨moved', others'⟩ := unitEvent_onlyUnitMoved (s.unitEvent old.unit) new.unit
    have mode : (s.unitEvent old.unit).mode ≠ .fallback := by
      rw [(unitFrame_unitEvent old.unit s).1]
      exact protects
    rw [if_neg same]
    exact ⟨unitMoved_beside (moved protects) same, unitMoved_behind (moved' mode) (Ne.symm same),
      fun v hold hnew => (others' v hnew).trans (others v hold)⟩

/-! ## The outputs and pump proving (R97, R130) -/

/-- Pump proving leaves an absent coil. -/
theorem recompute_absent {s : State} {k : Fin 6} (absent : (s.cfg k).present = false) : s.recompute.coils.at k = s.coils.at k := by
  have step (b : Outputs) (t : State) (ht : (t.cfg k).present = false) (j : Fin 6) :
      (handPump b t j).coils.at k = t.coils.at k := by
    unfold handPump
    split
    · rfl
    · by_cases same : j = k
      · have still (on : Bool) : t.pumpTurned k on = t := if_neg (by rw [ht]; decide)
        rw [same, still]
      · exact pumpTurned_other t (Ne.symm same) _
  have fold (b : Outputs) (l : List (Fin 6)) : ∀ t : State, (t.cfg k).present = false →
      (l.foldl (handPump b) t).coils.at k = t.coils.at k := by
    induction l with
    | nil => exact fun _ _ => rfl
    | cons j l ih =>
      intro t ht
      refine (ih _ ?_).trans (step b t ht j)
      rw [cfg_of_frame (seqFrame_handPump b t j)]
      exact ht
  exact fold s.outputs allCoils (s.setOutputs s.effective) absent

/-! ## The level conditions handed over last (R26, R129) -/

/-- DEMAND_STALE of every unit and ANALOG_FAULT are told as `t` finds them. -/
def State.inputsTold (t : State) : Prop :=
  (∀ u, t.told (srcDemandStale u) = t.demandStaleCondition u) ∧ t.told srcAnalogFault = t.analogFaultCondition

theorem handInputs_told (s : State) : s.handDemandsStale.handAnalogFault.inputsTold := by
  have stale (u : Fin 3) : s.handDemandsStale.handAnalogFault.told (srcDemandStale u) = s.demandStaleCondition u :=
    (told_handLevel_other _ (unitSource_ne_device u _ (by decide)) _).trans (told_handDemandsStale s u)
  have analog : s.handDemandsStale.handAnalogFault.told srcAnalogFault = s.handDemandsStale.analogFaultCondition :=
    told_handLevel_self _ _ _
  obtain ⟨b, first⟩ := alertsAlone_handDemandsStale s
  obtain ⟨a, alone⟩ := alertsAlone_trans (alertsAlone_handDemandsStale s) (alertsAlone_handLevel _ srcAnalogFault _)
  have alone : s.handDemandsStale.handAnalogFault = s.setAlerts a := alone
  have same : s.handDemandsStale.analogFaultCondition = s.analogFaultCondition := by
    rw [first]
    rfl
  rw [same] at analog
  rw [alone] at stale analog ⊢
  exact ⟨stale, analog⟩

theorem handInputs_coil (s : State) (k : Fin 6) (a : Fin 8) :
    s.handDemandsStale.handAnalogFault.told (coilSource k a) = s.told (coilSource k a) :=
  told_of_source ((handLevel_source _ (coilSource_ne_device k a (by decide)) _).trans
    (handDemandsStale_source s fun u => coilSource_ne_unitSource k a u _))

theorem CoilTold.inputs {k : Fin 6} {s t : State} (h : CoilTold k s t) : CoilTold k s t.handDemandsStale.handAnalogFault := by
  have told (a : Fin 8) := handInputs_coil t k a
  obtain ⟨a, alone⟩ := alertsAlone_trans (alertsAlone_handDemandsStale t) (alertsAlone_handLevel _ srcAnalogFault _)
  have alone : t.handDemandsStale.handAnalogFault = t.setAlerts a := alone
  rw [alone] at told ⊢
  exact ⟨seqFrame_trans h.frame (seqFrame_setAlerts t a), h.exposures, h.store, h.coils, toldCoil_of_told h.levels rfl rfl told,
    (told _).trans h.blind⟩

/-! ## An accepted SET-COIL after its first part -/

section
variable (s : State) (k : Fin 6) (new : CoilCfg)

/-- The state with the units concerned moved, before the outputs follow. -/
def State.coilUnits : State := (((s.coilRecorded k new).handCoil k).handBlind k).unitsConcerned (s.cfg k) new

/-- The state with a coil made present proven afresh, before the last levels are told. -/
def State.coilProven : State :=
  if !(s.cfg k).present && new.present then (s.coilUnits k new).recompute.proveFresh k else (s.coilUnits k new).recompute

theorem applyCoil_proven : s.applyCoil k new = (s.coilProven k new).handDemandsStale.handAnalogFault := rfl

theorem coilProven_told : CoilTold k (s.coilRecorded k new) (s.coilProven k new) := by
  have merged := ((coilTold_handed (s.coilRecorded k new) k).unitsConcerned (s.cfg k) new).recompute
  unfold State.coilProven
  split
  · exact merged.proves (seqFrame_proveFresh _ k) (proves_proveFresh _ k)
  · exact merged

theorem applyCoil_told : CoilTold k (s.coilRecorded k new) (s.applyCoil k new) := (coilProven_told s k new).inputs

theorem applyCoil_inputsTold : (s.applyCoil k new).inputsTold := handInputs_told (s.coilProven k new)

theorem applyCoil_driven : (s.applyCoil k new).driven :=
  (steady_coilSettled ((s.coilRecorded k new).coilMerged k (s.cfg k) new) k (s.cfg k) new).driven (recompute_driven _)

theorem handInputs_blocks (t : State) : t.handDemandsStale.handAnalogFault.coils = t.coils ∧
    t.handDemandsStale.handAnalogFault.units = t.units ∧ t.handDemandsStale.handAnalogFault.outputs = t.outputs ∧
    seqFrame t t.handDemandsStale.handAnalogFault := by
  obtain ⟨a, alone⟩ := alertsAlone_trans (alertsAlone_handDemandsStale t) (alertsAlone_handLevel _ srcAnalogFault _)
  have alone : t.handDemandsStale.handAnalogFault = t.setAlerts a := alone
  rw [alone]
  exact ⟨rfl, rfl, rfl, rfl⟩

theorem coilUnits_proven : seqFrame (s.coilUnits k new) (s.coilProven k new) ∧ (s.coilProven k new).units = (s.coilUnits k new).units ∧
    ∀ j, ((s.coilUnits k new).coils.at j).sameButProve ((s.coilProven k new).coils.at j) := by
  have frame := seqFrame_recompute (s.coilUnits k new)
  have units := recompute_units (s.coilUnits k new)
  have coils := recompute_coils (s.coilUnits k new)
  unfold State.coilProven
  split
  · have fresh := (proves_proveFresh (s.coilUnits k new).recompute k).frame
    exact ⟨seqFrame_trans frame (seqFrame_proveFresh _ k), (proveFrame_units fresh).trans units,
      fun j => sameButProve_trans (coils j) (proveFrame_sameButProve fresh j)⟩
  · exact ⟨frame, units, coils⟩

/-- The units' events of an accepted SET-COIL that changes presence or unit. -/
theorem applyCoil_units (protects : (s.coilRecorded k new).mode ≠ .fallback)
    (changed : ¬ ((s.cfg k).present = new.present ∧ (s.cfg k).unit = new.unit)) :
    unitMoved (s.coilRecorded k new) (s.applyCoil k new) (s.cfg k).unit ∧ unitMoved (s.coilRecorded k new) (s.applyCoil k new) new.unit ∧
    ∀ v, v ≠ (s.cfg k).unit → v ≠ new.unit → (s.applyCoil k new).units.at v = (s.coilRecorded k new).units.at v := by
  obtain ⟨frame, units, coils⟩ := coilUnits_proven s k new
  obtain ⟨lastCoils, lastUnits, -, lastFrame⟩ := handInputs_blocks (s.coilProven k new)
  have whole : seqFrame (s.coilUnits k new) (s.applyCoil k new) := seqFrame_trans frame lastFrame
  have kept : (s.applyCoil k new).units = (s.coilUnits k new).units := lastUnits.trans units
  have stages (j : Fin 6) : ((s.coilUnits k new).coils.at j).sameButProve ((s.applyCoil k new).coils.at j) := by
    rw [applyCoil_proven, lastCoils]
    exact coils j
  obtain ⟨a, handed⟩ := alertsAlone_trans (alertsAlone_handCoil (s.coilRecorded k new) k) (alertsAlone_handLevel _ (srcBlind k) _)
  have handed : ((s.coilRecorded k new).handCoil k).handBlind k = (s.coilRecorded k new).setAlerts a := handed
  have moved := unitsConcerned_moved (s := (s.coilRecorded k new).setAlerts a) protects changed
  rw [← handed] at moved
  obtain ⟨first, second, others⟩ := moved
  have base {u : Fin 3} (h : unitMoved (((s.coilRecorded k new).handCoil k).handBlind k) (s.coilUnits k new) u) :
      unitMoved (s.coilRecorded k new) (s.coilUnits k new) u := by
    rw [handed] at h
    exact unitMoved_congr h rfl rfl rfl rfl rfl rfl rfl rfl
  refine ⟨unitMoved_proves (base first) whole kept stages, unitMoved_proves (base second) whole kept stages, fun v hold hnew => ?_⟩
  rw [kept]
  refine (others v hold hnew).trans ?_
  rw [handed]
  rfl

/-- A coil made present is proven by its pump output and FLOW as the write leaves them (R105). -/
theorem applyCoil_fresh (added : (!(s.cfg k).present && new.present) = true) : ∃ r : CoilSeq,
    ((s.coilRecorded k new).coils.at k).sameButProve r ∧
    (s.applyCoil k new).coils.at k = (s.applyCoil k new).provenSeq k r := by
  have proven : s.coilProven k new = (s.coilUnits k new).recompute.proveFresh k := if_pos added
  have merged := ((coilTold_handed (s.coilRecorded k new) k).unitsConcerned (s.cfg k) new).recompute
  obtain ⟨lastCoils, -, lastOutputs, lastFrame⟩ := handInputs_blocks (s.coilProven k new)
  have frame : seqFrame (s.coilUnits k new).recompute (s.applyCoil k new) := by
    refine seqFrame_trans ?_ lastFrame
    rw [proven]
    exact seqFrame_proveFresh _ k
  have outputs : (s.applyCoil k new).outputs = (s.coilUnits k new).recompute.outputs := by
    refine lastOutputs.trans ?_
    rw [proven]
    exact proveFrame_outputs (proves_proveFresh _ k).frame
  refine ⟨(s.coilUnits k new).recompute.coils.at k, merged.coils k, ?_⟩
  rw [applyCoil_proven, lastCoils, proven, (proveFresh_coils _ k).1, ← proven, ← applyCoil_proven]
  unfold State.provenSeq State.freshProve State.flow
  rw [cfg_of_frame frame, outputs, seqFrame_inputs frame]

/-- A coil made absent keeps the record that its removal leaves. -/
theorem applyCoil_absent (absent : new.present = false) (cfg : (s.coilRecorded k new).cfg k = new) :
    (s.applyCoil k new).coils.at k = (s.coilRecorded k new).coils.at k := by
  have proven : s.coilProven k new = (s.coilUnits k new).recompute := by
    unfold State.coilProven
    rw [absent, Bool.and_false]
    rfl
  have units := (coilTold_handed (s.coilRecorded k new) k).unitsConcerned (s.cfg k) new
  have gone : ((s.coilUnits k new).cfg k).present = false := by
    rw [show (s.coilUnits k new).cfg k = _ from cfg_of_frame units.frame k, cfg]
    exact absent
  rw [applyCoil_proven, (handInputs_blocks _).1, proven, recompute_absent gone]
  obtain ⟨a, handed⟩ := alertsAlone_trans (alertsAlone_handCoil (s.coilRecorded k new) k) (alertsAlone_handLevel _ (srcBlind k) _)
  have handed : ((s.coilRecorded k new).handCoil k).handBlind k = (s.coilRecorded k new).setAlerts a := handed
  have coils (t : State) : (t.unitsConcerned (s.cfg k) new).coils = t.coils := by
    unfold State.unitsConcerned
    split
    · rfl
    · split
      · rw [(unitFrame_unitEvent _ t).1]
      · rw [(unitFrame_unitEvent _ (t.unitEvent _)).1, (unitFrame_unitEvent _ t).1]
  unfold State.coilUnits
  rw [coils, handed]
  rfl

end

end Sys2Proof.Machine
end

section
/-! PROOF. SET-COIL that retunes, adds, removes or moves a coil (O29, O30). -/

namespace Sys2Proof.Machine

open Sys2Proof

/-! ## The coil's own records (R4, R31, R48, R67, R86, R107) -/

/-- Coil `k`'s record of `s` with its history cut to the lockout limit of `new`. -/
def State.trimmed (s : State) (k : Fin 6) (new : CoilCfg) : CoilSeq :=
  { s.coils.at k with history := trimHistory (s.coils.at k).history new.lockoutLimit }

section
variable (s : State) (k : Fin 6) (new : CoilCfg)

/-- The tables, the detector and the history written, before presence is looked at. -/
def State.coilWritten : State := ((s.writeCoilCfg k new).readyDetector k (s.cfg k) new).setCoil k (s.trimmed k new)

theorem readyDetector_eq (old : CoilCfg) : s.readyDetector k old new = { s with
    detectors := if new.lwt = old.lwt ∧ (old.present = true ∨ new.present = false) then s.detectors else s.detectors.put k .ready } := by
  unfold State.readyDetector
  by_cases lwt : old.lwt = new.lwt <;> cases old.present <;> cases new.present <;> simp [lwt, Ne.symm, eq_comm] <;> rfl

theorem coilWritten_eq : s.coilWritten k new = { s with
    tables := { s.tables with coils := s.tables.coils.put k new }
    detectors := if new.lwt = (s.cfg k).lwt ∧ ((s.cfg k).present = true ∨ new.present = false) then s.detectors
      else s.detectors.put k .ready
    coils := s.coils.put k (s.trimmed k new) } := by
  unfold State.coilWritten
  rw [readyDetector_eq]
  rfl

theorem coilRecorded_eq : s.coilRecorded k new =
    ((s.coilWritten k new).presenceChange k (s.cfg k) new).leaveFrames k (s.cfg k) new := by
  have coils : ((s.writeCoilCfg k new).readyDetector k (s.cfg k) new).coils = s.coils := by
    rw [readyDetector_eq]
    rfl
  unfold State.coilRecorded State.coilWritten State.trimmed
  dsimp only
  rw [coils]

theorem coilWritten_blocks : (s.coilWritten k new).coils.at k = s.trimmed k new ∧ (s.coilWritten k new).cfg k = new ∧
    (s.coilWritten k new).exposures = s.exposures ∧ (s.coilWritten k new).faces = s.faces ∧
    (s.coilWritten k new).masters = s.masters := by
  rw [coilWritten_eq]
  exact ⟨Tab.at_put_self _ _ _, Tab.at_put_self _ _ _, rfl, rfl, rfl⟩

/-- The open frames without coil `k`. -/
def State.withoutFrames : State :=
  { s with masters := s.masters.each fun m => { m with coilSet := m.coilSet.filter fun j => j != k } }

theorem coilRecorded_added (absent : (s.cfg k).present = false) (present : new.present = true) :
    s.coilRecorded k new = ((s.coilWritten k new).setFace k Face.start).placeCoil k := by
  rw [coilRecorded_eq]
  unfold State.leaveFrames State.presenceChange
  rw [absent, present]
  rfl

theorem coilRecorded_removed (present : (s.cfg k).present = true) (absent : new.present = false) :
    s.coilRecorded k new = ((s.coilWritten k new).removeCoil k).withoutFrames k := by
  rw [coilRecorded_eq]
  unfold State.leaveFrames State.presenceChange
  rw [absent, present]
  rfl

theorem coilRecorded_moved (before : (s.cfg k).present = true) (present : new.present = true) (unit : new.unit ≠ (s.cfg k).unit) :
    s.coilRecorded k new = (s.coilWritten k new).withoutFrames k := by
  rw [coilRecorded_eq]
  unfold State.leaveFrames State.presenceChange
  rw [before, present]
  exact if_pos (by simpa using unit)

/-- Coil `k`'s record as its removal leaves it (R4, R107). -/
def CoilSeq.removed (r : CoilSeq) : CoilSeq :=
  { r with stage := .idle, settle := 0, holdDown := none, prove := .off, proveTimer := none, forced := false }

/-- A removal writes the coil's two records and tells its conditions. -/
theorem removeCoil_eq (t : State) : ∃ a, t.removeCoil k =
    ((t.setExposure k Exposure.start).setCoil k (t.coils.at k).removed).setAlerts a :=
  alertsAlone_handCoil ((t.setExposure k Exposure.start).setCoil k (t.coils.at k).removed) k

theorem coilRecorded_detectors : (s.coilRecorded k new).detectors =
    if new.lwt = (s.cfg k).lwt ∧ ((s.cfg k).present = true ∨ new.present = false) then s.detectors else s.detectors.put k .ready := by
  have leave (t : State) : (t.leaveFrames k (s.cfg k) new).detectors = t.detectors := by
    unfold State.leaveFrames
    split <;> rfl
  have place (t : State) : (t.placeCoil k).detectors = t.detectors := by
    unfold State.placeCoil
    dsimp only
    split <;> rfl
  have presence (t : State) : (t.presenceChange k (s.cfg k) new).detectors = t.detectors := by
    unfold State.presenceChange
    split
    · exact place _
    · split
      · obtain ⟨a, removed⟩ := removeCoil_eq k t
        rw [removed]
        rfl
      · rfl
  rw [coilRecorded_eq, leave, presence, coilWritten_eq]

end

/-! ## What an accepted SET-COIL leaves outside the coil (R4, R110, R129) -/

section
variable {s : State} {k : Fin 6} {new : CoilCfg}

theorem coilRecorded_blocks (s : State) (k : Fin 6) (new : CoilCfg) :
    (s.coilRecorded k new).tables = { s.tables with coils := s.tables.coils.put k new } ∧ (s.coilRecorded k new).mode = s.mode ∧
    (s.coilRecorded k new).validation = s.validation ∧ (s.coilRecorded k new).demands = s.demands ∧
    (s.coilRecorded k new).inputs = s.inputs ∧ (s.coilRecorded k new).store = s.store ∧ (s.coilRecorded k new).units = s.units ∧
    (s.coilRecorded k new).plantSeconds = s.plantSeconds ∧
    sameOutside { s with masters := (s.coilRecorded k new).masters } (s.coilRecorded k new) := by
  rw [(ownCoil_coilRecorded s k new).1]
  exact ⟨rfl, rfl, rfl, rfl, rfl, rfl, rfl, rfl, sameOutside_refl _⟩

theorem coilRecorded_cfg (s : State) (k : Fin 6) (new : CoilCfg) : (s.coilRecorded k new).cfg k = new := by
  rw [State.cfg, (coilRecorded_blocks s k new).1]
  exact Tab.at_put_self _ _ _

theorem seqFrame_validation {s t : State} (h : seqFrame s t) : t.validation = s.validation := by
  rw [show t = _ from h]

/-- What a SET-COIL that changes presence or unit does outside the coil's own records. -/
theorem coilRewired_applyCoil (test : s.mode = .test) (changed : ¬ ((s.cfg k).present = new.present ∧ (s.cfg k).unit = new.unit)) :
    coilRewired s (s.applyCoil k new) k new := by
  obtain ⟨tables, mode, validation, demands, inputs, store, units, seconds, outside⟩ := coilRecorded_blocks s k new
  obtain ⟨frame, exposures, kept, coils, ⟨trip, lockout, pump⟩, blind⟩ := applyCoil_told s k new
  obtain ⟨stale, analog⟩ := applyCoil_inputsTold s k new
  obtain ⟨before, after, others⟩ := applyCoil_units s k new (by rw [mode, test]; decide) changed
  have own := (ownCoil_coilRecorded s k new).2
  have unitTables (u : Fin 3) : s.tables.units.at u = (s.coilRecorded k new).tables.units.at u := by rw [tables]
  have moved {u : Fin 3} (h : unitMoved (s.coilRecorded k new) (s.applyCoil k new) u) : unitMoved s (s.applyCoil k new) u :=
    unitMoved_congr h (by rw [units]) (unitTables u) seconds.symm rfl rfl rfl rfl rfl
  refine ⟨(seqFrame_tables frame).trans tables, (seqFrame_mode frame).trans mode, (seqFrame_validation frame).trans validation,
    (seqFrame_demands frame).trans demands, (seqFrame_inputs frame).trans inputs, kept.trans store, fun j other => ?_, moved before,
    moved after, fun v hold hnew => ?_, applyCoil_driven s k new, trip, lockout, pump, ?_, stale, analog, ?_, ?_⟩
  · obtain ⟨coil, exposure, face, -⟩ := own j other
    refine ⟨?_, ?_, ?_⟩
    · have := coils j
      rw [coil] at this
      exact this
    · rw [exposures]
      exact exposure
    · rw [seqFrame_faces frame]
      exact face
  · rw [others v hold hnew, units]
  · rw [blind, State.blindCondition, State.blindCondition, cfg_of_frame frame, seqFrame_faces frame]
  · rw [(seqFrame_sampler frame).2.1, coilRecorded_detectors]
  · rw [seqFrame_masters frame]
    exact sameOutside_trans outside frame.outside

/-- The end of the request's event leaves what the write has set. -/
theorem coilRewired_ends {q t : State} (h : Ends q t) (written : coilRewired s q k new) : coilRewired s t k new := by
  have only := h.only
  obtain ⟨tables, mode, validation, demands, inputs, store, others, before, after, units, outputs, trip, lockout, pump, blind, stale,
    analog, detectors, outside⟩ := written
  have moved {u : Fin 3} (h : unitMoved s q u) : unitMoved s t u := by
    refine unitMoved_congr h rfl rfl rfl (by rw [only.units]) ?_ ?_ ?_ ?_
    · exact only.reads (State.temperOf · u) fun _ _ _ => rfl
    · exact only.reads (State.tripOf · u) fun _ _ _ => rfl
    · exact only.reads (State.damperProof · u) fun _ _ _ => rfl
    · exact only.reads (State.fanProof · u) fun _ _ _ => rfl
  have masters : t.masters = q.masters := only.reads State.masters fun _ _ _ => rfl
  refine ⟨only.tables.trans tables, only.mode.trans mode, ?_, only.demands.trans demands, only.inputs.trans inputs, only.store.trans store,
    fun j other => ?_, moved before, moved after, fun v hold hnew => ?_, h.driven outputs, (h.told _).trans (trip.trans ?_),
    (h.told _).trans (lockout.trans ?_), (h.told _).trans (pump.trans ?_), (h.told _).trans (blind.trans ?_),
    fun u => (h.told _).trans ((stale u).trans ?_), (h.told _).trans (analog.trans ?_), ?_, ?_⟩
  · exact (only.reads State.validation fun _ _ _ => rfl).trans validation
  · rw [only.coils, only.exposures, only.faces]
    exact others j other
  · rw [only.units]
    exact units v hold hnew
  · exact (only.reads (State.tripCondition · k) fun _ _ _ => rfl).symm
  · exact (only.reads (State.lockoutCondition · k) fun _ _ _ => rfl).symm
  · exact (only.reads (State.pumpFailCondition · k) fun _ _ _ => rfl).symm
  · exact (only.reads (State.blindCondition · k) fun _ _ _ => rfl).symm
  · exact (only.demandStale u).symm
  · exact (only.reads State.analogFaultCondition fun _ _ _ => rfl).symm
  · exact (only.reads State.detectors fun _ _ _ => rfl).trans detectors
  · rw [masters]
    exact only.sameOutside outside

/-! ## The request -/

theorem admits_of_structural {w : CoilWire} (structural : s.mode = .test ∨ structuralBytes w = structuralBytes (s.cfg k).toWire) :
    (!s.coilModeAdmits k w) = false := by
  unfold State.coilModeAdmits
  rcases structural with test | same
  · rw [test]
    rfl
  · rw [same, beq_self_eq_true, Bool.or_true]
    rfl

/-- A SET-COIL past its checks is the write (R1 to R4). -/
theorem reqSetCoil_accepted {w : CoilWire} (free : s.saveBusy = false) (read : coilCfgOf w = some new)
    (structural : s.mode = .test ∨ structuralBytes w = structuralBytes (s.cfg k).toWire)
    (unlocked : ((s.cfg k).present && !new.present && (s.coils.at k).lockout) = false) :
    reqSetCoil (encNumber k) w s = answer .done (s.applyCoil k new) := by
  have admits := admits_of_structural structural
  unfold reqSetCoil
  rw [free, decNumber_encNumber (by omega), if_neg (by decide)]
  dsimp only
  rw [admits, if_neg (by decide), read]
  dsimp only
  rw [unlocked, if_neg (by decide)]

theorem exec_setCoil {w : CoilWire} {tag : Byte} (ready : s.ready) (free : s.saveBusy = false) (read : coilCfgOf w = some new)
    (structural : s.mode = .test ∨ structuralBytes w = structuralBytes (s.cfg k).toWire)
    (unlocked : ((s.cfg k).present && !new.present && (s.coils.at k).lockout) = false) :
    ∃ t, exec (.setCoil tag (encNumber k) w) s = .next t ∧ holdsResponse s t 0xB0 tag [0] ∧ Ends (s.applyCoil k new) t :=
  arrive_ends ready ((handle_setCoil tag s _ w).trans (reqSetCoil_accepted free read structural unlocked))
    (by rw [(tame_applyCoil s k new).link])

end

/-- Settles O29. -/
theorem coilRetuningKeepsStagesAndExposure : Obligations.CoilRetuningKeepsStagesAndExposure := by
  intro s tag k w c ready free read present unit structural
  obtain ⟨t, arrives, holds, ends⟩ := exec_setCoil (k := k) (tag := tag) ready free read structural
    (by rw [present]; cases (s.cfg k).present <;> rfl)
  have only := ends.only
  obtain ⟨tables, mode, -, demands, inputs, store, units, -, -⟩ := coilRecorded_blocks s k c
  obtain ⟨frame, exposures, kept, coils, -, -⟩ := applyCoil_told s k c
  obtain ⟨stale, analog⟩ := applyCoil_inputsTold s k c
  have recorded := coilRecorded_kept present unit
  have own (j : Fin 6) : ((s.coilRecorded k c).coils.at j).sameButProve (t.coils.at j) := by
    rw [only.coils]
    exact coils j
  have written : (s.coilRecorded k c).coils = s.coils.put k (s.trimmed k c) := by
    rw [recorded]
    rfl
  have unmoved : (s.applyCoil k c).units = s.units := by
    have concerned : s.coilUnits k c = ((s.coilRecorded k c).handCoil k).handBlind k := unitsConcerned_kept present unit
    obtain ⟨a, handed⟩ := alertsAlone_trans (alertsAlone_handCoil (s.coilRecorded k c) k) (alertsAlone_handLevel _ (srcBlind k) _)
    have handed : ((s.coilRecorded k c).handCoil k).handBlind k = (s.coilRecorded k c).setAlerts a := handed
    rw [applyCoil_proven, (handInputs_blocks _).2.1, (coilUnits_proven s k c).2.1, concerned, handed]
    exact units
  refine ⟨t, arrives, holds, only.tables.trans ((seqFrame_tables frame).trans tables), ?_, ?_, only.units.trans unmoved,
    ends.driven (applyCoil_driven s k c), only.mode.trans ((seqFrame_mode frame).trans mode),
    only.demands.trans ((seqFrame_demands frame).trans demands), only.inputs.trans ((seqFrame_inputs frame).trans inputs),
    only.store.trans (kept.trans store), ?_, ?_, fun u => ?_, ?_, fun j => ?_, only.sameOutside ?_⟩
  · rw [only.exposures, exposures, recorded]
  · rw [only.faces, seqFrame_faces frame, recorded]
  · rw [only.reads State.detectors fun _ _ _ => rfl, (seqFrame_sampler frame).2.1, recorded]
    exact (ite_not _ _ _).trans (if_congr eq_comm rfl rfl)
  · exact (ends.told _).trans (analog.trans (only.reads State.analogFaultCondition fun _ _ _ => rfl).symm)
  · exact (ends.told _).trans ((stale u).trans (only.demandStale u).symm)
  · obtain ⟨-, -, -, -, -, -, history⟩ := sameButProve_fields (own k)
    rw [history, written, Tab.at_put_self]
    rfl
  · obtain ⟨stage, settle, hold, lockout, forced, record, history⟩ := sameButProve_fields (own j)
    rw [stage, settle, hold, lockout, forced, record, history, written, Tab.at_put]
    by_cases same : j = k
    · rw [if_pos same, same]
      exact ⟨rfl, rfl, rfl, rfl, rfl, rfl, fun other => absurd rfl other⟩
    · rw [if_neg same]
      exact ⟨rfl, rfl, rfl, rfl, rfl, rfl, fun _ => rfl⟩
  · refine sameOutside_trans ?_ frame.outside
    rw [recorded]
    exact sameOutside_refl s

/-- A removed coil's record. -/
theorem coilRecorded_gone {s : State} {k : Fin 6} {new : CoilCfg} (present : (s.cfg k).present = true) (absent : new.present = false) :
    (s.coilRecorded k new).coils.at k = (s.trimmed k new).removed ∧
    (s.coilRecorded k new).exposures.at k = Exposure.start ∧ (s.coilRecorded k new).faces = s.faces ∧
    (s.coilRecorded k new).masters = s.masters.each fun m => { m with coilSet := m.coilSet.filter fun j => j != k } := by
  obtain ⟨coil, -, -, faces, masters⟩ := coilWritten_blocks s k new
  rw [coilRecorded_removed s k new present absent]
  generalize s.coilWritten k new = q at *
  obtain ⟨a, removed⟩ := removeCoil_eq k q
  rw [removed, ← coil, ← faces, ← masters]
  exact ⟨Tab.at_put_self _ _ _, Tab.at_put_self _ _ _, rfl, rfl⟩

/-- An added coil's records. -/
theorem coilRecorded_placed {s : State} {k : Fin 6} {new : CoilCfg} (absent : (s.cfg k).present = false) (present : new.present = true) :
    (s.coilRecorded k new).coilView k = placedCoil new (s.trimmed k new) ∧ (s.coilRecorded k new).faces.at k = Face.start ∧
    (s.coilRecorded k new).masters = s.masters := by
  obtain ⟨coil, cfg, -, -, masters⟩ := coilWritten_blocks s k new
  rw [coilRecorded_added s k new absent present]
  generalize s.coilWritten k new = q at *
  have place (t : State) : (t.placeCoil k).faces = t.faces ∧ (t.placeCoil k).masters = t.masters := by
    unfold State.placeCoil
    dsimp only
    split <;> exact ⟨rfl, rfl⟩
  obtain ⟨face, same⟩ := place (q.setFace k Face.start)
  rw [placeCoil_view, face, same]
  refine ⟨?_, Tab.at_put_self _ _ _, masters⟩
  rw [show (q.setFace k Face.start).cfg k = q.cfg k from rfl, cfg, ← coil]
  rfl

/-- Settles O30. -/
theorem presenceChangesPlaceTheCoil : Obligations.PresenceChangesPlaceTheCoil := by
  intro s tag k w c ready free test read kept hkept
  have history : (s.trimmed k c).history = kept := hkept.symm
  obtain ⟨frame, exposures, -, coils, -, -⟩ := applyCoil_told s k c
  refine ⟨fun absent present => ?_, fun present absent locked => ?_, fun present absent unlocked => ?_, fun before present unit => ?_⟩
  · obtain ⟨t, arrives, holds, ends⟩ := exec_setCoil (k := k) (tag := tag) ready free read (.inl test) (by rw [absent]; rfl)
    have only := ends.only
    have rewired := coilRewired_ends ends (coilRewired_applyCoil test fun h => by rw [absent, present] at h; cases h.1)
    obtain ⟨view, face, masters⟩ := coilRecorded_placed (s := s) absent present
    obtain ⟨r, same, fresh⟩ := applyCoil_fresh s k c (by rw [absent, present]; rfl)
    obtain ⟨forced, hold, still⟩ := placedCoil_still c (s.trimmed k c)
    obtain ⟨lockout, record, past⟩ := placedCoil_kept c (s.trimmed k c)
    obtain ⟨e, confirm, locked, unlocked⟩ := placedCoil_fields c (s.trimmed k c)
    have coil : (placedCoil c (s.trimmed k c)).1.sameButProve (t.coils.at k) := by
      rw [only.coils, ← view]
      exact coils k
    have exposure : t.exposures.at k = (placedCoil c (s.trimmed k c)).2 := by
      rw [only.exposures, exposures, ← view]
      rfl
    obtain ⟨stage', settle', hold', lockout', forced', record', history'⟩ := sameButProve_fields coil
    have cfg : (s.applyCoil k c).cfg k = c := (cfg_of_frame frame k).trans (coilRecorded_cfg s k c)
    have flow : t.flow k = (s.applyCoil k c).flow k := only.reads (State.flow · k) fun _ _ _ => rfl
    have proven : t.coils.at k = (s.applyCoil k c).provenSeq k r := by rw [only.coils, fresh]
    refine ⟨t, arrives, holds, rewired, ?_, ?_, ?_, hold'.trans hold, forced'.trans forced, ?_, lockout'.trans lockout,
      record'.trans record, history'.trans (past.trans history), ?_, ?_, fun flag => ?_, fun flag => ?_⟩
    · rw [exposure, e]
    · rw [exposure, confirm]
    · rw [only.faces, seqFrame_faces frame, face]
    · rw [only.reads State.masters fun _ _ _ => rfl, seqFrame_masters frame, masters]
    · rw [proven, only.outputs, flow]
      exact (freshProve_cases _ k).1 (by rw [cfg]; exact present)
    · rw [proven]
      unfold State.provenSeq
      rw [cfg]
    · rw [stage', settle', exposure]
      exact ⟨(locked flag).1, still flag, (locked flag).2⟩
    · obtain ⟨stage, band, count⟩ := unlocked flag
      rw [stage', settle', exposure]
      exact ⟨stage, count, band⟩
  · refine arrive_refused ready ((handle_setCoil tag s _ w).trans ?_)
    unfold reqSetCoil
    rw [free, decNumber_encNumber (by omega), if_neg (by decide)]
    dsimp only
    rw [admits_of_structural (.inl test), if_neg (by decide), read]
    dsimp only
    rw [present, absent, locked]
    rfl
  · obtain ⟨t, arrives, holds, ends⟩ := exec_setCoil (k := k) (tag := tag) ready free read (.inl test)
      (by rw [present, absent, unlocked]; rfl)
    have only := ends.only
    have rewired := coilRewired_ends ends (coilRewired_applyCoil test fun h => by rw [absent, present] at h; cases h.1)
    obtain ⟨coil, exposure, faces, masters⟩ := coilRecorded_gone (s := s) present absent
    refine ⟨t, arrives, holds, rewired, ?_, ?_, ?_, fun g => ?_⟩
    · rw [only.exposures, exposures, exposure]
      rfl
    · rw [only.coils, applyCoil_absent s k c absent (coilRecorded_cfg s k c), coil, ← history]
      rfl
    · rw [only.faces, seqFrame_faces frame, faces]
    · rw [only.reads State.masters fun _ _ _ => rfl, seqFrame_masters frame, masters, Tab.at_each]
  · obtain ⟨t, arrives, holds, ends⟩ := exec_setCoil (k := k) (tag := tag) ready free read (.inl test)
      (by rw [before, present]; rfl)
    have only := ends.only
    have rewired := coilRewired_ends ends (coilRewired_applyCoil test fun h => unit h.2.symm)
    have recorded := coilRecorded_moved s k c before present unit
    obtain ⟨coil, -, exposure, faces, masters⟩ := coilWritten_blocks s k c
    refine ⟨t, arrives, holds, rewired, ?_, ?_, ?_, fun g => ?_⟩
    · rw [only.exposures, exposures, recorded]
      exact exposure
    · rw [only.faces, seqFrame_faces frame, recorded]
      exact faces
    · have own := coils k
      rw [recorded, show ((s.coilWritten k c).withoutFrames k).coils = (s.coilWritten k c).coils from rfl, coil] at own
      rw [only.coils, ← history]
      exact own
    · rw [only.reads State.masters fun _ _ _ => rfl, seqFrame_masters frame, recorded]
      exact (Tab.at_each _ _ _).trans (by rw [masters])

end Sys2Proof.Machine
end

section
/-! PROOF. Reading the fields of a report by their places (O17). -/

namespace Sys2Proof.Machine

open Sys2Proof

/-! ## Walking through a report: `l.drop i = m` says that `m` stands from byte `i` to the end -/

section
variable {l a m : List Byte} {b : Byte} {i w n v : Nat}

theorem reportStart (h : l = m) : l.drop 0 = m := h

/-- What stands behind a part of `w` bytes. -/
theorem behind (j : Nat) (h : l.drop i = a ++ m) (len : a.length = w) (place : j = i + w := by omega) : l.drop j = m := by
  rw [place, ← List.drop_drop, h, ← len, List.drop_left]

/-- What stands behind a byte. -/
theorem behindByte (j : Nat) (h : l.drop i = b :: m) (place : j = i + 1 := by omega) : l.drop j = m :=
  behind j (a := [b]) h rfl place

/-- A field inside the part that stands at byte `i`. -/
theorem fieldAt_part (h : l.drop i = a ++ m) (o : Nat) (fits : o + n ≤ a.length) : fieldAt l (i + o) n = fieldAt a o n := by
  rw [← fieldAt_append_left a m o n fits, ← h]
  unfold fieldAt
  rw [List.drop_drop]

theorem fieldAt_first (h : l.drop i = a ++ m) (fits : n ≤ a.length) : fieldAt l i n = fieldAt a 0 n :=
  fieldAt_part h 0 (by omega)

theorem fieldAt_byte (h : l.drop i = b :: m) : fieldAt l i 1 = b.toNat :=
  (fieldAt_first (a := [b]) h le_rfl).trans (fieldAt_cons_zero b [])

theorem fieldIs_u8 (h : l.drop i = u8 v :: m) : fieldIs l i 1 v := by
  intro small
  exact (fieldAt_byte h).trans ((u8_toNat v).trans (Nat.mod_eq_of_lt small))

theorem fieldIs_bytes (h : l.drop i = bytesBE n v ++ m) : fieldIs l i n v := by
  intro small
  rw [fieldAt_first h (by rw [bytesBE_length]), fieldAt_bytesBE, Nat.mod_eq_of_lt small]

theorem fieldAt_seconds {t : Seconds} (h : l.drop i = bytesBE 4 t.toNat ++ m) : fieldAt l i 4 = t.toNat :=
  fieldIs_bytes h t.isLt

theorem fieldAt_number {n : Nat} {k : Fin n} (h : l.drop i = encNumber k :: m) (small : n ≤ 255 := by omega) :
    fieldAt l i 1 = k.val + 1 :=
  fieldIs_u8 h (by have := k.isLt; omega)

end

/-! ## Fields read at one place and at another -/

section
variable {l l' : List Byte} {i i' : Nat}

theorem fieldIs_of_field {n v : Nat} (e : fieldAt l i n = fieldAt l' i' n) (h : fieldIs l' i' n v) : fieldIs l i n v :=
  fun small => e.trans (h small)

theorem tempIs_of_field {t : Option Int} (e : fieldAt l i 2 = fieldAt l' i' 2) (h : tempIs l' i' t) : tempIs l i t := by
  cases t with
  | none => exact e.trans h
  | some v => exact fun low high => (congrArg Nat.cast e).trans (h low high)

theorem secondIs_of_field {t : Option Seconds} (e : fieldAt l i 4 = fieldAt l' i' 4) (h : secondIs l' i' t) : secondIs l i t := by
  cases t with
  | none => exact e.trans h
  | some v => exact e.trans h

theorem timerIs_of_field {t : Option Nat} (e : fieldAt l i 2 = fieldAt l' i' 2) (h : timerIs l' i' t) : timerIs l i t := by
  cases t with
  | none => exact e.trans h
  | some v => exact fun small => e.trans (h small)

theorem flagsAre_of_field {f : List Bool} (e : fieldAt l i 1 = fieldAt l' i' 1) (h : flagsAre l' i' f) : flagsAre l i f := by
  intro j hj
  rw [e]
  exact h j hj

end

section
variable {l m : List Byte} {b : Byte} {i : Nat}

theorem tempIs_part {t : Option Int} (h : l.drop i = tempBytes t ++ m) : tempIs l i t :=
  tempIs_of_field (fieldAt_first h (by rw [tempBytes_length])) (tempIs_tempBytes t)

theorem secondIs_part {t : Option Seconds} (h : l.drop i = secondBytes t ++ m) : secondIs l i t :=
  secondIs_of_field (fieldAt_first h (by rw [secondBytes_length])) (secondIs_secondBytes t)

theorem secondIs_end {t : Option Seconds} (h : l.drop i = secondBytes t) : secondIs l i t :=
  secondIs_part (m := []) (h.trans (List.append_nil _).symm)

theorem timerIs_part {t : Option Nat} (h : l.drop i = timerBytes t ++ m) : timerIs l i t :=
  timerIs_of_field (fieldAt_first h (by rw [timerBytes_length])) (timerIs_timerBytes t)

theorem timerIs_end {t : Option Nat} (h : l.drop i = timerBytes t) : timerIs l i t :=
  timerIs_part (m := []) (h.trans (List.append_nil _).symm)

theorem flagsAre_part {f : List Bool} (h : l.drop i = u8 (flagBits f) :: m) (few : f.length ≤ 8 := by simp) : flagsAre l i f :=
  flagsAre_of_field ((fieldAt_byte h).trans (fieldAt_cons_zero _ []).symm) (flagsAre_flagBits f few)

theorem flagsAre_byte {f : Bool} (h : l.drop i = flagByte f :: m) : flagsAre l i [f] :=
  flagsAre_part (f := [f]) (by rw [h]; cases f <;> rfl) (Nat.le_add_left 1 7)

theorem pointsAre_part {p : List (Fin 48)} (h : l.drop i = pointSetBytes p ++ m) : pointsAre l i p := by
  intro x
  rw [fieldAt_first h (by rw [pointSetBytes_length])]
  exact pointsAre_pointSetBytes p x

end

/-! ## Entries of equal length -/

section
variable {α : Type} {f : α → List Byte} {w : Nat} {xs : List α} {l m : List Byte} {i j : Nat} {x : α}

theorem flatMap_length_const (each : ∀ x, (f x).length = w) (xs : List α) : (xs.flatMap f).length = w * xs.length := by
  induction xs with
  | nil => rfl
  | cons x xs ih => rw [List.flatMap_cons, List.length_append, each, ih, List.length_cons, Nat.mul_succ, Nat.add_comm]

theorem entry_fits (hx : xs[j]? = some x) : w * j + w ≤ w * xs.length := by
  obtain ⟨small, -⟩ := List.getElem?_eq_some_iff.mp hx
  rw [← Nat.mul_succ]
  exact Nat.mul_le_mul_left w small

/-- A field of the entry of index `j` in a list of entries. -/
theorem fieldAt_entry (h : l.drop i = xs.flatMap f ++ m) (each : ∀ x, (f x).length = w) (hx : xs[j]? = some x) {p n : Nat} (o : Nat)
    (fits : o + n ≤ w) (place : p = i + (w * j + o)) : fieldAt l p n = fieldAt (f x) o n := by
  have inside := entry_fits (w := w) hx
  rw [place, fieldAt_part h _ (by rw [flatMap_length_const each]; omega)]
  exact fieldAt_flatMap f w xs (fun y _ => each y) j o n x hx fits

/-- A field of the entry of index `j` in a field of `N` bytes that entries fill from its first byte on. -/
theorem fieldAt_padded {N : Nat} (h : l.drop i = padTo N (xs.flatMap f) ++ m) (each : ∀ x, (f x).length = w) (hx : xs[j]? = some x)
    {p n : Nat} (o : Nat) (fits : o + n ≤ w) (room : w * j + o + n ≤ N) (place : p = i + (w * j + o)) :
    fieldAt l p n = fieldAt (f x) o n := by
  have inside := entry_fits (w := w) hx
  rw [place, fieldAt_part h _ (by rw [padTo_length]; exact room),
    fieldAt_padTo_filled _ _ _ _ room (by rw [flatMap_length_const each]; omega)]
  exact fieldAt_flatMap f w xs (fun y _ => each y) j o n x hx fits

/-- An unused entry is 0. -/
theorem fieldAt_unused {N : Nat} (h : l.drop i = padTo N (xs.flatMap f) ++ m) (each : ∀ x, (f x).length = w) (hx : xs[j]? = none)
    {p n : Nat} (room : w * j + n ≤ N) (place : p = i + w * j) : fieldAt l p n = 0 := by
  have beyond : w * xs.length ≤ w * j := Nat.mul_le_mul_left w (List.getElem?_eq_none_iff.mp hx)
  rw [place, fieldAt_part h _ (by rw [padTo_length]; exact room)]
  exact fieldAt_padTo_unused _ _ _ _ (by rw [flatMap_length_const each]; exact beyond)

/-- A byte of a list of bytes, one an element. -/
theorem fieldAt_mapped {g : α → Byte} (h : l.drop i = xs.map g ++ m) (hx : xs[j]? = some x) {p : Nat} (place : p = i + j) :
    fieldAt l p 1 = (g x).toNat := by
  rw [List.map_eq_flatMap] at h
  exact (fieldAt_entry (w := 1) h (fun _ => rfl) hx 0 le_rfl (by omega)).trans (fieldAt_cons_zero _ [])

theorem finRange_entry {n : Nat} (k : Fin n) : (List.finRange n)[k.val]? = some k := by
  rw [List.getElem?_eq_getElem (by rw [List.length_finRange]; exact k.isLt), List.getElem_finRange]
  rfl

end

end Sys2Proof.Machine
end

section
/-! PROOF. The unit, coil and trip reports field by field (O17). -/

namespace Sys2Proof.Machine

open Sys2Proof

/-! ## The unit report (R177) -/

theorem unitReport_fields (s : State) (u : Fin 3) (l : List Byte) (r : UnitRec) (hl : l = s.unitReport u) (hr : r = s.units.at u) :
    fieldAt l 0 1 = u.val + 1 ∧ fieldAt l 1 1 = r.stage.code.toNat ∧
    flagsAre l 2 [r.temper, r.trip, s.damperProof u, s.fanProof u, r.missingDamper, r.missingFan] ∧
    timerIs l 3 r.stroke ∧ timerIs l 5 r.fan ∧ timerIs l 7 r.holdOff ∧ secondIs l 9 r.closingSecond ∧
    flagsAre l 13 ((List.finRange 6).map fun k => (s.cfg k).present && (s.cfg k).unit == u) ∧
    ∀ k : Fin 6, fieldAt l (14 + k.val) 1 =
      if (s.cfg k).present = true ∧ (s.cfg k).unit = u then (s.coils.at k).stage.code.toNat else 0 := by
  simp only [State.unitReport, List.append_assoc, List.cons_append, List.nil_append] at hl
  rw [← hr] at hl
  have h0 := reportStart hl
  have h1 := behindByte 1 h0
  have h2 := behindByte 2 h1
  have h3 := behindByte 3 h2
  have h5 := behind 5 h3 (timerBytes_length _)
  have h7 := behind 7 h5 (timerBytes_length _)
  have h9 := behind 9 h7 (timerBytes_length _)
  have h13 := behind 13 h9 (secondBytes_length _)
  have h14 := behindByte 14 h13
  refine ⟨fieldAt_number h0, fieldAt_byte h1, flagsAre_part h2, timerIs_part h3, timerIs_part h5, timerIs_part h7, secondIs_part h9,
    flagsAre_part h13, fun k => ?_⟩
  have coils : l.drop 14 = (List.finRange 6).map (fun k => if s.coilOf u k then (s.coils.at k).stage.code else 0) ++ [] :=
    h14.trans (List.append_nil _).symm
  rw [fieldAt_mapped coils (finRange_entry k) rfl]
  have on : s.coilOf u k = true ↔ (s.cfg k).present = true ∧ (s.cfg k).unit = u := by
    unfold State.coilOf
    rw [Bool.and_eq_true, decide_eq_true_eq]
  by_cases of : s.coilOf u k = true
  · rw [if_pos of, if_pos (on.mp of)]
  · rw [if_neg of, if_neg (of ∘ on.mpr)]
    rfl

theorem unitReport_length (s : State) (u : Fin 3) : (s.unitReport u).length = 20 := by
  simp [State.unitReport, timerBytes_length, secondBytes_length, allCoils]

/-! ## The coil report (R173) -/

theorem excludedBytes_length (e : Fin 48 × PointResult) : (excludedBytes e).length = 4 := by
  rw [excludedBytes, List.length_append, tempBytes_length]
  rfl

theorem temp_eq (x : PointResult) : x.temp = match x with | .good v => some v | _ => none := by
  cases x <;> rfl

/-- An excluded entry's fields. -/
theorem excludedBytes_fields (p : Fin 48) (x : PointResult) : fieldAt (excludedBytes (p, x)) 0 1 = p.val + 1 ∧
    fieldAt (excludedBytes (p, x)) 1 1 = (resultCode (some x)).toNat ∧ tempIs (excludedBytes (p, x)) 2 x.temp := by
  have h0 : (excludedBytes (p, x)).drop 0 = encNumber p :: x.code :: (tempBytes x.temp ++ []) :=
    congrArg (fun t => encNumber p :: x.code :: t) (List.append_nil _).symm
  have h1 := behindByte 1 h0
  have h2 := behindByte 2 h1
  exact ⟨fieldAt_number h0, fieldAt_byte h1, tempIs_part h2⟩

theorem pointSetBytes_empty : fieldAt (pointSetBytes []) 0 6 = 0 := by decide

theorem coilReport_fields (s : State) (k : Fin 6) (l : List Byte) (r : CoilSeq) (f : Face) (hl : l = s.coilReport k)
    (hr : r = s.coils.at k) (hf : f = s.faces.at k) :
    fieldAt l 0 1 = k.val + 1 ∧ flagsAre l 1 [(s.cfg k).present] ∧ fieldAt l 2 1 = (s.cfg k).unit.val + 1 ∧
    fieldAt l 3 1 = r.stage.code.toNat ∧ fieldIs l 4 1 r.settle ∧ timerIs l 5 r.holdDown ∧
    fieldAt l 7 1 = r.prove.code.toNat ∧ flagsAre l 8 [r.lockout, r.forced, s.detectors.at k == .ready] ∧
    fieldIs l 9 1 r.history.length ∧
    (∀ i : Fin 5, (∀ e, r.history[i.val]? = some e → fieldAt l (10 + 4 * i.val) 4 = e.toNat) ∧
      (r.history[i.val]? = none → fieldAt l (10 + 4 * i.val) 4 = 0)) ∧
    fieldIs l 30 3 (s.exposures.at k).e ∧ fieldAt l 33 1 = (s.exposures.at k).band.code.toNat ∧
    fieldIs l 34 1 (s.exposures.at k).confirm ∧
    fieldAt l 35 1 = f.state.code.toNat ∧ fieldIs l 36 1 f.starved ∧ tempIs l 37 f.held ∧ tempIs l 39 f.mean ∧
    tempIs l 41 f.spread ∧ fieldAt l 43 1 = f.status.code.toNat ∧ tempIs l 44 f.cEff ∧ pointsAre l 46 f.validSet ∧
    pointsAre l 52 f.missingSet ∧ fieldIs l 58 1 f.excludedSet.length ∧
    (∀ i : Fin 8,
      (∀ p x, f.excludedSet[i.val]? = some (p, x) → fieldAt l (59 + 4 * i.val) 1 = p.val + 1 ∧
        fieldAt l (60 + 4 * i.val) 1 = (resultCode (some x)).toNat ∧
        tempIs l (61 + 4 * i.val) (match x with | .good v => some v | _ => none)) ∧
      (f.excludedSet[i.val]? = none → fieldAt l (59 + 4 * i.val) 4 = 0)) ∧
    (f.raggedMask = none → fieldAt l 91 6 = 0) ∧ (∀ m, f.raggedMask = some m → pointsAre l 91 m) ∧
    secondIs l 97 f.raggedSecond ∧ secondIs l 101 f.frameSecond := by
  simp only [State.coilReport, State.coilSeqBytes, State.faceBytes, List.append_assoc, List.cons_append, List.nil_append] at hl
  rw [← hr, ← hf] at hl
  have h0 := reportStart hl
  have h1 := behindByte 1 h0
  have h2 := behindByte 2 h1
  have h3 := behindByte 3 h2
  have h4 := behindByte 4 h3
  have h5 := behindByte 5 h4
  have h7 := behind 7 h5 (timerBytes_length _)
  have h8 := behindByte 8 h7
  have h9 := behindByte 9 h8
  have h10 := behindByte 10 h9
  have h30 := behind 30 h10 (padTo_length _ _)
  have h33 := behind 33 h30 (bytesBE_length _ _)
  have h34 := behindByte 34 h33
  have h35 := behindByte 35 h34
  have h36 := behindByte 36 h35
  have h37 := behindByte 37 h36
  have h39 := behind 39 h37 (tempBytes_length _)
  have h41 := behind 41 h39 (tempBytes_length _)
  have h43 := behind 43 h41 (tempBytes_length _)
  have h44 := behindByte 44 h43
  have h46 := behind 46 h44 (tempBytes_length _)
  have h52 := behind 52 h46 (pointSetBytes_length _)
  have h58 := behind 58 h52 (pointSetBytes_length _)
  have h59 := behindByte 59 h58
  have h91 := behind 91 h59 (padTo_length _ _)
  have h97 := behind 97 h91 (pointSetBytes_length _)
  have h101 := behind 101 h97 (secondBytes_length _)
  refine ⟨fieldAt_number h0, flagsAre_byte h1, fieldAt_number h2, fieldAt_byte h3, fieldIs_u8 h4, timerIs_part h5, fieldAt_byte h7,
    flagsAre_part h8, fieldIs_u8 h9, fun i => ⟨fun e he => ?_, fun none => ?_⟩, fieldIs_bytes h30, fieldAt_byte h33, fieldIs_u8 h34,
    fieldAt_byte h35, fieldIs_u8 h36, tempIs_part h37, tempIs_part h39, tempIs_part h41, fieldAt_byte h43, tempIs_part h44,
    pointsAre_part h46, pointsAre_part h52, fieldIs_u8 h58, fun i => ⟨fun p x hx => ?_, fun none => ?_⟩, fun none => ?_, fun m some => ?_,
    secondIs_part h97, secondIs_end h101⟩
  · rw [fieldAt_padded h10 (fun t => bytesBE_length 4 t.toNat) he 0 le_rfl (by omega) (by omega), fieldAt_bytesBE]
    exact Nat.mod_eq_of_lt e.isLt
  · exact fieldAt_unused h10 (fun t => bytesBE_length 4 t.toNat) none (by omega) rfl
  · obtain ⟨point, code, temp⟩ := excludedBytes_fields p x
    rw [← temp_eq]
    refine ⟨?_, ?_, ?_⟩
    · rw [fieldAt_padded h59 excludedBytes_length hx 0 (by omega) (by omega) (by omega)]
      exact point
    · rw [fieldAt_padded h59 excludedBytes_length hx 1 (by omega) (by omega) (by omega)]
      exact code
    · exact tempIs_of_field (fieldAt_padded h59 excludedBytes_length hx 2 (by omega) (by omega) (by omega)) temp
  · exact fieldAt_unused h59 excludedBytes_length none (by omega) rfl
  · rw [none] at h91
    exact (fieldAt_first h91 (by rw [pointSetBytes_length])).trans pointSetBytes_empty
  · rw [some] at h91
    exact pointsAre_part h91

theorem coilReport_length (s : State) (k : Fin 6) : (s.coilReport k).length = 105 := by
  simp [State.coilReport, State.coilSeqBytes, State.faceBytes, timerBytes_length, tempBytes_length, secondBytes_length,
    pointSetBytes_length]

/-! ## The trip report (R173) -/

theorem tripReport_none {s : State} {k : Fin 6} (h : (s.coils.at k).tripRecord = none) : s.tripReport k = [encNumber k, 0] := by
  unfold State.tripReport
  rw [h]

theorem tripReport_some {s : State} {k : Fin 6} {r : TripRecord} (h : (s.coils.at k).tripRecord = some r) :
    s.tripReport k = encNumber k :: 1 :: r.bytes := by
  unfold State.tripReport
  rw [h]
  rfl

theorem tripBytes_length (r : TripRecord) : r.bytes.length = 35 := by
  simp [TripRecord.bytes, tempBytes_length, pointSetBytes_length]

theorem tripReport_fields (s : State) (k : Fin 6) (l : List Byte) (hl : l = s.tripReport k) :
    fieldAt l 0 1 = k.val + 1 ∧ flagsAre l 1 [(s.coils.at k).tripRecord.isSome] ∧
    ∀ r, (s.coils.at k).tripRecord = some r →
      fieldAt l 2 4 = r.second.toNat ∧ fieldAt l 6 1 = r.cause.code.toNat ∧ fieldAt l 7 1 = r.stageLeft.code.toNat ∧
      tempIs l 8 r.cEff ∧ tempIs l 10 r.held ∧ tempIs l 12 r.mean ∧ tempIs l 14 r.spread ∧
      fieldAt l 16 1 = r.face.code.toNat ∧ fieldIs l 17 3 r.e ∧ tempIs l 20 r.lwt ∧ tempIs l 22 r.lat ∧
      pointsAre l 24 r.validMask ∧ pointsAre l 30 r.missingMask ∧ fieldIs l 36 1 r.historyCount := by
  cases record : (s.coils.at k).tripRecord with
  | none =>
    have h0 := reportStart (hl.trans (tripReport_none record))
    have h1 : l.drop 1 = [flagByte false] := behindByte 1 h0
    exact ⟨fieldAt_number h0, flagsAre_byte h1, fun r h => by cases h⟩
  | some r =>
    rw [tripReport_some record] at hl
    simp only [TripRecord.bytes, List.append_assoc, List.cons_append, List.nil_append] at hl
    have h0 := reportStart hl
    have h1 := behindByte 1 h0
    have h2 := behindByte 2 h1
    have h6 := behind 6 h2 (bytesBE_length _ _)
    have h7 := behindByte 7 h6
    have h8 := behindByte 8 h7
    have h10 := behind 10 h8 (tempBytes_length _)
    have h12 := behind 12 h10 (tempBytes_length _)
    have h14 := behind 14 h12 (tempBytes_length _)
    have h16 := behind 16 h14 (tempBytes_length _)
    have h17 := behindByte 17 h16
    have h20 := behind 20 h17 (bytesBE_length _ _)
    have h22 := behind 22 h20 (tempBytes_length _)
    have h24 := behind 24 h22 (tempBytes_length _)
    have h30 := behind 30 h24 (pointSetBytes_length _)
    have h36 := behind 36 h30 (pointSetBytes_length _)
    refine ⟨fieldAt_number h0, flagsAre_byte (f := true) h1, fun r' same => ?_⟩
    obtain rfl := Option.some.inj same
    exact ⟨fieldAt_seconds h2, fieldAt_byte h6, fieldAt_byte h7, tempIs_part h8, tempIs_part h10, tempIs_part h12, tempIs_part h14,
      fieldAt_byte h16, fieldIs_bytes h17, tempIs_part h20, tempIs_part h22, pointsAre_part h24, pointsAre_part h30, fieldIs_u8 h36⟩

end Sys2Proof.Machine
end

section
/-! PROOF. The point, channel and alert reports field by field (O17). -/

namespace Sys2Proof.Machine

open Sys2Proof

/-! ## The point report (R178) -/

theorem getElem?_of_drop {l m : List Byte} {b : Byte} {i : Nat} (h : l.drop i = b :: m) : l[i]? = some b := by
  have first : (l.drop i)[0]? = some b := by rw [h]; rfl
  rw [List.getElem?_drop] at first
  exact first

theorem pointEntry_length (s : State) (g : Fin 3) (p : Fin 48) : (s.pointEntry g p).length = 14 := by
  simp [State.pointEntry, tempBytes_length, secondBytes_length]

theorem encOptCoil_field {l m : List Byte} {i : Nat} {c : Option (Fin 6)} (h : l.drop i = encOptCoil c :: m) :
    fieldAt l i 1 = (match (generalizing := false) c with | none => 0xFF | some k => k.val + 1) := by
  cases c with
  | none => exact fieldAt_byte h
  | some k => exact fieldAt_number (k := k) h

theorem pointNumber_field {l m : List Byte} {i : Nat} {c : Option (Fin 48)} (h : l.drop i = pointNumber c :: m) :
    (c = none → fieldAt l i 1 = 0xFF) ∧ ∀ p, c = some p → fieldAt l i 1 = p.val + 1 := by
  refine ⟨fun none => ?_, fun p some => ?_⟩
  · rw [none] at h
    exact fieldAt_byte h
  · rw [some] at h
    exact fieldAt_number (k := p) h

/-- The fields of a point's entry. -/
theorem pointEntry_fields (s : State) (g : Fin 3) (p : Fin 48) (l : List Byte) (c : PointCfg) (h : Health) (hl : l = s.pointEntry g p)
    (hc : c = s.tables.points.at p) (hh : h = s.health.at p) :
    fieldAt l 0 1 = p.val + 1 ∧ flagsAre l 1 [c.enabled, c.included] ∧ fieldIs l 2 1 c.address ∧
    fieldAt l 3 1 = (match c.coil with | none => 0xFF | some k => k.val + 1) ∧ fieldAt l 4 1 = h.state.code.toNat ∧
    fieldIs l 5 1 h.misses ∧ tempIs l 6 h.lastGood ∧ secondIs l 8 h.lastGoodSecond ∧
    fieldAt l 12 1 = (resultCode h.lastOutcome).toNat ∧ fieldAt l 13 1 = (resultCode (s.frameResult g p)).toNat := by
  simp only [State.pointEntry, List.append_assoc, List.cons_append, List.nil_append] at hl
  rw [← hc, ← hh] at hl
  have h0 := reportStart hl
  have h1 := behindByte 1 h0
  have h2 := behindByte 2 h1
  have h3 := behindByte 3 h2
  have h4 := behindByte 4 h3
  have h5 := behindByte 5 h4
  have h6 := behindByte 6 h5
  have h8 := behind 8 h6 (tempBytes_length _)
  have h12 := behind 12 h8 (secondBytes_length _)
  have h13 := behindByte 13 h12
  exact ⟨fieldAt_number h0, flagsAre_part h1, fieldIs_u8 h2, encOptCoil_field h3, fieldAt_byte h4, fieldIs_u8 h5, tempIs_part h6,
    secondIs_part h8, fieldAt_byte h12, fieldAt_byte h13⟩

theorem frameResult_fields (s : State) (g : Fin 3) (p : Fin 48) :
    ((∀ e ∈ (s.masters.at g).snapshot, e.point ≠ p) → s.frameResult g p = none) ∧
    ∀ e, (s.masters.at g).snapshot.find? (fun e => e.point == p) = some e → s.frameResult g p = e.result := by
  unfold State.frameResult
  refine ⟨fun none => ?_, fun e found => ?_⟩
  · rw [List.find?_eq_none.mpr fun e he => by simpa using none e he]
    rfl
  · rw [found]
    rfl

theorem pointsFrom_eq (s : State) (g : Fin 3) (start : Fin 48) : s.pointsFrom g start =
    (List.finRange 48).filter (fun p => decide ((s.tables.points.at p).segment = g) && decide (start ≤ p)) := by
  unfold State.pointsFrom
  exact List.filter_congr fun p _ => Bool.decide_and _ _

theorem pointReport_fields (s : State) (g : Fin 3) (start : Fin 48) (l : List Byte) (m : Master) (named : List (Fin 48))
    (hl : l = s.pointReport g start) (hm : m = s.masters.at g)
    (hnamed : named = (List.finRange 48).filter (fun p => decide ((s.tables.points.at p).segment = g) && decide (start ≤ p))) :
    fieldAt l 0 1 = g.val + 1 ∧ fieldAt l 1 1 = m.state.code.toNat ∧ fieldIs l 2 1 m.intervalAtOpen ∧
    (m.position = none → fieldAt l 3 1 = 0xFF) ∧ (∀ e, m.position = some e → fieldAt l 3 1 = e.point.val + 1) ∧
    fieldIs l 4 2 m.framesOpened ∧ fieldIs l 6 2 m.framesCutShort ∧ flagsAre l 8 [m.busFault] ∧
    (named[16]? = none → fieldAt l 9 1 = 0xFF) ∧ (∀ p, named[16]? = some p → fieldAt l 9 1 = p.val + 1) ∧
    fieldAt l 10 1 = min 16 named.length ∧
    ∀ (i : Fin 16) (p : Fin 48) (c : PointCfg) (h : Health), named[i.val]? = some p → c = s.tables.points.at p →
      h = s.health.at p →
      fieldAt l (11 + 14 * i.val) 1 = p.val + 1 ∧ flagsAre l (12 + 14 * i.val) [c.enabled, c.included] ∧
      fieldIs l (13 + 14 * i.val) 1 c.address ∧
      fieldAt l (14 + 14 * i.val) 1 = (match c.coil with | none => 0xFF | some k => k.val + 1) ∧
      fieldAt l (15 + 14 * i.val) 1 = h.state.code.toNat ∧ fieldIs l (16 + 14 * i.val) 1 h.misses ∧
      tempIs l (17 + 14 * i.val) h.lastGood ∧ secondIs l (19 + 14 * i.val) h.lastGoodSecond ∧
      fieldAt l (23 + 14 * i.val) 1 = (resultCode h.lastOutcome).toNat ∧
      ((∀ e ∈ m.snapshot, e.point ≠ p) → fieldAt l (24 + 14 * i.val) 1 = 0) ∧
      ∀ e, m.snapshot.find? (fun e => e.point == p) = some e →
        fieldAt l (24 + 14 * i.val) 1 = (resultCode e.result).toNat := by
  have from_ : s.pointsFrom g start = named := (pointsFrom_eq s g start).trans hnamed.symm
  simp only [State.pointReport, List.append_assoc, List.cons_append, List.nil_append] at hl
  rw [from_, ← hm, List.head?_drop] at hl
  have h0 := reportStart hl
  have h1 := behindByte 1 h0
  have h2 := behindByte 2 h1
  have h3 := behindByte 3 h2
  have h4 := behindByte 4 h3
  have h6 := behind 6 h4 (bytesBE_length _ _)
  have h8 := behind 8 h6 (bytesBE_length _ _)
  have h9 := behindByte 9 h8
  have h10 := behindByte 10 h9
  have h11 : l.drop 11 = (named.take 16).flatMap (s.pointEntry g) ++ [] := (behindByte 11 h10).trans (List.append_nil _).symm
  obtain ⟨free, taken⟩ := pointNumber_field h3
  obtain ⟨last, next⟩ := pointNumber_field h9
  refine ⟨fieldAt_number h0, fieldAt_byte h1, fieldIs_u8 h2, fun none => free (by rw [none]; rfl),
    fun e some => taken e.point (by rw [some]; rfl), fieldIs_bytes h4, fieldIs_bytes h6, flagsAre_byte h8, last, next, ?_,
    fun i p c h hp hc hh => ?_⟩
  · rw [← List.length_take]
    exact fieldIs_u8 h10 (by rw [List.length_take]; omega)
  · have entry : (named.take 16)[i.val]? = some p := by
      rw [List.getElem?_take_of_lt i.isLt]
      exact hp
    have field (o n q : Nat) (fits : o + n ≤ 14) (place : q = 11 + (14 * i.val + o)) :
        fieldAt l q n = fieldAt (s.pointEntry g p) o n :=
      fieldAt_entry h11 (pointEntry_length s g) entry o fits place
    obtain ⟨number, flags, address, coil, state, misses, good, second, outcome, result⟩ := pointEntry_fields s g p _ c h rfl hc hh
    obtain ⟨none, found⟩ := frameResult_fields s g p
    rw [← hm] at none found
    refine ⟨(field 0 1 _ (by omega) (by omega)).trans number, flagsAre_of_field (field 1 1 _ (by omega) (by omega)) flags,
      fieldIs_of_field (field 2 1 _ (by omega) (by omega)) address, (field 3 1 _ (by omega) (by omega)).trans coil,
      (field 4 1 _ (by omega) (by omega)).trans state, fieldIs_of_field (field 5 1 _ (by omega) (by omega)) misses,
      tempIs_of_field (field 6 2 _ (by omega) (by omega)) good, secondIs_of_field (field 8 4 _ (by omega) (by omega)) second,
      (field 12 1 _ (by omega) (by omega)).trans outcome, fun absent => ?_, fun e he => ?_⟩
    · rw [field 13 1 _ (by omega) (by omega), result, none absent]
      rfl
    · rw [field 13 1 _ (by omega) (by omega), result, found e he]

theorem pointReport_length (s : State) (g : Fin 3) (p : Fin 48) :
    ∃ n, n ≤ 16 ∧ (s.pointReport g p).length = 11 + 14 * n ∧ (s.pointReport g p)[10]? = some (u8 n) := by
  refine ⟨((s.pointsFrom g p).take 16).length, List.length_take_le _ _, ?_, ?_⟩
  · unfold State.pointReport
    dsimp only
    rw [List.length_append, flatMap_length_const (pointEntry_length s g)]
    simp
  · obtain ⟨l, hl⟩ : ∃ l, l = s.pointReport g p := ⟨_, rfl⟩
    rw [← hl]
    simp only [State.pointReport, List.append_assoc, List.cons_append, List.nil_append] at hl
    have h0 := reportStart hl
    have h4 := behindByte 4 (behindByte 3 (behindByte 2 (behindByte 1 h0)))
    have h8 := behind 8 (behind 6 h4 (bytesBE_length _ _)) (bytesBE_length _ _)
    exact getElem?_of_drop (behindByte 10 (behindByte 9 h8))

/-! ## The channel report (R179) -/

theorem channelBytes_length (r : ChannelRec) : r.bytes.length = 7 := by
  simp [ChannelRec.bytes, i16]

theorem channelBytes_fields (r : ChannelRec) (l : List Byte) (hl : l = r.bytes) : fieldIs l 0 2 r.code ∧
    tempIs l 2 (some r.temperature) ∧ fieldAt l 4 1 = r.status.code.toNat ∧ fieldIs l 5 2 r.conversions := by
  simp only [ChannelRec.bytes, List.append_assoc, List.cons_append, List.nil_append] at hl
  have h0 := reportStart hl
  have h2 : l.drop 2 = tempBytes (some r.temperature) ++ _ := behind 2 h0 (bytesBE_length _ _)
  have h4 := behind 4 h2 (tempBytes_length _)
  have h5 : l.drop 5 = bytesBE 2 r.conversions ++ [] := (behindByte 5 h4).trans (List.append_nil _).symm
  exact ⟨fieldIs_bytes h0, tempIs_part h2, fieldAt_byte h4, fieldIs_bytes h5⟩

theorem channelReport_fields (s : State) (l : List Byte) (hl : l = s.channelReport) :
    (∀ c : Fin 16, fieldIs l (7 * c.val) 2 (s.channels.at c).code ∧
      tempIs l (7 * c.val + 2) (some (s.channels.at c).temperature) ∧
      fieldAt l (7 * c.val + 4) 1 = (s.channels.at c).status.code.toNat ∧
      fieldIs l (7 * c.val + 5) 2 (s.channels.at c).conversions) ∧
    fieldIs l 112 1 s.sampler.passList.length ∧
    (∀ i : Fin 16, (∀ c, s.sampler.passList[i.val]? = some c → fieldAt l (113 + i.val) 1 = c.val) ∧
      (s.sampler.passList[i.val]? = none → fieldAt l (113 + i.val) 1 = 0)) ∧
    fieldIs l 129 1 s.sampler.position ∧ (fieldAt l 130 1 = if s.tables.scan = s.sampler.passList then 0 else 1) := by
  simp only [State.channelReport, List.append_assoc, List.cons_append, List.nil_append] at hl
  rw [List.map_eq_flatMap] at hl
  have each (c : Fin 16) : (s.channels.at c).bytes.length = 7 := channelBytes_length _
  have one (c : Fin 16) : [u8 c.val].length = 1 := rfl
  have h0 := reportStart hl
  have h112 := behind 112 h0 (flatMap_length_const each _) (by rw [List.length_finRange])
  have h113 := behindByte 113 h112
  have h129 := behind 129 h113 (padTo_length _ _)
  have h130 := behindByte 130 h129
  refine ⟨fun c => ?_, fieldIs_u8 h112, fun i => ⟨fun c hc => ?_, fun none => ?_⟩, fieldIs_u8 h129, ?_⟩
  · have field (o n q : Nat) (fits : o + n ≤ 7) (place : q = 0 + (7 * c.val + o)) :
        fieldAt l q n = fieldAt (s.channels.at c).bytes o n :=
      fieldAt_entry h0 each (finRange_entry c) o fits place
    obtain ⟨code, temp, status, conversions⟩ := channelBytes_fields _ _ (rfl : (s.channels.at c).bytes = _)
    exact ⟨fieldIs_of_field (field 0 2 _ (by omega) (by omega)) code, tempIs_of_field (field 2 2 _ (by omega) (by omega)) temp,
      (field 4 1 _ (by omega) (by omega)).trans status, fieldIs_of_field (field 5 2 _ (by omega) (by omega)) conversions⟩
  · rw [fieldAt_padded h113 one hc 0 le_rfl (by omega) (by omega)]
    exact (fieldAt_cons_zero _ []).trans ((u8_toNat _).trans (Nat.mod_eq_of_lt (by omega)))
  · exact fieldAt_unused h113 one none (by omega) (by omega)
  · rw [fieldAt_byte h130]
    by_cases same : s.tables.scan = s.sampler.passList
    · rw [if_pos same, same, bne_self_eq_false]
      rfl
    · rw [if_neg same, bne_iff_ne.mpr same]
      rfl

theorem channelReport_length (s : State) : s.channelReport.length = 131 := by
  unfold State.channelReport
  rw [List.length_append, List.length_append, List.length_append, flatMap_length_const fun c => channelBytes_length (s.channels.at c)]
  simp

/-! ## The alert report (R180) -/

theorem testBit_of_number {v i : Nat} {m : Bool} (h : v / 2 ^ i % 2 = if m then 1 else 0) : v.testBit i = m := by
  rw [Nat.testBit_eq_decide_div_mod_eq, h]
  cases m <;> rfl

/-- The parts of a source's byte. -/
theorem sourceBits {c r v : Nat} (hc : c < 8) (hr : r < 4) (m a b : Bool)
    (hv : v = c + 8 * (if m then 1 else 0) + 16 * r + 64 * (if a then 1 else 0) + 128 * (if b then 1 else 0)) :
    v < 256 ∧ v % 8 = c ∧ v.testBit 3 = m ∧ v / 16 % 4 = r ∧ v.testBit 6 = a ∧ v.testBit 7 = b := by
  have bit (q : Bool) : (if q then 1 else 0) < 2 := by cases q <;> decide
  have hm := bit m
  have ha := bit a
  have hb := bit b
  refine ⟨?_, ?_, testBit_of_number ?_, ?_, testBit_of_number ?_, testBit_of_number ?_⟩
  all_goals
    generalize (if m then 1 else 0) = M at *
    generalize (if a then 1 else 0) = A at *
    generalize (if b then 1 else 0) = B at *
    omega

theorem membershipCode_lt (m : Membership) : m.code < 4 := by cases m <;> decide

theorem memberOf_iff (s : State) (m : Membership) (x : Fin 65) : s.memberOf m x = true ↔ (s.alerts.sources.at x).membership = m :=
  beq_iff_eq

theorem sourceByte_fields (s : State) (x : Fin 65) : (s.sourceByte x).toNat % 8 = (s.tables.sources.at x).cls.val ∧
    (s.sourceByte x).toNat.testBit 3 = (s.tables.sources.at x).masked ∧
    (s.sourceByte x).toNat / 16 % 4 = (s.alerts.sources.at x).membership.code ∧
    (s.sourceByte x).toNat.testBit 6 = isLevel x ∧
    (s.sourceByte x).toNat.testBit 7 = (isLevel x && (s.alerts.sources.at x).condition) := by
  obtain ⟨small, parts⟩ := sourceBits (s.tables.sources.at x).cls.isLt (membershipCode_lt (s.alerts.sources.at x).membership)
    (s.tables.sources.at x).masked (isLevel x) (isLevel x && (s.alerts.sources.at x).condition) rfl
  have value : (s.sourceByte x).toNat = _ := (u8_toNat _).trans (Nat.mod_eq_of_lt small)
  rw [value]
  exact parts

theorem alertReport_fields (s : State) (l : List Byte) (hl : l = s.alertReport) :
    fieldIs l 0 1 s.alerts.stack.length ∧
    (∀ i : Fin 8,
      (∀ e, s.alerts.stack.reverse[i.val]? = some e →
        fieldAt l (1 + 2 * i.val) 1 = e.source.val ∧ fieldAt l (2 + 2 * i.val) 1 = e.cls.val + 1) ∧
      (s.alerts.stack.reverse[i.val]? = none → fieldAt l (1 + 2 * i.val) 2 = 0)) ∧
    (∀ x : Fin 65,
      ((fieldAt l 17 9).testBit x.val = true ↔ (s.alerts.sources.at x).membership = .pending) ∧
      ((fieldAt l 26 9).testBit x.val = true ↔ (s.alerts.sources.at x).membership = .standing) ∧
      fieldAt l (35 + x.val) 1 % 8 = (s.tables.sources.at x).cls.val ∧
      (fieldAt l (35 + x.val) 1).testBit 3 = (s.tables.sources.at x).masked ∧
      fieldAt l (35 + x.val) 1 / 16 % 4 = (s.alerts.sources.at x).membership.code ∧
      (fieldAt l (35 + x.val) 1).testBit 6 = isLevel x ∧
      (fieldAt l (35 + x.val) 1).testBit 7 = (isLevel x && (s.alerts.sources.at x).condition)) ∧
    (∀ c : Fin 8, fieldAt l (100 + c.val) 1 = (s.alerts.pointers.at c).val) ∧
    fieldIs l 108 1 s.tables.autoAck ∧ flagsAre l 109 [s.alertLine] := by
  simp only [State.alertReport, List.append_assoc, List.cons_append, List.nil_append] at hl
  have pair (e : StackEntry) : [u8 e.source.val, u8 (classNumber e.cls)].length = 2 := rfl
  have h0 := reportStart hl
  have h1 := behindByte 1 h0
  have h17 := behind 17 h1 (padTo_length _ _)
  have h26 := behind 26 h17 (sourceSetBytes_length _)
  have h35 := behind 35 h26 (sourceSetBytes_length _)
  have h100 := behind 100 h35 (w := 65) (by rw [List.length_map, List.length_finRange])
  have h108 := behind 108 h100 (w := 8) (by rw [List.length_map, List.length_finRange])
  have h109 := behindByte 109 h108
  refine ⟨fieldIs_u8 h0, fun i => ⟨fun e he => ⟨?_, ?_⟩, fun none => ?_⟩, fun x => ?_, fun c => ?_, fieldIs_u8 h108, flagsAre_byte h109⟩
  · rw [fieldAt_padded h1 pair he 0 (by omega) (by omega) (by omega)]
    exact fieldIs_u8 (reportStart rfl) (lt_trans e.source.isLt (by decide))
  · rw [fieldAt_padded h1 pair he 1 (by omega) (by omega) (by omega)]
    exact fieldIs_u8 (behindByte 1 (reportStart rfl)) (lt_of_lt_of_le (Nat.succ_lt_succ e.cls.isLt) (by decide))
  · exact fieldAt_unused h1 pair none (by omega) rfl
  · have pending : fieldAt l 17 9 = fieldAt (sourceSetBytes (s.memberOf .pending)) 0 9 :=
      fieldAt_first h17 (by rw [sourceSetBytes_length])
    have standing : fieldAt l 26 9 = fieldAt (sourceSetBytes (s.memberOf .standing)) 0 9 :=
      fieldAt_first h26 (by rw [sourceSetBytes_length])
    rw [pending, standing, sourceSetBytes_testBit, sourceSetBytes_testBit, fieldAt_mapped h35 (finRange_entry x) rfl]
    exact ⟨memberOf_iff s _ x, memberOf_iff s _ x, sourceByte_fields s x⟩
  · rw [fieldAt_mapped h100 (finRange_entry c) rfl, u8_toNat]
    exact Nat.mod_eq_of_lt (lt_trans (s.alerts.pointers.at c).isLt (by decide))

theorem alertReport_length (s : State) : s.alertReport.length = 110 := by
  simp [State.alertReport, sourceSetBytes_length]

end Sys2Proof.Machine
end

section
/-! PROOF. The status report field by field, and the reports' lengths (O17). -/

namespace Sys2Proof.Machine

open Sys2Proof

/-! ## Its entries (R139, R176) -/

theorem outputEntry_length (s : State) (o : Fin 18) : (s.outputEntry o).length = 9 := by
  simp [State.outputEntry, timerBytes_length]

theorem outputEntry_fields (s : State) (o : Fin 18) (l : List Byte) (hl : l = s.outputEntry o) :
    fieldIs l 0 2 (s.outputs.value o) ∧ fieldIs l 2 2 (s.hostValue o) ∧ fieldIs l 4 2 (s.demands.at o).value ∧
    flagsAre l 6 [(s.demands.at o).received, (s.demands.at o).fresh] ∧ timerIs l 7 (s.demands.at o).timer := by
  simp only [State.outputEntry, List.append_assoc, List.cons_append, List.nil_append] at hl
  have h0 := reportStart hl
  have h2 := behind 2 h0 (bytesBE_length _ _)
  have h4 := behind 4 h2 (bytesBE_length _ _)
  have h6 := behind 6 h4 (bytesBE_length _ _)
  have h7 := behindByte 7 h6
  exact ⟨fieldIs_bytes h0, fieldIs_bytes h2, fieldIs_bytes h4, flagsAre_part h6, timerIs_end h7⟩

theorem value_valve (r : Outputs) (k : Fin 6) : r.value ⟨k.val, by omega⟩ = r.valves.at k := dif_pos k.isLt

theorem value_pump (r : Outputs) (k : Fin 6) : r.value ⟨k.val + 6, by omega⟩ = if r.pumps.at k then 1 else 0 := by
  have hk := k.isLt
  unfold Outputs.value
  rw [dif_neg (show ¬ k.val + 6 < 6 by omega), dif_pos (show k.val + 6 < 12 by omega)]
  simp only [Nat.add_sub_cancel]

theorem value_damper (r : Outputs) (u : Fin 3) : r.value ⟨u.val + 12, by omega⟩ = r.dampers.at u := by
  have hu := u.isLt
  unfold Outputs.value
  rw [dif_neg (show ¬ u.val + 12 < 6 by omega), dif_neg (show ¬ u.val + 12 < 12 by omega), dif_pos (show u.val + 12 < 15 by omega)]
  simp only [Nat.add_sub_cancel]

theorem value_fan (r : Outputs) (u : Fin 3) : r.value ⟨u.val + 15, by omega⟩ = if r.fans.at u then 1 else 0 := by
  unfold Outputs.value
  rw [dif_neg (show ¬ u.val + 15 < 6 by omega), dif_neg (show ¬ u.val + 15 < 12 by omega), dif_neg (show ¬ u.val + 15 < 15 by omega)]
  simp only [Nat.add_sub_cancel]

theorem storeCode_job (t : Store) (kind : JobKind) (phase : StorePhase) (h : t.job = some ⟨kind, phase⟩) :
    t.code.toNat = (match (generalizing := false) kind with | .save _ => 1 | .lockoutWrite => 2) ∧
    t.phaseCode.toNat = (match (generalizing := false) phase with
      | .imageErase => 1 | .imageProgram => 2 | .imageVerify => 3 | .areaProgram _ => 4 | .areaVerify _ => 5) := by
  unfold Store.code Store.phaseCode
  rw [h]
  constructor
  · cases kind <;> rfl
  · cases phase <;> rfl

/-! ## The status report (R176) -/

theorem statusReport_length (s : State) : s.statusReport.length = 210 := by
  unfold State.statusReport
  simp only [List.length_append, flatMap_length_const (outputEntry_length s), List.length_map, List.length_finRange, bytesBE_length,
    flatMap_length_const (f := s.coilEntry) (w := 2) fun _ => rfl]
  rfl

theorem statusReport_fields (s : State) (l : List Byte) (hl : l = s.statusReport) :
    fieldAt l 0 1 = s.mode.code.toNat ∧ fieldAt l 1 1 = (strapCode s.strap).toNat ∧ fieldIs l 2 1 s.validation.coil ∧
    fieldIs l 3 1 s.validation.reason ∧
    (s.store.job = none → fieldAt l 4 1 = 0 ∧ fieldAt l 5 1 = 0) ∧
    (∀ kind phase, s.store.job = some ⟨kind, phase⟩ →
      fieldAt l 4 1 = (match kind with | .save _ => 1 | .lockoutWrite => 2) ∧
      fieldAt l 5 1 = (match phase with
        | .imageErase => 1 | .imageProgram => 2 | .imageVerify => 3 | .areaProgram _ => 4 | .areaVerify _ => 5)) ∧
    flagsAre l 6 [s.store.pendingSave.isSome, s.store.pendingLockout] ∧ flagsAre l 7 [s.imageInvalid, s.areaDirty] ∧
    flagsAre l 8 ((List.finRange 6).map fun k => (s.coils.at k).lockout) ∧
    fieldAt l 9 4 = s.plantSeconds.toNat ∧ fieldIs l 13 2 s.link.errorCount ∧ fieldAt l 15 1 = s.link.lastError.code.toNat ∧
    fieldIs l 16 1 s.link.rxBuffer.length ∧ fieldAt l 17 1 = 4 - s.link.txQueue.length ∧
    (∀ u : Fin 3, fieldAt l (18 + u.val) 1 = (s.units.at u).stage.code.toNat) ∧
    (∀ k : Fin 6, fieldAt l (21 + 2 * k.val) 1 = (if (s.cfg k).present then (s.cfg k).unit.val + 1 else 0) ∧
      fieldAt l (22 + 2 * k.val) 1 = (s.coils.at k).stage.code.toNat) ∧
    (∀ k : Fin 6, fieldIs l (33 + 9 * k.val) 2 (s.outputs.valves.at k) ∧
      fieldAt l (87 + 9 * k.val) 2 = if s.outputs.pumps.at k then 1 else 0) ∧
    (∀ u : Fin 3, fieldIs l (141 + 9 * u.val) 2 (s.outputs.dampers.at u) ∧
      fieldAt l (168 + 9 * u.val) 2 = if s.outputs.fans.at u then 1 else 0) ∧
    (∀ o : Fin 18,
      fieldIs l (35 + 9 * o.val) 2 (s.hostValue o) ∧ fieldIs l (37 + 9 * o.val) 2 (s.demands.at o).value ∧
      flagsAre l (39 + 9 * o.val) [(s.demands.at o).received, (s.demands.at o).fresh] ∧
      timerIs l (40 + 9 * o.val) (s.demands.at o).timer) ∧
    (∀ i : Fin 15, flagsAre l (195 + i.val) [s.inputLevel i, (s.inputs.at i).debounced]) := by
  simp only [State.statusReport, List.append_assoc, List.cons_append, List.nil_append] at hl
  have pair (k : Fin 6) : (s.coilEntry k).length = 2 := rfl
  have h0 := reportStart hl
  have h1 := behindByte 1 h0
  have h2 := behindByte 2 h1
  have h3 := behindByte 3 h2
  have h4 := behindByte 4 h3
  have h5 := behindByte 5 h4
  have h6 := behindByte 6 h5
  have h7 := behindByte 7 h6
  have h8 := behindByte 8 h7
  have h9 := behindByte 9 h8
  have h13 := behind 13 h9 (bytesBE_length _ _)
  have h15 := behind 15 h13 (bytesBE_length _ _)
  have h16 := behindByte 16 h15
  have h17 := behindByte 17 h16
  have h18 := behindByte 18 h17
  have h21 := behind 21 h18 (w := 3) rfl
  have h33 := behind 33 h21 (w := 12) rfl
  have h195 := behind 195 h33 (flatMap_length_const (outputEntry_length s) _) (by rw [List.length_finRange])
  have entry (o : Fin 18) (a n q : Nat) (fits : a + n ≤ 9) (place : q = 33 + (9 * o.val + a)) :
      fieldAt l q n = fieldAt (s.outputEntry o) a n :=
    fieldAt_entry h33 (outputEntry_length s) (finRange_entry o) a fits place
  have output (o : Fin 18) := outputEntry_fields s o _ rfl
  have value (o : Fin 18) (q v : Nat) (hv : s.outputs.value o = v) (place : q = 33 + 9 * o.val) : fieldIs l q 2 v := by
    rw [← hv]
    exact fieldIs_of_field (entry o 0 2 _ (by omega) (by omega)) (output o).1
  have flag (b : Bool) : (if b then 1 else 0) < 256 ^ 2 := by cases b <;> decide
  refine ⟨fieldAt_byte h0, fieldAt_byte h1, fieldIs_u8 h2, fieldIs_u8 h3, fun idle => ?_, fun kind phase job => ?_, flagsAre_part h6,
    flagsAre_part h7, flagsAre_part h8, fieldAt_seconds h9, fieldIs_bytes h13, fieldAt_byte h15, fieldIs_u8 h16, ?_, fun u => ?_,
    fun k => ⟨?_, ?_⟩, fun k => ⟨?_, ?_⟩, fun u => ⟨?_, ?_⟩, fun o => ?_, fun i => ?_⟩
  · rw [fieldAt_byte h4, fieldAt_byte h5, Store.code, Store.phaseCode, idle]
    exact ⟨rfl, rfl⟩
  · rw [fieldAt_byte h4, fieldAt_byte h5]
    exact storeCode_job s.store kind phase job
  · exact fieldIs_u8 h17 (lt_of_le_of_lt (Nat.sub_le _ _) (by decide))
  · exact fieldAt_mapped (xs := List.finRange 3) h18 (finRange_entry u) rfl
  · rw [fieldAt_entry (xs := List.finRange 6) h21 pair (finRange_entry k) 0 (by omega) (by omega), State.coilEntry, fieldAt_cons_zero]
    split
    · exact (u8_toNat _).trans (Nat.mod_eq_of_lt (by omega))
    · rfl
  · rw [fieldAt_entry (xs := List.finRange 6) h21 pair (finRange_entry k) 1 (by omega) (by omega), State.coilEntry]
    exact fieldAt_cons_zero _ []
  · exact value ⟨k.val, by omega⟩ _ _ (value_valve s.outputs k) rfl
  · exact value ⟨k.val + 6, by omega⟩ _ _ (value_pump s.outputs k) (by dsimp only; omega) (flag _)
  · exact value ⟨u.val + 12, by omega⟩ _ _ (value_damper s.outputs u) (by dsimp only; omega)
  · exact value ⟨u.val + 15, by omega⟩ _ _ (value_fan s.outputs u) (by dsimp only; omega) (flag _)
  · obtain ⟨-, host, demand, flags, timer⟩ := output o
    exact ⟨fieldIs_of_field (entry o 2 2 _ (by omega) (by omega)) host, fieldIs_of_field (entry o 4 2 _ (by omega) (by omega)) demand,
      flagsAre_of_field (entry o 6 1 _ (by omega) (by omega)) flags, timerIs_of_field (entry o 7 2 _ (by omega) (by omega)) timer⟩
  · have inputs : l.drop 195 = (List.finRange 15).map s.inputEntry ++ [] := h195.trans (List.append_nil _).symm
    refine flagsAre_of_field ((fieldAt_mapped inputs (finRange_entry i) rfl).trans (fieldAt_cons_zero _ []).symm) ?_
    exact flagsAre_flagBits _ (by simp)

/-! ## The codes of the enumerations and the lengths (R170) -/

theorem tripReport_length {s : State} {k : Fin 6} :
    ((s.coils.at k).tripRecord = none → (s.tripReport k).length = 2) ∧
    ∀ r, (s.coils.at k).tripRecord = some r → (s.tripReport k).length = 37 := by
  refine ⟨fun none => ?_, fun r some => ?_⟩
  · rw [tripReport_none none]
    rfl
  · rw [tripReport_some some, List.length_cons, List.length_cons, tripBytes_length]

/-- Settles O17. -/
theorem reportsHaveTheirLengths : Obligations.ReportsHaveTheirLengths := by
  refine ⟨⟨rfl, rfl, rfl, rfl, rfl, rfl, rfl, rfl, rfl, fun _ => rfl, rfl, rfl, rfl, rfl, rfl⟩, fun s => ⟨⟨statusReport_length s,
    channelReport_length s, alertReport_length s, coilReport_length s, unitReport_length s, fun _ => tripReport_length.1,
    fun _ => tripReport_length.2, pointReport_length s⟩, fun l hl => ?_, coilReport_fields s, tripReport_fields s, unitReport_fields s,
    pointReport_fields s, channelReport_fields s, alertReport_fields s⟩⟩
  exact statusReport_fields s l hl

end Sys2Proof.Machine
end
